-- ==== Sys2Proof/Word.lean ====
section
/-! DEFINITION. The byte, the unit every frame of the part is made of (section 11.1 of
spec/11_frame_and_record_formats.md). -/

namespace Sys2Proof

/-- One byte of a frame on the upstream link or on a shelf segment. -/
abbrev Byte := BitVec 8

end Sys2Proof
end

