-- ==== Sys2Proof/Syntax.lean ====
section
/-! DEFINITION. The commands of the part: one constructor of `Instr` for each row of
spec/opcode_table.json. The table gives its rows no bits and no operands; the operands here are
what the rule of each row names (a tag, an index, a frame, a line level). A request row carries the
RMC's tag and the request's own bytes; a timer row names whose timer expired; a delivery row takes
the oldest delivery in flight of its kind, so that it needs no operand but, where a delivery has two
receivers, the receiver. -/

namespace Sys2Proof

/-- The level of an input line (R169). -/
inductive Level where
  | low
  | high
  deriving DecidableEq, Repr, Inhabited

/-- What is connected to an input pin at a sample: nothing, or a source driving a level (R169). -/
inductive PinDrive where
  | unconnected
  | driven (level : Level)
  deriving DecidableEq, Repr, Inhabited

/-- The eight tables, in the order section 11.3 numbers them. -/
inductive TableId where
  | node
  | limit
  | zone
  | leakChannel
  | leakMap
  | sequence
  | line
  | settings
  deriving DecidableEq, Repr, Inhabited

/-- The receiver of a delivery that goes to two blocks (R56, R126). -/
inductive Receiver where
  | zoneController
  | sequencer
  deriving DecidableEq, Repr, Inhabited

/-- The commands. Each docstring names the row of spec/opcode_table.json and its rule. -/
inductive Instr where
  /-- POWER_ON_RESET (R168). -/
  | powerOnReset
  /-- RESET_HARD (R159): the RESET HARD request. -/
  | resetHard (tag : Byte)
  /-- RESET_SOFT (R159): the RESET SOFT request. -/
  | resetSoft (tag : Byte)
  /-- HARD_RESET (R159): the reset a RESET HARD asked for. -/
  | hardReset
  /-- SOFT_RESET (R159): the reset a RESET SOFT asked for. -/
  | softReset
  /-- UPSTREAM_FRAME (R146): the bytes of a complete frame from the upstream link. -/
  | upstreamFrame (bytes : List Byte)
  /-- UPSTREAM_BYTE_TIMEOUT (R146). -/
  | upstreamByteTimeout
  /-- RX_FRAME_TAKEN (R147). -/
  | rxFrameTaken
  /-- TRANSMIT_START (R148). -/
  | transmitStart
  /-- TRANSMIT_DONE (R148). -/
  | transmitDone
  /-- KEEPALIVE (R157). -/
  | keepalive (tag : Byte)
  /-- KEEPALIVE_CLOSE_TIME (R157). -/
  | keepaliveCloseTime
  /-- STATUS_SUMMARY (R150), with the part number wanted (R175). -/
  | statusSummary (tag part : Byte)
  /-- STATUS_NODE (R44). -/
  | statusNode (tag entry : Byte)
  /-- STATUS_ZONE (R91). -/
  | statusZone (tag zone : Byte)
  /-- STATUS_CAPACITY (R58). -/
  | statusCapacity (tag part : Byte)
  /-- STATUS_RIDE (R128). -/
  | statusRide (tag part : Byte)
  /-- STATUS_LEAK (R145). -/
  | statusLeak (tag part : Byte)
  /-- STATUS_SEQUENCER (R108). -/
  | statusSequencer (tag part : Byte)
  /-- STATUS_SEGMENT (R20). -/
  | statusSegment (tag segment : Byte)
  /-- STATUS_QUEUES (R91). -/
  | statusQueues (tag part : Byte)
  /-- FLAG_TAKE (R154), with the 32-bit flag set named. -/
  | flagTake (tag : Byte) (flags : BitVec 32)
  /-- TABLE_LOAD (R161). -/
  | tableLoad (tag : Byte) (table : TableId) (start count : Byte)
  /-- TABLE_DATA (R162), with the payload carried. -/
  | tableData (tag : Byte) (payload : List Byte)
  /-- TABLE_READ (R165). -/
  | tableRead (tag : Byte) (table : TableId) (start count : Byte)
  /-- ZONE_ON (R84). -/
  | zoneOn (tag zone : Byte)
  /-- ZONE_OFF (R84). -/
  | zoneOff (tag zone : Byte)
  /-- ZONE_RESET (R84). -/
  | zoneReset (tag zone : Byte)
  /-- SEQ_RUN (R102). -/
  | seqRun (tag start count : Byte)
  /-- SEQ_STOP (R103). -/
  | seqStop (tag : Byte)
  /-- LEAK_CLEAR (R140). -/
  | leakClear (tag group : Byte)
  /-- EPO_CLEAR (R83). -/
  | epoClear (tag : Byte)
  /-- RIDE_RELEASE (R118). -/
  | rideRelease (tag : Byte)
  /-- NODE_ENABLE (R31). -/
  | nodeEnable (tag entry : Byte)
  /-- NODE_DISABLE (R31). -/
  | nodeDisable (tag entry : Byte)
  /-- IMAGE_SAVE (R166). -/
  | imageSave (tag : Byte)
  /-- IMAGE_SAVE_COMPLETE (R166), with whether the read-back CRC matches. -/
  | imageSaveComplete (crcMatches : Bool)
  /-- IMAGE_ERASE (R167). -/
  | imageErase (tag : Byte)
  /-- LOAD_WINDOW_EXPIRY (R163). -/
  | loadWindowExpiry
  /-- RELAY_POLL (R151): a POLL frame to the node address byte `dest`. -/
  | relayPoll (tag dest : Byte) (payload : List Byte)
  /-- RELAY_ITEM_READ (R151). -/
  | relayItemRead (tag dest : Byte) (payload : List Byte)
  /-- RELAY_ITEM_WRITE (R151). -/
  | relayItemWrite (tag dest : Byte) (payload : List Byte)
  /-- RELAY_FEED_SET (R151). -/
  | relayFeedSet (tag dest : Byte) (payload : List Byte)
  /-- RELAY_TIMER_EXPIRY (R153). -/
  | relayTimerExpiry (slot : Fin 8)
  /-- RELAY_ANSWER_PLACED (R153). -/
  | relayAnswerPlaced
  /-- POLL_TIMER_EXPIRY (R13). -/
  | pollTimerExpiry (segment : Fin 4)
  /-- SEND_COMPLETE (R8). -/
  | sendComplete (segment : Fin 4)
  /-- READBACK_MISMATCH (R8), with the index of the first differing byte. -/
  | readbackMismatch (segment : Fin 4) (index : Byte)
  /-- REPLY_FIRST_BYTE (R9). -/
  | replyFirstByte (segment : Fin 4)
  /-- REPLY_WINDOW_EXPIRY (R9). -/
  | replyWindowExpiry (segment : Fin 4)
  /-- REPLY_COMPLETE (R9), with the bytes of the reply. -/
  | replyComplete (segment : Fin 4) (bytes : List Byte)
  /-- REPLY_SILENCE (R9). -/
  | replySilence (segment : Fin 4)
  /-- GRACE_TIMER_EXPIRY (R52). -/
  | graceTimerExpiry
  /-- CAPACITY_SHED_TAKEN (R75). -/
  | capacityShedTaken
  /-- CAPACITY_SHED_COMPLETION (R54). -/
  | capacityShedCompletion
  /-- CAPACITY_DELIVERY (R56). -/
  | capacityDelivery (receiver : Receiver)
  /-- INRUSH_TIMER_EXPIRY (R71). -/
  | inrushTimerExpiry (zone : Fin 32)
  /-- RETRY_TIMER_EXPIRY (R72). -/
  | retryTimerExpiry (zone : Fin 32)
  /-- SEQ_ZONE_QUEUE_REQUEST (R85). -/
  | seqZoneQueueRequest
  /-- SEQ_ZONE_ANSWER (R96). -/
  | seqZoneAnswer
  /-- ZONE_STATE_DELIVERY (R97). -/
  | zoneStateDelivery
  /-- EPO_FAIL_NOTICE (R105). -/
  | epoFailNotice
  /-- STEP_TIMER_EXPIRY (R95). -/
  | stepTimerExpiry
  /-- AUTOSTART (R106). -/
  | autostart
  /-- SEQUENCER_RIDE_NOTICE (R104). -/
  | sequencerRideNotice
  /-- ENERGY_FIGURE_DELIVERY (R100). -/
  | energyFigureDelivery (receiver : Receiver)
  /-- CAPACITY_RIDE_NOTICE (R51). -/
  | capacityRideNotice
  /-- RIDE_DELIVERY_ZONE (R79). -/
  | rideDeliveryZone
  /-- CONFIRM_TIMER_EXPIRY (R113). -/
  | confirmTimerExpiry
  /-- BRIDGING_INRUSH_SHED (R76). -/
  | bridgingInrushShed
  /-- SETTLE_TIMER_EXPIRY (R115). -/
  | settleTimerExpiry
  /-- RECOMPUTE_TIMER_EXPIRY (R121). -/
  | recomputeTimerExpiry
  /-- PLAN_SHED_TAKEN (R124). -/
  | planShedTaken
  /-- PLAN_SHED_COMPLETION (R124). -/
  | planShedCompletion
  /-- EPISODE_WINDOW_EXPIRY (R117). -/
  | episodeWindowExpiry
  /-- LEAK_GROUP_DELIVERY (R80). -/
  | leakGroupDelivery
  /-- LINK_STATE_DELIVERY (R77). -/
  | linkStateDelivery
  /-- CHANNEL_CONFIRM_EXPIRY (R134). -/
  | channelConfirmExpiry (channel : Fin 32)
  /-- CHATTER_TIMER_EXPIRY (R135). -/
  | chatterTimerExpiry
  /-- BEACON_TIMER_EXPIRY (R143). -/
  | beaconTimerExpiry
  /-- LINE_SAMPLE (R170), with what is connected to the pin at the sample. -/
  | lineSample (line : Fin 11) (drive : PinDrive)
  deriving DecidableEq, Repr

end Sys2Proof
end

