-- ==== Sys2Proof/Decode.lean ====
section
/-! DEFINITION. The command a table word spells. No row of spec/opcode_table.json gives bits (each
row's "fields" is empty), so no word spells a command. The decoding that this part does do, of the
frames of its two serial sides, stands in Machine/Operands.lean. -/

namespace Sys2Proof

/-- The command that `nbits` bits `w` of an opcode-table row spell: none, since no row has bits. -/
def decodeTableWord (_nbits _w : Nat) : Option Instr := none

end Sys2Proof
end

