-- ==== Sys2Proof/Config.lean ====
section
/-! DEFINITION. The free values: what the manual leaves open although the part goes on. Each is a
constant without a body, so nothing can be proved of its value, and a claim holds whatever it is. -/

namespace Sys2Proof.Config

/-- R13 (spec/01): at a poll timer expiry the owed disables and the scan join the queue in either
order. `disablesFirst n` says which at the `n`-th use of a free value. Log entry 3. -/
opaque disablesFirst : Nat → Bool

/-- R169 (spec/10): under bias NONE an unconnected line reads whatever the pin floats to.
`floatsHigh n` is that level at the `n`-th use of a free value. Log entry 4. -/
opaque floatsHigh : Nat → Bool

/-- R175 (spec/11): a remaining time is given in the unit of its setting; how a part of a unit is
rounded is not stated. `roundsUp ms unit` says whether it counts as a whole one. Log entry 5. -/
opaque roundsUp : Nat → Nat → Bool

/-- R44, R144, R175: the byte that stands for "no state" (an entry that is not in use, a channel
that had no state) is not stated. Log entry 6. -/
opaque noStateByte : Byte

end Sys2Proof.Config
end

