-- ==== Sys2Proof/Machine/State.lean ====
section
/-! DEFINITION. The state of the part: every piece of state spec/ gives a block, the deliveries in
flight between blocks, and the queue of commands that are waiting. Plain data throughout. Quantities
are naturals (00_scope: "exact integer arithmetic"); bytes, flags and zone sets are bit vectors.
The states of each machine are listed in the order section 11.5 numbers them. -/

namespace Sys2Proof.Machine

/-! ## Refusals and faults -/

/-- Why the model gives a command no meaning. -/
inductive Refusal where
  /-- Answered by `exec` for a command not modelled yet (none is left): safe, the machine stops. -/
  | notModelled (mnemonic : String)
  deriving DecidableEq, Repr

/-- Why the part stops. No rule of spec/ stops it: every command ends in a next state, and a refused
request, a bad frame or a failed exchange is answered or counted. The type is closed and empty, so
no meaning can raise a fault: safe. -/
inductive Fault where
  deriving DecidableEq, Repr

/-! ## Timers -/

/-- A timer is stopped, or runs to the time (in ms of `State.now`) of its expiry. -/
inductive Timer where
  | stopped
  | running (deadline : Nat)
  deriving DecidableEq, Repr, Inhabited

/-! ## The configured tables (sections 9 and 11.6) -/

/-- R21. -/
inductive NodeKind where
  | rectifier
  | battery
  | feed
  | leak
  deriving DecidableEq, Repr, Inhabited

/-- R21, R37. -/
inductive ReportMode where
  | off
  | change
  | every
  deriving DecidableEq, Repr, Inhabited

/-- R21. -/
inductive Service where
  | enabled
  | disabled
  deriving DecidableEq, Repr, Inhabited

/-- The configured half of a Node Table entry (R21). -/
structure NodeCfg where
  inUse : Bool
  segment : Nat
  address : Nat
  kind : NodeKind
  rated : Nat
  pollEnable : Bool
  reportMode : ReportMode
  service : Service
  deriving DecidableEq, Repr, Inhabited

/-- R33. -/
inductive LimitAction where
  | note
  | degrade
  deriving DecidableEq, Repr, Inhabited

/-- A Limit Table entry (R33). -/
structure LimitCfg where
  enabled : Bool
  low : Nat
  high : Nat
  hysteresis : Nat
  confirm : Nat
  action : LimitAction
  deadband : Nat
  deriving DecidableEq, Repr, Inhabited

/-- The configured half of a Zone Table entry (R59). -/
structure ZoneCfg where
  inUse : Bool
  feedEntry : Nat
  output : Nat
  tier : Nat
  inrush : Nat
  steady : Nat
  window : Nat
  lockout : Nat
  deriving DecidableEq, Repr, Inhabited

/-- The configured half of a leak channel (R129). -/
structure ChannelCfg where
  inUse : Bool
  source : Nat
  sense : Nat
  group : Nat
  faultAsWet : Bool
  confirm : Nat
  chatter : Nat
  deriving DecidableEq, Repr, Inhabited

/-- A Leak Map entry (R137): zone `n` is in the zone set when bit `n` is one. -/
structure LeakMapCfg where
  vote : Nat
  zoneSet : BitVec 32
  deriving DecidableEq, Repr, Inhabited

/-- R92. -/
inductive StepKind where
  | zoneOn
  | waitOn
  | delay
  | waitHeadroom
  | waitCharge
  | mark
  deriving DecidableEq, Repr, Inhabited

/-- A step of the Sequence Table (R92). -/
structure StepCfg where
  kind : StepKind
  operand : Nat
  timeout : Nat
  deriving DecidableEq, Repr, Inhabited

/-- R169. -/
inductive Bias where
  | none
  | pullUp
  | pullDown
  deriving DecidableEq, Repr, Inhabited

/-- A Line Table record (R169). -/
structure LineCfg where
  enable : Bool
  bias : Bias
  active : Level
  filter : Nat
  interval : Nat
  deriving DecidableEq, Repr, Inhabited

/-- The configured contents of all eight tables: what TABLE_DATA writes, TABLE_READ returns and the
image stores. A setting stands at its index of R164. -/
structure Tables where
  nodes : Vector NodeCfg 48
  limits : Vector LimitCfg 24
  zones : Vector ZoneCfg 32
  channels : Vector ChannelCfg 32
  leakMap : Vector LeakMapCfg 8
  steps : Vector StepCfg 64
  lines : Vector LineCfg 11
  settings : Vector Nat 41
  deriving DecidableEq, Repr

/-! ## Segments (chapter 1) -/

/-- Section 1.1. -/
inductive SegState where
  | disabled
  | idle
  | exchange
  deriving DecidableEq, Repr, Inhabited

/-- R2. -/
inductive ExClass where
  | urgent
  | control
  | poll
  deriving DecidableEq, Repr, Inhabited

/-- R2: what an exchange sends. A RELAY carries the RMC's frame kind, tag and payload (R173). -/
inductive ExKind where
  | poll
  | feedSet (output : Nat) (on : Bool)
  | relay (kind tag : Byte) (payload : List Byte)
  deriving DecidableEq, Repr, Inhabited

/-- R2: the party told of the outcome. -/
inductive Owner where
  | scan
  | zoneController
  | relaySlot (slot : Nat)
  deriving DecidableEq, Repr, Inhabited

/-- An exchange record (R2). -/
structure Exchange where
  cls : ExClass
  target : Nat
  kind : ExKind
  owner : Owner
  retryUsed : Bool
  deriving DecidableEq, Repr, Inhabited

/-- Section 1.4. The numbers of STATUS SEGMENT, from 0 in this order, are the model's choice (log entry
67). -/
inductive Phase where
  | sending
  | waiting
  | receiving
  deriving DecidableEq, Repr, Inhabited

/-- The exchange on the wire: its record, its phase, the node address byte its frame went to, the
bytes of that frame, the reply window it started with (R1), the running reply window, and whether
its target entry was written meanwhile (R22). -/
structure Current where
  ex : Exchange
  phase : Phase
  dest : Byte
  wire : List Byte
  window : Nat
  timer : Timer
  stale : Bool
  deriving DecidableEq, Repr, Inhabited

/-- R15. No table numbers these two, and the numbers 0 and 1 of STATUS SUMMARY and STATUS SEGMENT are the
model's choice (DESIGN CHOICE, log entry 67). -/
inductive FirstScan where
  | pending
  | complete
  deriving DecidableEq, Repr, Inhabited

/-- The six counters of R20. -/
structure SegCounters where
  good : Nat
  readback : Nat
  noReply : Nat
  badReply : Nat
  retries : Nat
  refusedPolls : Nat
  deriving DecidableEq, Repr, Inhabited

/-- A segment and its controller. -/
structure Segment where
  state : SegState
  queue : List Exchange
  current : Option Current
  pollTimer : Timer
  firstScan : FirstScan
  polled : Vector Bool 48
  counters : SegCounters
  deriving DecidableEq, Repr, Inhabited

/-! ## Node records (chapter 2) -/

/-- R24. -/
inductive NodeState where
  | unseen
  | active
  | degraded
  | lost
  | disabled
  deriving DecidableEq, Repr, Inhabited

/-- An item slot (R23). -/
structure Slot where
  present : Bool
  value : Nat
  age : Nat
  confirm : Nat
  violation : Bool
  reported : Option Nat
  deriving DecidableEq, Repr, Inhabited

/-- R25: a cleared slot. -/
def Slot.clear : Slot := ⟨false, 0, 3, 0, false, none⟩

/-- The runtime half of a node entry (R23). Slots stand at their item codes; only those of the
entry's kind are ever present. The state means nothing for an entry not in use. -/
structure NodeRun where
  state : NodeState
  misses : Nat
  slots : Vector Slot 24
  deriving DecidableEq, Repr, Inhabited

/-! ## Capacity Unit (chapter 3) -/

/-- Section 3.4. -/
inductive CapState where
  | balanced
  | deficit
  | suspended
  deriving DecidableEq, Repr, Inhabited

/-- R45. -/
inductive Grace where
  | none
  | running
  | expired
  deriving DecidableEq, Repr, Inhabited

/-- The last shed record (R53). -/
structure CapShed where
  available : Nat
  committed : Nat
  remainder : Nat
  zones : List Nat
  exhausted : Bool
  deriving DecidableEq, Repr, Inhabited

/-- The Capacity Unit's record (R45). -/
structure Capacity where
  count : Nat
  available : Nat
  committed : Nat
  state : CapState
  grace : Grace
  graceTimer : Timer
  outstanding : Bool
  short : Bool
  lastShed : Option CapShed
  deficits : Nat
  sheds : Nat
  deriving DecidableEq, Repr, Inhabited

/-! ## Zone Controller (chapter 4) -/

/-- Section 4.2. -/
inductive ZoneState where
  | off
  | queued
  | inrush
  | on
  | shed
  | isolated
  | lockout
  deriving DecidableEq, Repr, Inhabited

/-- A zone's runtime record (R61). -/
structure ZoneRun where
  state : ZoneState
  attempts : Nat
  acked : Bool
  adoptPending : Bool
  disablePending : Bool
  retry : Timer
  inrush : Timer
  deriving DecidableEq, Repr, Inhabited

/-- Section 6.3. -/
inductive RideState where
  | normal
  | suspect
  | bridging
  | restoring
  deriving DecidableEq, Repr, Inhabited

/-- R157. -/
inductive LinkState where
  | unarmed
  | supervised
  | autonomous
  deriving DecidableEq, Repr, Inhabited

/-- R157. -/
inductive LinkAction where
  | hold
  | shed
  deriving DecidableEq, Repr, Inhabited

/-- R138. -/
inductive GroupState where
  | clear
  | watch
  | alarm
  | drying
  deriving DecidableEq, Repr, Inhabited

/-- The Zone Controller's fields (R61). The zones holding inrush slots are the zones in INRUSH
(R63), so they are not held twice. -/
structure ZoneCtl where
  zones : Vector ZoneRun 32
  queue : List Nat
  readmit : List Nat
  epoLatch : Bool
  epoLine : Bool
  cap : CapState
  ride : RideState
  energy : Nat
  conserve : Bool
  link : LinkState
  action : LinkAction
  shedTier : Nat
  groups : Vector GroupState 8
  deriving DecidableEq, Repr, Inhabited

/-! ## Sequencer (chapter 5) -/

/-- Section 5.2. -/
inductive SeqState where
  | idle
  | running
  | held
  | done
  | failed
  deriving DecidableEq, Repr, Inhabited

/-- R94. -/
inductive StepPhase where
  | none
  | asking
  | waiting
  deriving DecidableEq, Repr, Inhabited

/-- R94. -/
inductive FailReason where
  | timeout
  | epo
  | stopped
  deriving DecidableEq, Repr, Inhabited

/-- R94, R106. -/
inductive Autostart where
  | none
  | armed
  | started
  | cancelled
  deriving DecidableEq, Repr, Inhabited

/-- A program descriptor (R94). -/
structure Descriptor where
  start : Nat
  count : Nat
  deriving DecidableEq, Repr, Inhabited

/-- The fail record when it is not empty (R94). -/
structure FailRecord where
  step : Nat
  reason : FailReason
  deriving DecidableEq, Repr, Inhabited

/-- The Sequencer's record (R94); `stepInst` is the step's instance number. -/
structure Sequencer where
  state : SeqState
  desc : Option Descriptor
  pointer : Nat
  stepInst : Nat
  phase : StepPhase
  timer : Timer
  skips : Nat
  fail : Option FailRecord
  rideNormal : Bool
  autostart : Autostart
  deriving DecidableEq, Repr, Inhabited

/-! ## Ride-Through Unit (chapter 6) -/

/-- The copy kept for one BATTERY entry (R119). -/
structure BatteryCopy where
  active : Bool
  energy : Nat
  limit : Nat
  deriving DecidableEq, Repr, Inhabited

/-- R125. -/
inductive Occasion where
  | entry
  | recompute
  | battery
  deriving DecidableEq, Repr, Inhabited

/-- R123. -/
inductive PlanOutcome where
  | none
  | covered
  | exhausted
  deriving DecidableEq, Repr, Inhabited

/-- The last plan record (R125). -/
structure PlanRecord where
  episode : Nat
  occasion : Occasion
  elapsed : Nat
  batteries : Nat
  eSum : Nat
  eEff : Nat
  loadBefore : Nat
  holdBefore : Nat
  need : Nat
  cap : Nat
  target : Nat
  outcome : PlanOutcome
  loadAfter : Nat
  holdAfter : Nat
  shed : List Nat
  deriving DecidableEq, Repr, Inhabited

/-- Elapsed (R113): counting from the time of the present BRIDGING entry, or stopped at a value. -/
inductive Elapsed where
  | counting (since : Nat)
  | stopped (value : Nat)
  deriving DecidableEq, Repr, Inhabited

/-- The Ride-Through Unit's record (R109). The lost-input count is the number of marks in
`lostInput`, one for each RECTIFIER entry the unit counts (R111). `inrushShed` is the zones that the
last completion of its INRUSH shed request named (R76; log entry 28). -/
structure Ride where
  state : RideState
  indication : Bool
  linePart : Bool
  rectPart : Bool
  lostInput : Vector Bool 48
  copies : Vector BatteryCopy 48
  eSum : Nat
  pCap : Nat
  batteries : Nat
  energy : Nat
  elapsed : Elapsed
  confirm : Timer
  settle : Timer
  recompute : Timer
  window : Timer
  episodes : Nat
  conserve : Bool
  short : Bool
  pendingSet : List Nat
  lastPlan : Option PlanRecord
  inrushShed : Option (List Nat)
  bridgeLine : Bool
  deriving DecidableEq, Repr, Inhabited

/-! ## Leak Monitor (chapter 7) -/

/-- Section 7.2. -/
inductive ChannelState where
  | dry
  | pending
  | wet
  | fault
  deriving DecidableEq, Repr, Inhabited

/-- A channel's runtime record. The state means nothing for a channel not in use. -/
structure ChannelRun where
  state : ChannelState
  glitches : Nat
  timer : Timer
  deriving DecidableEq, Repr, Inhabited

/-- R143. -/
inductive Beacon where
  | fast
  | slow
  | steady
  | dark
  deriving DecidableEq, Repr, Inhabited

/-- The Leak Monitor's fields. -/
structure Leak where
  channels : Vector ChannelRun 32
  groups : Vector GroupState 8
  chatter : Timer
  pattern : Beacon
  beaconTimer : Timer
  beaconLine : Bool
  bridging : Bool
  deriving DecidableEq, Repr, Inhabited

/-! ## Line Conditioner (chapter 10) -/

/-- A candidate level and the time of the sample at which it began (R170). -/
structure Candidate where
  level : Level
  since : Nat
  deriving DecidableEq, Repr, Inhabited

/-- What the Line Conditioner holds for a line (R170). -/
structure LineRun where
  accepted : Option Level
  candidate : Option Candidate
  timer : Timer
  deriving DecidableEq, Repr, Inhabited

/-! ## Upstream Port, Request Handler, Image Store (chapters 8 and 9) -/

/-- A frame without its CRC (section 11.1). -/
structure Frame where
  dst : Byte
  src : Byte
  kind : Byte
  tag : Byte
  payload : List Byte
  deriving DecidableEq, Repr, Inhabited

/-- R160. No table numbers the kinds in RESTART's particulars, and 0, 1, 2 in the order of R160's text are
the model's choice (DESIGN CHOICE, log entry 67); a RESET request has numbers of its own (section
11.3). -/
inductive ResetKind where
  | powerOn
  | hard
  | soft
  deriving DecidableEq, Repr, Inhabited

/-- A queued response; `reset` marks the answer of a RESET request, after whose sending the reset is
carried out (R159). -/
structure Response where
  frame : Frame
  reset : Option ResetKind
  deriving DecidableEq, Repr, Inhabited

/-- The frame being sent on the upstream link: its bytes, and the mark of a RESET's answer. -/
structure Sending where
  bytes : List Byte
  reset : Option ResetKind
  deriving DecidableEq, Repr, Inhabited

/-- How far a requested reset has come (R159): none asked; asked, its response not yet sent; due,
its response sent. -/
inductive ResetPhase where
  | none
  | asked (kind : ResetKind)
  | due (kind : ResetKind)
  deriving DecidableEq, Repr, Inhabited

/-- The state of a taken relay slot (R153); an ANSWERING slot holds its answer and whether its
exchange is still pending. -/
inductive RelayState where
  | waiting
  | answering (answer : Frame) (exchangePending : Bool)
  | expired
  deriving DecidableEq, Repr, Inhabited

/-- A taken relay slot (R152); `dest` and `kind` are the node address byte and the frame kind the RMC
sent, which its answer carries (R173). -/
structure RelaySlot where
  tag : Byte
  target : Nat
  write : Bool
  dest : Byte
  kind : Byte
  timeout : Nat
  timer : Timer
  state : RelayState
  deriving DecidableEq, Repr, Inhabited

/-- The running keep-alive window (R157): its start, and the open and close times it started with. -/
structure KeepWindow where
  start : Nat
  openTime : Nat
  closeTime : Nat
  deriving DecidableEq, Repr, Inhabited

/-- R156. -/
inductive AlertSource where
  | flags
  | autonomous
  | leak
  | bridging
  deriving DecidableEq, Repr, Inhabited

/-- The Upstream Port (chapter 8). `answering` holds the slots waiting for a place, in the order
their answers were decided (R153). `leakAlarm` and `bridging` are as last delivered (R156).
`placeKept` holds while a taken frame is being served: the place its response takes (R147); the place of
an accepted relay is kept by its slot while that is WAITING. -/
structure Port where
  rx : List Frame
  responses : List Response
  reports : List Frame
  sending : Option Sending
  slots : Vector (Option RelaySlot) 8
  answering : List Nat
  flags : BitVec 24
  noticeOrder : Nat
  lost : Nat
  broken : Nat
  misaddressed : Nat
  link : LinkState
  window : Option KeepWindow
  errors : Nat
  goodRun : Nat
  alert : Bool
  leakAlarm : Bool
  bridging : Bool
  reset : ResetPhase
  placeKept : Bool
  deriving DecidableEq, Repr, Inhabited

/-- The open load record (R161). -/
structure LoadRecord where
  table : TableId
  next : Nat
  remaining : Nat
  deriving DecidableEq, Repr, Inhabited

/-- The Request Handler: the load record, closed or open, and the load window timer. -/
structure Loader where
  record : Option LoadRecord
  timer : Timer
  deriving DecidableEq, Repr, Inhabited

/-- Section 9.5. -/
inductive ImageStatus where
  | valid
  | invalid
  | erased
  deriving DecidableEq, Repr, Inhabited

/-- The Image Store: the image (tables and CRC), its status, and the copy being saved (SAVING when
there is one, IDLE when there is none; R166). -/
structure Image where
  status : ImageStatus
  tables : Tables
  crc : BitVec 16
  saving : Option Tables
  deriving DecidableEq, Repr

/-! ## The event flags (R154) and the settings (R164) -/

/-- The 24 event flags, numbered from 0 in this order (R154). -/
inductive EventFlag where
  | restart
  | rxOverrun
  | noticeLost
  | linkChange
  | loadEvent
  | image
  | segFault
  | scanOverrun
  | nodeChange
  | limit
  | deficit
  | capacityShort
  | zoneTrip
  | zoneLockout
  | epo
  | feedPending
  | seqSkip
  | seqMark
  | seqEnd
  | rideChange
  | rideShed
  | rideShort
  | leakAlarm
  | leakFault
  deriving DecidableEq, Repr, Inhabited

/-! ## Deliveries in flight -/

/-- R85. -/
inductive QueueAnswer where
  | refusedEpo
  | refused
  | queued
  | present
  deriving DecidableEq, Repr, Inhabited

/-- R56: a delivery of the Capacity Unit. -/
structure CapNews where
  state : CapState
  available : Nat
  committed : Nat
  deriving DecidableEq, Repr, Inhabited

/-- R54, R75: the completion of a shed request. -/
structure ShedDone where
  shed : List Nat
  passed : List Nat
  deriving DecidableEq, Repr, Inhabited

/-- R89: a zone state change. -/
structure ZoneNews where
  zone : Nat
  old : ZoneState
  new : ZoneState
  deriving DecidableEq, Repr, Inhabited

/-- R126: a ride-through delivery to the Zone Controller. -/
inductive RideNews where
  | state (new : RideState)
  | conserve (set : Bool)
  deriving DecidableEq, Repr, Inhabited

/-- R142: a group's change of state. -/
structure GroupNews where
  group : Nat
  old : GroupState
  new : GroupState
  deriving DecidableEq, Repr, Inhabited

/-- R158: a change of link supervision state. -/
structure LinkNews where
  state : LinkState
  action : LinkAction
  shedTier : Nat
  deriving DecidableEq, Repr, Inhabited

/-- A Sequencer request to queue a zone, or the answer to one, with its step instance (R95, R96). -/
structure SeqAsk where
  stepInst : Nat
  zone : Nat
  deriving DecidableEq, Repr, Inhabited

/-- R96. -/
structure SeqAnswer where
  stepInst : Nat
  answer : QueueAnswer
  deriving DecidableEq, Repr, Inhabited

/-- The deliveries that have been sent and not yet taken, each path oldest first. The reports of a
completed first scan (R15) and the notices of the EPO latch (R105) carry nothing and are counted. -/
structure Mail where
  capToZone : List CapNews
  capToSeq : List CapNews
  capShed : List (List Nat)
  capShedDone : List ShedDone
  zoneToSeq : List ZoneNews
  seqAsk : List SeqAsk
  seqAnswer : List SeqAnswer
  epoFail : Nat
  firstScans : Nat
  rideToCap : List Bool
  rideToSeq : List Bool
  rideToZone : List RideNews
  energyToZone : List Nat
  energyToSeq : List Nat
  planShed : List (List Nat)
  planShedDone : List ShedDone
  leakToZone : List GroupNews
  linkToZone : List LinkNews
  deriving DecidableEq, Repr, Inhabited

/-! ## The state -/

/-- The whole part. `now` is the time in ms that the timers are measured against, `free` counts the
free values used, `pending` is the queue of waiting commands, first in, first out. -/
structure State where
  now : Nat
  free : Nat
  pending : List Instr
  tables : Tables
  image : Image
  loader : Loader
  port : Port
  segs : Vector Segment 4
  nodes : Vector NodeRun 48
  cap : Capacity
  zc : ZoneCtl
  seq : Sequencer
  ride : Ride
  leak : Leak
  lines : Vector LineRun 11
  mail : Mail
  deriving DecidableEq, Repr

/-! ## The state after a power-on reset with nothing stored -/

/-- R168: the default of each setting, at its index (R164). Setting 32 is all 24 flags; setting 34
is EPO, CAPACITY_SHORT, RIDE_SHORT, ZONE_LOCKOUT, SEG_FAULT and LEAK_ALARM. -/
def defaultSettings : Vector Nat 41 :=
  #v[1, 10, 500, 1, 10, 500, 1, 10, 500, 1, 10, 500, 3, 1, 2000, 1, 5000, 0, 0, 0, 64, 2, 200, 100,
    1000, 3600, 3, 26, 243, 300, 10, 10000, 0xFFFFFF, 0, 0x606840, 500, 3000, 3, 0, 3, 5000]

/-- R168: the tables left empty. -/
def Tables.empty : Tables where
  nodes := Vector.replicate 48 ⟨false, 0, 0, .rectifier, 0, false, .off, .enabled⟩
  limits := Vector.replicate 24 ⟨false, 0, 65535, 0, 1, .note, 0⟩
  zones := Vector.replicate 32 ⟨false, 0, 0, 0, 0, 0, 50, 1⟩
  channels := Vector.replicate 32 ⟨false, 0, 0, 0, false, 0, 1⟩
  leakMap := Vector.replicate 8 ⟨1, 0#32⟩
  steps := Vector.replicate 64 ⟨.delay, 0, 0⟩
  lines := Vector.replicate 11 ⟨true, .pullUp, .low, 20, 1⟩
  settings := defaultSettings

/-- R22 step 2: a node record started afresh, UNSEEN. -/
def NodeRun.fresh : NodeRun := ⟨.unseen, 0, Vector.replicate 24 Slot.clear⟩

/-- R61: an OFF zone's record, not awaiting adoption. -/
def ZoneRun.off : ZoneRun := ⟨.off, 0, false, false, false, .stopped, .stopped⟩

/-- R19, R1: an enabled segment after a reset, its poll timer ending at `deadline`. -/
def Segment.idleAfterReset (deadline : Nat) : Segment where
  state := .idle
  queue := []
  current := none
  pollTimer := .running deadline
  firstScan := .pending
  polled := Vector.replicate 48 false
  counters := ⟨0, 0, 0, 0, 0, 0⟩

/-- No delivery in flight. -/
def Mail.empty : Mail :=
  ⟨[], [], [], [], [], [], [], 0, 0, [], [], [], [], [], [], [], [], []⟩

/-- R45: the Capacity Unit after every reset. -/
def Capacity.initial : Capacity :=
  ⟨0, 0, 0, .balanced, .none, .stopped, false, false, none, 0, 0⟩

/-- R109: the Ride-Through Unit after a power-on reset. -/
def Ride.initial : Ride where
  state := .normal
  indication := false
  linePart := false
  rectPart := false
  lostInput := Vector.replicate 48 false
  copies := Vector.replicate 48 ⟨false, 0, 0⟩
  eSum := 0
  pCap := 0
  batteries := 0
  energy := 0
  elapsed := .stopped 0
  confirm := .stopped
  settle := .stopped
  recompute := .stopped
  window := .stopped
  episodes := 0
  conserve := false
  short := false
  pendingSet := []
  lastPlan := none
  inrushShed := none
  bridgeLine := false

/-- R94: the Sequencer after a reset with no autostart. The instance number, which only tells
answers and timers of earlier steps apart, starts at 0 (log entry 2). -/
def Sequencer.initial : Sequencer :=
  ⟨.idle, none, 0, 0, .none, .stopped, 0, none, true, .none⟩

/-- R160: the Upstream Port after every reset, before RESTART is raised. -/
def Port.initial : Port where
  rx := []
  responses := []
  reports := []
  sending := none
  slots := Vector.replicate 8 none
  answering := []
  flags := 0#24
  noticeOrder := 0
  lost := 0
  broken := 0
  misaddressed := 0
  link := .unarmed
  window := none
  errors := 0
  goodRun := 0
  alert := false
  leakAlarm := false
  bridging := false
  reset := .none
  placeKept := false

/-- R61: the Zone Controller after a power-on reset with no zone in use. The action and the shed
tier it holds matter only in AUTONOMOUS (log entry 2). -/
def ZoneCtl.initial : ZoneCtl where
  zones := Vector.replicate 32 ZoneRun.off
  queue := []
  readmit := []
  epoLatch := false
  epoLine := false
  cap := .balanced
  ride := .normal
  energy := 0
  conserve := false
  link := .unarmed
  action := .hold
  shedTier := 3
  groups := Vector.replicate 8 .clear

/-- A notice frame as R155 and R173 build it. -/
def noticeFrame (flag order : Nat) (particulars : List Byte) : Frame where
  dst := 0x01#8
  src := 0x00#8
  kind := 0x21#8
  tag := 0x00#8
  payload := BitVec.ofNat 8 flag :: BitVec.ofNat 8 (order / 256) :: BitVec.ofNat 8 order :: particulars

/-- The machine right after a power-on reset of a part whose image was never saved (R168, R160): the
image is ERASED, every table is empty, every setting at its default, all four segments IDLE with
their poll timers started, RESTART raised (POWER_ON, no image restored) and then IMAGE (EMPTY), each
with its notice. The empty queue, time 0 and the count of free values are the model's own. -/
def State.reset : State where
  now := 0
  free := 0
  pending := []
  tables := Tables.empty
  image := ⟨.erased, Tables.empty, 0#16, none⟩
  loader := ⟨none, .stopped⟩
  port := { Port.initial with
    flags := 0x21#24
    noticeOrder := 2
    reports := [noticeFrame 0 0 [0x00#8, 0x00#8], noticeFrame 5 1 [0x04#8]] }
  segs := Vector.replicate 4 (Segment.idleAfterReset 500)
  nodes := Vector.replicate 48 NodeRun.fresh
  cap := Capacity.initial
  zc := ZoneCtl.initial
  seq := Sequencer.initial
  ride := Ride.initial
  leak := ⟨Vector.replicate 32 ⟨.dry, 0, .stopped⟩, Vector.replicate 8 .clear, .running 10000, .dark,
    .stopped, false, false⟩
  lines := Vector.replicate 11 ⟨none, none, .running 1⟩
  mail := Mail.empty

end Sys2Proof.Machine
end

