-- ==== Sys2Proof/Machine/Ops.lean ====
section
/-! DEFINITION. The shared named operations: table access by index, updates of one block of the
state, timers and time, byte order, settings by name, and the list operations that the ordered
collections use. -/

namespace Sys2Proof.Machine

/-! ## Vectors by natural index -/

/-- The entry at `k`; past the end, a default that is not in use. -/
def nth {α : Type} {n : Nat} [Inhabited α] (v : Vector α n) (k : Nat) : α := v[k]?.getD default

/-- The vector with entry `k` replaced; past the end, unchanged. -/
def put {α : Type} {n : Nat} (v : Vector α n) (k : Nat) (x : α) : Vector α n := v.setIfInBounds k x

/-- The vector of `f 0, f 1, …`. -/
def tabulate {α : Type} (n : Nat) (f : Nat → α) : Vector α n :=
  ⟨((List.range n).map f).toArray, by simp⟩

/-! ## Blocks of the state -/

/-- The state with its Upstream Port changed by `f`. -/
def modPort (f : Port → Port) (s : State) : State := { s with port := f s.port }

/-- The state with its Capacity Unit changed by `f`. -/
def modCap (f : Capacity → Capacity) (s : State) : State := { s with cap := f s.cap }

/-- The state with its Zone Controller changed by `f`. -/
def modZc (f : ZoneCtl → ZoneCtl) (s : State) : State := { s with zc := f s.zc }

/-- The state with its Sequencer changed by `f`. -/
def modSeq (f : Sequencer → Sequencer) (s : State) : State := { s with seq := f s.seq }

/-- The state with its Ride-Through Unit changed by `f`. -/
def modRide (f : Ride → Ride) (s : State) : State := { s with ride := f s.ride }

/-- The state with its Leak Monitor changed by `f`. -/
def modLeak (f : Leak → Leak) (s : State) : State := { s with leak := f s.leak }

/-- The state with its deliveries in flight changed by `f`. -/
def modMail (f : Mail → Mail) (s : State) : State := { s with mail := f s.mail }

/-- Segment `i`. -/
def segAt (s : State) (i : Nat) : Segment := nth s.segs i

/-- The state with segment `i` changed by `f`. -/
def modSeg (i : Nat) (f : Segment → Segment) (s : State) : State :=
  { s with segs := put s.segs i (f (segAt s i)) }

/-- The runtime record of node entry `k`. -/
def nodeAt (s : State) (k : Nat) : NodeRun := nth s.nodes k

/-- The configured half of node entry `k`. -/
def nodeCfg (s : State) (k : Nat) : NodeCfg := nth s.tables.nodes k

/-- The state with the runtime record of node entry `k` changed by `f`. -/
def modNode (k : Nat) (f : NodeRun → NodeRun) (s : State) : State :=
  { s with nodes := put s.nodes k (f (nodeAt s k)) }

/-- The runtime record of zone `z`. -/
def zoneAt (s : State) (z : Nat) : ZoneRun := nth s.zc.zones z

/-- The configured half of zone `z`. -/
def zoneCfg (s : State) (z : Nat) : ZoneCfg := nth s.tables.zones z

/-- The state with the runtime record of zone `z` changed by `f`. -/
def modZone (z : Nat) (f : ZoneRun → ZoneRun) (s : State) : State :=
  modZc (fun c => { c with zones := put c.zones z (f (nth c.zones z)) }) s

/-- The runtime record of leak channel `c`. -/
def channelAt (s : State) (c : Nat) : ChannelRun := nth s.leak.channels c

/-- The configured half of leak channel `c`. -/
def channelCfg (s : State) (c : Nat) : ChannelCfg := nth s.tables.channels c

/-- The state with the runtime record of channel `c` replaced. -/
def setChannel (c : Nat) (r : ChannelRun) (s : State) : State :=
  modLeak (fun l => { l with channels := put l.channels c r }) s

/-- The zone set of leak group `g` holds zone `z`. -/
def groupHolds (s : State) (g z : Nat) : Bool := (nth s.tables.leakMap g).zoneSet.getLsbD z

/-- The zones, by index ascending. -/
def allZones : List Nat := List.range 32

/-- The zones, by index descending. -/
def allZonesDown : List Nat := allZones.reverse

/-- The leak groups, by index ascending. -/
def allGroups : List Nat := List.range 8

/-- The node entries, in Node Table index order. -/
def allEntries : List Nat := List.range 48

/-- The leak channels, by index ascending. -/
def allChannels : List Nat := List.range 32

/-! ## Time and timers -/

/-- A timer started now to run `ms`. -/
def startTimer (s : State) (ms : Nat) : Timer := .running (s.now + ms)

/-- The remaining time of a timer, 0 when stopped. -/
def remaining (now : Nat) : Timer → Nat
  | .stopped => 0
  | .running deadline => deadline - now

/-- Whether a timer runs. -/
def isRunning : Timer → Bool
  | .stopped => false
  | .running _ => true

/-- The state at the expiry of a timer: none when it does not run (then no expiry arises), else the
state with the time at least the timer's deadline. Log entries 1 and 9. -/
def atExpiry (t : Timer) (s : State) : Option State :=
  match t with
  | .stopped => none
  | .running deadline => some { s with now := max s.now deadline }

/-- A remaining time in a coarser unit than ms (R175): whole units, and a part of one as the free
value says. -/
def inUnits (ms unit : Nat) : Nat :=
  ms / unit + (if ms % unit = 0 then 0 else if Config.roundsUp ms unit then 1 else 0)

/-- One more, saturating at 65535. -/
def sat16 (n : Nat) : Nat := min 65535 (n + 1)

/-- The state with one more free value used. -/
def useFree (s : State) : State := { s with free := s.free + 1 }

/-! ## Byte order: high byte first (section 11) -/

/-- A one-byte field. -/
def be1 (n : Nat) : List Byte := [BitVec.ofNat 8 n]

/-- A two-byte field. -/
def be2 (n : Nat) : List Byte := [BitVec.ofNat 8 (n / 256), BitVec.ofNat 8 n]

/-- A four-byte field. -/
def be4 (n : Nat) : List Byte := be2 (n / 65536) ++ be2 n

/-- A yes or no field (R175: no 0, yes 1). -/
def beBool (b : Bool) : List Byte := be1 b.toNat

/-- A list field (R175): a count and the members, each one byte. -/
def beList (l : List Nat) : List Byte := be1 l.length ++ l.flatMap be1

/-- A flag set or a zone set held as bits (R175). -/
def beSet {w : Nat} (b : BitVec w) : List Byte := be4 b.toNat

/-- The number of a two-byte field. -/
def num2 (hi lo : Byte) : Nat := 256 * hi.toNat + lo.toNat

/-! ## Settings by name (R164) -/

/-- The setting at index `k`. -/
def setting (s : State) (k : Nat) : Nat := nth s.tables.settings k

def segEnabled (s : State) (i : Nat) : Bool := setting s (3 * i) != 0
def replyWindow (s : State) (i : Nat) : Nat := setting s (3 * i + 1)
def pollPeriod (s : State) (i : Nat) : Nat := setting s (3 * i + 2)
def lostThreshold (s : State) : Nat := setting s 12
def reserveCount (s : State) : Nat := setting s 13
def graceTime (s : State) : Nat := setting s 14
def slotCount (s : State) : Nat := setting s 15
def retryDelay (s : State) : Nat := setting s 16
def readmitEnergy (s : State) : Nat := setting s 17
def autostartFlag (s : State) : Bool := setting s 18 != 0
def autostartDesc (s : State) : Descriptor := ⟨setting s 19, setting s 20⟩
def lossQuorum (s : State) : Nat := setting s 21
def confirmTime (s : State) : Nat := setting s 22
def settleTime (s : State) : Nat := setting s 23
def recomputePeriod (s : State) : Nat := setting s 24
def episodeWindow (s : State) : Nat := setting s 25
def episodeLimit (s : State) : Nat := setting s 26
def reserveFraction (s : State) : Nat := setting s 27
def efficiency (s : State) : Nat := setting s 28
def bridgeTime (s : State) : Nat := setting s 29
def bridgeFloor (s : State) : Nat := setting s 30
def chatterWindow (s : State) : Nat := setting s 31
def noticeMask (s : State) : BitVec 24 := BitVec.ofNat 24 (setting s 32)
def alertSet (s : State) : BitVec 24 := BitVec.ofNat 24 (setting s 34)
def openTime (s : State) : Nat := setting s 35
def closeTime (s : State) : Nat := setting s 36
def errorThreshold (s : State) : Nat := setting s 37
def shedTier (s : State) : Nat := setting s 39
def loadWindow (s : State) : Nat := setting s 40

/-- Setting 33, a choice (R156). -/
def alertSource (s : State) : AlertSource :=
  match setting s 33 with
  | 0 => .flags
  | 1 => .autonomous
  | 2 => .leak
  | _ => .bridging

/-- Setting 38, a choice (R157). -/
def linkAction (s : State) : LinkAction := if setting s 38 = 0 then .hold else .shed

/-! ## Node readings (R23) -/

/-- The state of an entry: none when it is not in use (R22). -/
def nodeState? (s : State) (k : Nat) : Option NodeState :=
  if (nodeCfg s k).inUse then some (nodeAt s k).state else none

/-- A slot's value, or `absent` when no value is present. -/
def reading (r : NodeRun) (code absent : Nat) : Nat :=
  let slot := nth r.slots code
  if slot.present then slot.value else absent

/-- IN_STATE reads 0 when absent, and 1 for any nonzero value (R23). -/
def inStateReading (r : NodeRun) : Nat := min 1 (reading r 0 0)

/-- RATING reads the rated power when absent (R23). -/
def ratingReading (rated : Nat) (r : NodeRun) : Nat := reading r 3 rated

/-- A Z_STATE or SENSE value above 2 reads 2 (R23). -/
def threeWay (value : Nat) : Nat := min 2 value

/-- The codes of the kind's item slots (R23). -/
def kindHasItem (k : NodeKind) (code : Nat) : Bool :=
  match k with
  | .rectifier => decide (code ≤ 5)
  | .battery => decide (5 ≤ code) && decide (code ≤ 10)
  | .feed => decide (11 ≤ code) && decide (code ≤ 19)
  | .leak => (decide (20 ≤ code) && decide (code ≤ 23)) || code == 5

end Sys2Proof.Machine
end

