-- ==== Sys2Proof/Machine/Wire.lean ====
section
/-! DEFINITION. The frame envelope, the CRC and the address bytes (sections 11.1 and 11.2 of
spec/11_frame_and_record_formats.md, R173). -/

namespace Sys2Proof.Machine

/-- One bit into the CRC: generator x^16 + x^12 + x^5 + 1 (section 11.1). -/
def crcBit (crc : BitVec 16) (bit : Bool) : BitVec 16 :=
  if crc.msb != bit then (crc <<< 1) ^^^ 0x1021#16 else crc <<< 1

/-- One byte into the CRC, most significant bit first. -/
def crcByte (crc : BitVec 16) (b : Byte) : BitVec 16 :=
  (List.range 8).foldl (fun c i => crcBit c (b.getMsbD i)) crc

/-- The CRC of a run of bytes, from an initial value of all ones (section 11.1). -/
def crc16 (bytes : List Byte) : BitVec 16 := bytes.foldl crcByte 0xFFFF#16

/-- The bytes of a frame before its CRC. -/
def frameBody (f : Frame) : List Byte :=
  f.dst :: f.src :: f.kind :: f.tag :: BitVec.ofNat 8 f.payload.length :: f.payload

/-- The bytes of a frame on the wire (section 11.1). -/
def frameBytes (f : Frame) : List Byte := frameBody f ++ be2 (crc16 (frameBody f)).toNat

/-- The node address byte of a segment and an address (section 11.2). -/
def nodeByte (segment address : Nat) : Byte := BitVec.ofNat 8 (0x80 + 32 * segment + address)

/-- The segment a node address byte names. -/
def byteSegment (b : Byte) : Nat := (b.toNat - 0x80) / 32

/-- The address a node address byte names. -/
def byteAddress (b : Byte) : Nat := b.toNat % 32

/-- Section 11.2: the byte is a node address byte. -/
def isNodeByte (b : Byte) : Bool :=
  decide (0x80 ≤ b.toNat) && decide (1 ≤ b.toNat % 32) && decide (b.toNat % 32 ≤ 30)

/-- What a complete frame's bytes come to: a frame whose stated length and CRC hold, or broken
(R146, and the length and CRC checks of R9). -/
def readFrame (bytes : List Byte) : Option Frame :=
  match bytes with
  | dst :: src :: kind :: tag :: len :: rest =>
    let payload := rest.take len.toNat
    let f : Frame := ⟨dst, src, kind, tag, payload⟩
    if len.toNat ≤ 240 ∧ payload.length = len.toNat ∧
        rest.drop len.toNat = be2 (crc16 (frameBody f)).toNat
    then some f else none
  | _ => none

/-- The RMC address and the supervisor address (section 11.2). -/
def rmcByte : Byte := 0x01#8

/-- The supervisor address (section 11.2). -/
def supervisorByte : Byte := 0x00#8

end Sys2Proof.Machine
end

