-- ==== Sys2Proof/Machine/Operands.lean ====
section
/-! DEFINITION. Every operand form of the two serial sides: the management requests (R149, R174,
section 11.3), the relayed frames (R151, R174), the items of a TELEMETRY reply (R27) and the
FEED_ACK (section 4.4, R174). -/

namespace Sys2Proof.Machine

/-! ## Response statuses (section 11.3) -/

/-- The statuses, numbered from 0 in this order (section 11.3). -/
inductive Status where
  | ok
  | busy
  | range
  | state
  | gated
  | stillWet
  | epo
  | noNode
  | timeout
  | line
  | malformed
  deriving DecidableEq, Repr, Inhabited

/-! ## Management requests -/

/-- The STATUS subjects, numbered from 0 in this order (section 11.3). -/
inductive Subject where
  | summary
  | node
  | zone
  | capacity
  | ride
  | leak
  | sequencer
  | segment
  | queues
  deriving DecidableEq, Repr, Inhabited

/-- The ZONE actions (section 11.3). -/
inductive ZoneAction where
  | on
  | off
  | reset
  deriving DecidableEq, Repr, Inhabited

/-- A management request (R149). -/
inductive Request where
  | keepalive
  | status (subject : Subject) (index : Byte)
  | flagTake (flags : BitVec 32)
  | tableLoad (table : TableId) (start count : Byte)
  | tableData (payload : List Byte)
  | tableRead (table : TableId) (start count : Byte)
  | zone (zone : Byte) (action : ZoneAction)
  | seqRun (start count : Byte)
  | seqStop
  | leakClear (group : Byte)
  | epoClear
  | rideRelease
  | node (entry : Byte) (disable : Bool)
  | imageSave
  | imageErase
  | reset (hard : Bool)
  deriving DecidableEq, Repr, Inhabited

/-- Section 11.3: the subject of a choice byte. -/
def subjectOf (b : Byte) : Option Subject :=
  match b.toNat with
  | 0 => some .summary
  | 1 => some .node
  | 2 => some .zone
  | 3 => some .capacity
  | 4 => some .ride
  | 5 => some .leak
  | 6 => some .sequencer
  | 7 => some .segment
  | 8 => some .queues
  | _ => none

/-- Section 11.3: the table of a choice byte. -/
def tableOf (b : Byte) : Option TableId :=
  match b.toNat with
  | 0 => some .node
  | 1 => some .limit
  | 2 => some .zone
  | 3 => some .leakChannel
  | 4 => some .leakMap
  | 5 => some .sequence
  | 6 => some .line
  | 7 => some .settings
  | _ => none

/-- Section 11.3: the ZONE action of a choice byte. -/
def zoneActionOf (b : Byte) : Option ZoneAction :=
  match b.toNat with
  | 0 => some .on
  | 1 => some .off
  | 2 => some .reset
  | _ => none

/-- A choice byte of two choices. -/
def choice2 (b : Byte) : Option Bool :=
  match b.toNat with
  | 0 => some false
  | 1 => some true
  | _ => none

/-- R174: the request of a frame kind and a payload; none when it is MALFORMED. The length of a
TABLE_DATA is judged against the open load when it is served. -/
def parseRequest (kind : Byte) (payload : List Byte) : Option Request :=
  match kind.toNat, payload with
  | 0x01, [] => some .keepalive
  | 0x02, [subject, index] => (subjectOf subject).map (fun x => .status x index)
  | 0x03, [a, b, c, d] => some (.flagTake (a ++ b ++ c ++ d))
  | 0x04, [table, start, count] => (tableOf table).map (fun t => .tableLoad t start count)
  | 0x05, bytes => some (.tableData bytes)
  | 0x06, [table, start, count] => (tableOf table).map (fun t => .tableRead t start count)
  | 0x07, [zone, action] => (zoneActionOf action).map (fun a => .zone zone a)
  | 0x08, [start, count] => some (.seqRun start count)
  | 0x09, [] => some .seqStop
  | 0x0A, [group] => some (.leakClear group)
  | 0x0B, [] => some .epoClear
  | 0x0C, [] => some .rideRelease
  | 0x0D, [entry, action] => (choice2 action).map (fun a => .node entry a)
  | 0x0E, [] => some .imageSave
  | 0x0F, [] => some .imageErase
  | 0x10, [k] => (choice2 k).map (fun h => .reset h)
  | _, _ => none

/-- The frame kind of a request (section 11.3). -/
def requestKind : Request → Byte
  | .keepalive => 0x01#8
  | .status _ _ => 0x02#8
  | .flagTake _ => 0x03#8
  | .tableLoad _ _ _ => 0x04#8
  | .tableData _ => 0x05#8
  | .tableRead _ _ _ => 0x06#8
  | .zone _ _ => 0x07#8
  | .seqRun _ _ => 0x08#8
  | .seqStop => 0x09#8
  | .leakClear _ => 0x0A#8
  | .epoClear => 0x0B#8
  | .rideRelease => 0x0C#8
  | .node _ _ => 0x0D#8
  | .imageSave => 0x0E#8
  | .imageErase => 0x0F#8
  | .reset _ => 0x10#8

/-- The payload of a request (section 11.3). -/
def requestPayload : Request → List Byte
  | .keepalive => []
  | .status subject index => [BitVec.ofNat 8 subject.ctorIdx, index]
  | .flagTake flags =>
    [flags.extractLsb' 24 8, flags.extractLsb' 16 8, flags.extractLsb' 8 8, flags.extractLsb' 0 8]
  | .tableLoad table start count => [BitVec.ofNat 8 table.ctorIdx, start, count]
  | .tableData payload => payload
  | .tableRead table start count => [BitVec.ofNat 8 table.ctorIdx, start, count]
  | .zone zone action => [zone, BitVec.ofNat 8 action.ctorIdx]
  | .seqRun start count => [start, count]
  | .seqStop => []
  | .leakClear group => [group]
  | .epoClear => []
  | .rideRelease => []
  | .node entry disable => [entry, BitVec.ofNat 8 disable.toNat]
  | .imageSave => []
  | .imageErase => []
  | .reset hard => [BitVec.ofNat 8 hard.toNat]

/-- The frame the RMC sends for a request. -/
def requestFrame (tag : Byte) (r : Request) : Frame :=
  ⟨supervisorByte, rmcByte, requestKind r, tag, requestPayload r⟩

/-! ## Items (section 11.4) -/

/-- An item: a code and a value. -/
structure Item where
  code : Nat
  value : Nat
  deriving DecidableEq, Repr, Inhabited

/-- R27: the items of a payload; an incomplete item at the end is ignored. -/
def itemsOf : List Byte → List Item
  | code :: hi :: lo :: rest => ⟨code.toNat, num2 hi lo⟩ :: itemsOf rest
  | _ => []

/-- R27: of items that share a code, the last one is kept. -/
def lastOfEach : List Item → List Item
  | [] => []
  | x :: rest => if rest.any (fun y => y.code == x.code) then lastOfEach rest else x :: lastOfEach rest

/-- R27: the items taken from a TELEMETRY payload for an entry of kind `k`. Log entry 20. -/
def itemsTaken (k : NodeKind) (payload : List Byte) : List Item :=
  lastOfEach (((itemsOf payload).take 16).filter (fun x => kindHasItem k x.code))

/-- An item in a frame (section 11.4). -/
def itemBytes (x : Item) : List Byte := be1 x.code ++ be2 x.value

/-! ## Relayed frames (R151, R174) -/

/-- The four kinds of frame that go down to a node. -/
inductive RelayKind where
  | poll
  | itemRead
  | itemWrite
  | feedSet
  deriving DecidableEq, Repr, Inhabited

/-- Section 11.3. -/
def relayKindOf (kind : Byte) : Option RelayKind :=
  match kind.toNat with
  | 0x40 => some .poll
  | 0x41 => some .itemRead
  | 0x42 => some .itemWrite
  | 0x43 => some .feedSet
  | _ => none

/-- Section 11.3. -/
def relayKindByte : RelayKind → Byte
  | .poll => 0x40#8
  | .itemRead => 0x41#8
  | .itemWrite => 0x42#8
  | .feedSet => 0x43#8

/-- R174: the payload decodes under its kind. -/
def relayDecodes (k : RelayKind) (payload : List Byte) : Bool :=
  match k with
  | .poll => payload.isEmpty
  | .itemRead => !payload.isEmpty
  | .itemWrite => !payload.isEmpty && payload.length % 3 == 0
  | .feedSet =>
    match payload with
    | [output, setting] => decide (output.toNat ≤ 3) && decide (setting.toNat ≤ 1)
    | _ => false

/-- R151: a control item, one of the codes 0x40 to 0x45. -/
def protectedItem (x : Item) : Bool := decide (0x40 ≤ x.code) && decide (x.code ≤ 0x45)

/-- R151: the relayed frame is a protected write. -/
def protectedWrite (k : RelayKind) (payload : List Byte) : Bool :=
  match k with
  | .feedSet => true
  | .itemWrite => (itemsOf payload).any protectedItem
  | .poll => false
  | .itemRead => false

/-- Section 8.4: relayed as a write. -/
def relayIsWrite : RelayKind → Bool
  | .poll => false
  | .itemRead => false
  | .itemWrite => true
  | .feedSet => true

/-! ## FEED_ACK (section 4.4, R174) -/

/-- The FEED_ACK payload accepts the command for the output commanded. -/
def feedAckAccepts (output : Nat) (payload : List Byte) : Bool :=
  match payload with
  | o :: result :: _ => o.toNat == output && result.toNat == 0
  | _ => false

end Sys2Proof.Machine
end

