-- ==== Sys2Proof/Machine/Flags.lean ====
section
/-! DEFINITION. The event flags, the notices and the ALERT line (R154 to R156). -/

namespace Sys2Proof.Machine

/-- The number of an event flag (R154). -/
def flagNumber (f : EventFlag) : Nat := f.ctorIdx

/-- The flag as a set of one. -/
def flagBit (f : EventFlag) : BitVec 24 := 1#24 <<< flagNumber f

/-- Whether a flag is in a flag set. -/
def inFlagSet (set : BitVec 24) (f : EventFlag) : Bool := set.getLsbD (flagNumber f)

/-- R156: the condition of the chosen ALERT source. -/
def alertCondition (s : State) : Bool :=
  match alertSource s with
  | .flags => s.port.flags &&& alertSet s != 0#24
  | .autonomous => s.port.link == .autonomous
  | .leak => s.port.leakAlarm
  | .bridging => s.port.bridging

/-- R156: the ALERT line is driven again from its source's condition. -/
def driveAlert (s : State) : State := modPort (fun p => { p with alert := alertCondition s }) s

/-- R154: a raising sets the flag. -/
def setFlag (f : EventFlag) (s : State) : State :=
  modPort (fun p => { p with flags := p.flags ||| flagBit f }) s

/-- R148: the report queue has a place. -/
def reportRoom (s : State) : Bool := decide (s.port.reports.length < 16)

/-- R155: a notice is built, counted in the running order, and joins the report queue if it has a
place; the flag returned says whether it joined. -/
def buildNotice (f : EventFlag) (particulars : List Byte) (s : State) : State × Bool :=
  let frame := noticeFrame (flagNumber f) s.port.noticeOrder particulars
  let joined := reportRoom s
  (modPort (fun p => { p with
      noticeOrder := (p.noticeOrder + 1) % 65536
      reports := if joined then p.reports ++ [frame] else p.reports }) s, joined)

/-- R155: what a dropped notice or report causes: the lost count, NOTICE_LOST, and its notice. -/
def countLost (s : State) : State :=
  let s := setFlag .noticeLost (modPort (fun p => { p with lost := sat16 p.lost }) s)
  if inFlagSet (noticeMask s) .noticeLost then
    match buildNotice .noticeLost (be2 s.port.lost) s with
    | (s, true) => modPort (fun p => { p with lost := 0 }) s
    | (s, false) => modPort (fun p => { p with lost := sat16 p.lost }) s
  else s

/-- R154, R155: a block raises a flag with its particulars. -/
def raiseFlag (f : EventFlag) (particulars : List Byte) (s : State) : State :=
  let s := setFlag f s
  if inFlagSet (noticeMask s) f then
    match buildNotice f particulars s with
    | (s, true) => driveAlert s
    | (s, false) => driveAlert (countLost s)
  else driveAlert s

/-- R38, R148: a telemetry report joins the report queue, or is dropped as R155 says; the flag
returned says whether it joined. -/
def queueReport (frame : Frame) (s : State) : State × Bool :=
  if reportRoom s then
    (modPort (fun p => { p with reports := p.reports ++ [frame] }) s, true)
  else (driveAlert (countLost s), false)

end Sys2Proof.Machine
end

