-- ==== Sys2Proof/Machine/Capacity.lean ====
section
/-! DEFINITION. The Capacity Unit (spec/03_capacity_and_commitment.md): available and committed
power, the capacity states, the grace timer and the capacity shed. -/

namespace Sys2Proof.Machine

/-! ## Available power (R46, R47) -/

/-- R46: the rectifier entry is contributing. -/
def isContributing (s : State) (k : Nat) : Bool :=
  let c := nodeCfg s k
  let r := nodeAt s k
  c.inUse && c.kind == .rectifier && r.state == .active && inStateReading r == 0

/-- R46: the contribution of a contributing rectifier. -/
def contribution (s : State) (k : Nat) : Nat :=
  let rated := (nodeCfg s k).rated
  min rated (ratingReading rated (nodeAt s k))

/-- The contributing entries, by index ascending. -/
def contributors (s : State) : List Nat := allEntries.filter (isContributing s)

/-- A figure into a list kept largest first. -/
def insertDown (x : Nat) (l : List Nat) : List Nat :=
  l.takeWhile (fun y => decide (x ≤ y)) ++ x :: l.dropWhile (fun y => decide (x ≤ y))

/-- A list, largest first. -/
def sortDown (l : List Nat) : List Nat := l.foldr insertDown []

/-- R47: the sum of the contributions less the `k` largest; 0 when there are at most `k`. -/
def availableOf (k : Nat) (contributions : List Nat) : Nat :=
  if contributions.length ≤ k then 0
  else contributions.sum - ((sortDown contributions).take k).sum

/-! ## Committed power (R49) -/

/-- R59: the effective inrush allotment. -/
def effectiveInrush (c : ZoneCfg) : Nat := max c.inrush c.steady

/-- R49: the present allotment of a zone. -/
def allotment (s : State) (z : Nat) : Nat :=
  let c := zoneCfg s z
  if c.inUse then
    match (zoneAt s z).state with
    | .inrush => effectiveInrush c
    | .on => c.steady
    | .off => 0
    | .queued => 0
    | .shed => 0
    | .isolated => 0
    | .lockout => 0
  else 0

/-- R49: the sum of the present allotments over the zones as they stand. -/
def committedSum (s : State) : Nat := (allZones.map (allotment s)).sum

/-! ## The shed order (R74) -/

/-- Whether zone `z` is in state `x`. -/
def zoneIs (s : State) (x : ZoneState) (z : Nat) : Bool := (zoneAt s z).state == x

/-- The ON zones of a tier, by index descending. -/
def onOfTier (s : State) (t : Nat) : List Nat :=
  allZonesDown.filter (fun z => zoneIs s .on z && (zoneCfg s z).tier == t)

/-- The zones in INRUSH, by index descending. -/
def inrushZones (s : State) : List Nat := allZonesDown.filter (zoneIs s .inrush)

/-- R74: INRUSH zones, then ON zones of tier 3, 2 and 1, each by index descending. -/
def shedOrder (s : State) : List Nat :=
  inrushZones s ++ onOfTier s 3 ++ onOfTier s 2 ++ onOfTier s 1

/-- The result of walking an order: the zones taken and the remainder left. -/
structure Walk where
  zones : List Nat
  remainder : Nat
  deriving DecidableEq, Repr

/-- R53, R123: walk an order, taking zones from a remainder until it is at most `target`. -/
def walkOrder (load : Nat → Nat) (target : Nat) : List Nat → Nat → Walk
  | [], remainder => ⟨[], remainder⟩
  | z :: rest, remainder =>
    if remainder ≤ target then ⟨[], remainder⟩
    else
      let w := walkOrder load target rest (remainder - load z)
      ⟨z :: w.zones, w.remainder⟩

/-! ## Evaluation (R50 to R56) -/

/-- The particulars of DEFICIT with cause ENTERED (R57). -/
def deficitEntered (available committed grace : Nat) : List Byte :=
  be1 0 ++ be4 available ++ be4 committed ++ be2 grace

/-- The particulars of DEFICIT with cause SHED (R57). -/
def deficitShed (available committed : Nat) (zones : List Nat) (remainder : Nat) : List Byte :=
  be1 1 ++ be4 available ++ be4 committed ++ beList zones ++ be4 remainder

/-- R54: a shed list that is not empty is handed to the Zone Controller. -/
def handOverShed (w : Walk) (s : State) : State :=
  if w.zones.isEmpty then s
  else
    let s := modCap (fun c => { c with outstanding := true, sheds := sat16 c.sheds }) s
    let s := modMail (fun m => { m with capShed := m.capShed ++ [w.zones] }) s
    raiseFlag .deficit (deficitShed s.cap.available s.cap.committed w.zones w.remainder) s

/-- R53 to R55: a capacity shed is computed from the figures and zone states as they stand. An
exhausted walk that sheds raises DEFICIT before CAPACITY_SHORT (log entry 40). -/
def computeShed (s : State) : State :=
  let w := walkOrder (allotment s) s.cap.available (shedOrder s) s.cap.committed
  let exhausted := decide (s.cap.available < w.remainder)
  let record : CapShed := ⟨s.cap.available, s.cap.committed, w.remainder, w.zones, exhausted⟩
  let s := handOverShed w (modCap (fun c => { c with lastShed := some record }) s)
  if exhausted && !s.cap.short then
    raiseFlag .capacityShort (be4 s.cap.available ++ be4 s.cap.committed ++ be4 w.remainder)
      (modCap (fun c => { c with short := true }) s)
  else s

/-- R50, R52: entry into DEFICIT, with the start of the grace period. -/
def enterDeficit (s : State) : State :=
  let grace := graceTime s
  let s := modCap (fun c => { c with
      state := .deficit
      deficits := sat16 c.deficits
      grace := if grace = 0 then .expired else .running
      graceTimer := if grace = 0 then .stopped else startTimer s grace }) s
  let s := raiseFlag .deficit (deficitEntered s.cap.available s.cap.committed grace) s
  if grace = 0 && !s.cap.outstanding then computeShed s else s

/-- R50: entry into BALANCED. -/
def enterBalanced (s : State) : State :=
  modCap (fun c => { c with
    state := .balanced, grace := .none, graceTimer := .stopped, short := false }) s

/-- R50, R55: the evaluation of the figures as they stand. -/
def evaluateCapacity (s : State) : State :=
  let c := s.cap
  match c.state with
  | .suspended => s
  | .balanced => if c.available < c.committed then enterDeficit s else s
  | .deficit =>
    if c.committed ≤ c.available then enterBalanced s
    else if c.grace == .expired && !c.outstanding then computeShed s
    else s

/-- R56: the Zone Controller and the Sequencer are told when the state or a figure differs from what
it was before the handling (`before`). -/
def tellCapacityNews (before : Capacity) (s : State) : State :=
  let c := s.cap
  if c.state == before.state && c.available == before.available && c.committed == before.committed
  then s
  else
    let news : CapNews := ⟨c.state, c.available, c.committed⟩
    modMail (fun m => { m with capToZone := m.capToZone ++ [news], capToSeq := m.capToSeq ++ [news] }) s

/-- R48: available power is recomputed and evaluated. -/
def recomputeAvailable (s : State) : State :=
  let list := contributors s
  let power := availableOf (reserveCount s) (list.map (contribution s))
  tellCapacityNews s.cap
    (evaluateCapacity (modCap (fun c => { c with count := list.length, available := power }) s))

/-- R49: committed power is recomputed from the zone states and evaluated. -/
def recomputeCommitted (s : State) : State :=
  tellCapacityNews s.cap
    (evaluateCapacity (modCap (fun c => { c with committed := committedSum s }) s))

/-- R51: the Ride-Through Unit has left NORMAL. -/
def suspendCapacity (s : State) : State :=
  tellCapacityNews s.cap
    (modCap (fun c => { c with
      state := .suspended, grace := .none, graceTimer := .stopped, short := false }) s)

/-- R51: the Ride-Through Unit has returned to NORMAL: the figures are evaluated as from BALANCED. -/
def resumeCapacity (s : State) : State :=
  tellCapacityNews s.cap (evaluateCapacity (enterBalanced s))

/-- R56: the headroom. -/
def headroom (available committed : Nat) : Nat := available - committed

/-! ## The Capacity Unit's events -/

/-- R52: the grace timer expires. -/
def graceExpired (s : State) : State :=
  let s := modCap (fun c => { c with grace := .expired, graceTimer := .stopped }) s
  if s.cap.outstanding then s else computeShed s

/-- R54: the Zone Controller reports a capacity shed complete. -/
def capacityShedDone (s : State) : State :=
  let s := modCap (fun c => { c with outstanding := false }) s
  if s.cap.state == .deficit && s.cap.grace == .expired then
    tellCapacityNews s.cap (evaluateCapacity s)
  else s

end Sys2Proof.Machine
end

