-- ==== Sys2Proof/Machine/SegQueue.lean ====
section
/-! DEFINITION. The segment queue and its arbitration (R2 to R8 of spec/01_shelf_segments.md). -/

namespace Sys2Proof.Machine

/-- R6: the order of service of the classes. -/
def classRank : ExClass → Nat
  | .urgent => 0
  | .control => 1
  | .poll => 2

/-- R6: an exchange joins at the tail of its class. -/
def joinTail (e : Exchange) (q : List Exchange) : List Exchange :=
  q.takeWhile (fun x => decide (classRank x.cls ≤ classRank e.cls)) ++
    e :: q.dropWhile (fun x => decide (classRank x.cls ≤ classRank e.cls))

/-- R11: a requeued exchange joins at the head of its class. -/
def joinHead (e : Exchange) (q : List Exchange) : List Exchange :=
  q.takeWhile (fun x => decide (classRank x.cls < classRank e.cls)) ++
    e :: q.dropWhile (fun x => decide (classRank x.cls < classRank e.cls))

/-- R3: the class joins while this many are queued. -/
def classRoom (c : ExClass) (queued : Nat) : Bool :=
  match c with
  | .urgent => decide (queued < 24)
  | .control => decide (queued < 20)
  | .poll => decide (queued < 20)

/-- The exchange is a FEED_SET of the given setting for the (entry, output) pair. -/
def isFeedSet (target output : Nat) (on : Bool) (e : Exchange) : Bool :=
  e.target == target && e.kind == .feedSet output on

/-- The exchange is of kind POLL for the entry. -/
def isPollFor (target : Nat) (e : Exchange) : Bool := e.target == target && e.kind == .poll

/-- The answer to a join request (R3 to R5). -/
inductive JoinAnswer where
  | accepted
  | duplicate
  | refused
  deriving DecidableEq, Repr, Inhabited

/-- The result of a join request at a queue: the answer, the queue after it, and whether a record
left the queue (an enable that a disable removed, R5). -/
structure Offer where
  answer : JoinAnswer
  queue : List Exchange
  removed : Bool
  deriving DecidableEq, Repr

/-- R3: the room test. -/
def offerRoom (e : Exchange) (q : List Exchange) : Offer :=
  if classRoom e.cls q.length then ⟨.accepted, joinTail e q, false⟩ else ⟨.refused, q, false⟩

/-- R3 to R5: a join request at an enabled segment's queue. A replaced FEED_SET keeps its place, its
retry-used flag and, since the pair and the setting are the same, its payload. -/
def offerTo (e : Exchange) (q : List Exchange) : Offer :=
  match e.kind with
  | .poll => if q.any (isPollFor e.target) then ⟨.duplicate, q, false⟩ else offerRoom e q
  | .feedSet output true =>
    if q.any (isFeedSet e.target output false) then ⟨.refused, q, false⟩
    else if q.any (isFeedSet e.target output true) then ⟨.accepted, q, false⟩
    else offerRoom e q
  | .feedSet output false =>
    if q.any (isFeedSet e.target output false) then ⟨.accepted, q, false⟩
    else if q.any (isFeedSet e.target output true) then
      ⟨.accepted, joinTail e (q.filter (fun x => !isFeedSet e.target output true x)), true⟩
    else offerRoom e q
  | .relay _ _ _ => offerRoom e q

/-- R8, R173: the frame of an exchange to the node address byte `dest`. -/
def exchangeFrame (dest : Byte) (k : ExKind) : Frame :=
  match k with
  | .poll => ⟨dest, supervisorByte, 0x40#8, 0x00#8, []⟩
  | .feedSet output on => ⟨dest, supervisorByte, 0x43#8, 0x00#8, be1 output ++ beBool on⟩
  | .relay kind tag payload => ⟨dest, supervisorByte, kind, tag, payload⟩

/-- R6, R8: the exchange taken onto the wire of segment `i`. -/
def startExchange (s : State) (i : Nat) (e : Exchange) : Current :=
  let c := nodeCfg s e.target
  let dest := nodeByte c.segment c.address
  { ex := e
    phase := .sending
    dest := dest
    wire := frameBytes (exchangeFrame dest e.kind)
    window := replyWindow s i
    timer := .stopped
    stale := false }

/-- R6: the segment's arbiter. It acts when the segment is IDLE and the queue is not empty; the flag
says that an exchange left the queue. -/
def arbitrate (i : Nat) (s : State) : State × Bool :=
  let g := segAt s i
  match g.state, g.queue with
  | .idle, e :: rest =>
    (modSeg i (fun g => { g with
      state := .exchange, queue := rest, current := some (startExchange s i e) }) s, true)
  | _, _ => (s, false)

/-- The result of a join request: the answer, whether a record left a queue (R2, so that the Zone
Controller runs its arbiter), and the state. -/
structure Joined where
  answer : JoinAnswer
  departed : Bool
  state : State

/-- R3 to R6: a join request at segment `i`; a DISABLED segment refuses it. -/
def joinSegment (i : Nat) (e : Exchange) (s : State) : Joined :=
  if (segAt s i).state == .disabled then ⟨.refused, false, s⟩
  else
    let o := offerTo e (segAt s i).queue
    match arbitrate i (modSeg i (fun g => { g with queue := o.queue }) s) with
    | (s, taken) => ⟨o.answer, o.removed || taken, s⟩

/-- R5: the segment's answer to the CONTROL-room question for an (entry, output) pair. -/
def controlRoom (g : Segment) (target output : Nat) : Bool :=
  g.state != .disabled &&
    (decide (g.queue.length < 20) || g.queue.any (isFeedSet target output true)) &&
    !g.queue.any (isFeedSet target output false)

/-- An exchange of kind POLL offered by a scan (R14). -/
def pollExchange (k : Nat) : Exchange := ⟨.poll, k, .poll, .scan, false⟩

/-- The Zone Controller's FEED_SET (R2). -/
def feedExchange (target output : Nat) (on : Bool) : Exchange :=
  ⟨if on then .control else .urgent, target, .feedSet output on, .zoneController, false⟩

end Sys2Proof.Machine
end

