-- ==== Sys2Proof/Machine/Zones.lean ====
section
/-! DEFINITION. The Zone Controller (spec/04_load_zones_and_admission.md): the admission queue and
the arbiter, feed exchanges, attempts and trips, sheds and re-admission, isolation, EPO, adoption. -/

namespace Sys2Proof.Machine

/-! ## Telling other blocks (R89) -/

/-- R49, R89: the state counts an allotment. -/
def countsAllotment (x : ZoneState) : Bool := x == .inrush || x == .on

/-- R89: the Sequencer is told of a zone's change of state. -/
def tellSequencer (z : Nat) (old new : ZoneState) (s : State) : State :=
  modMail (fun m => { m with zoneToSeq := m.zoneToSeq ++ [⟨z, old, new⟩] }) s

/-- R89: the Capacity Unit is told of a change that alters the zone's allotment, and the Sequencer of
every change. -/
def tellZoneChange (z : Nat) (old new : ZoneState) (s : State) : State :=
  let s := if countsAllotment old || countsAllotment new then recomputeCommitted s else s
  tellSequencer z old new s

/-! ## The admission queue (R62 to R65) -/

/-- R62: a zone joins at the tail of its own tier. -/
def joinTier (tier : Nat → Nat) (z : Nat) (q : List Nat) : List Nat :=
  q.takeWhile (fun y => decide (tier y ≤ tier z)) ++
    z :: q.dropWhile (fun y => decide (tier y ≤ tier z))

/-- R62: a zone joins the admission queue. -/
def enqueueZone (z : Nat) (s : State) : State :=
  modZc (fun c => { c with queue := joinTier (fun y => (zoneCfg s y).tier) z c.queue }) s

/-- A zone leaves the admission queue; the others keep their order. -/
def dequeueZone (z : Nat) (s : State) : State :=
  modZc (fun c => { c with queue := c.queue.filter (fun y => y != z) }) s

/-- A zone leaves the re-admit list; the others keep their order (R78). -/
def leaveReadmit (z : Nat) (s : State) : State :=
  modZc (fun c => { c with readmit := c.readmit.filter (fun y => y != z) }) s

/-- The number of zones in INRUSH. -/
def inrushCount (s : State) : Nat := (inrushZones s).length

/-- R63: admission is open. -/
def admissionOpen (s : State) : Bool :=
  s.zc.ride == .normal && !s.zc.epoLatch && s.zc.cap == .balanced &&
    decide (inrushCount s < slotCount s)

/-- R64: the link bars the zone's tier. -/
def linkBars (s : State) (z : Nat) : Bool :=
  s.zc.link == .autonomous && s.zc.action == .shed && decide (s.zc.shedTier ≤ (zoneCfg s z).tier)

/-- R80: the group state holds the zones of the group's set. -/
def latchedGroup (x : GroupState) : Bool := x == .alarm || x == .drying

/-- R84, R85, R87: a group whose zone set contains the zone is in ALARM or DRYING, as the Leak Monitor
holds it when it is read (R142). -/
def leakHolds (s : State) (z : Nat) : Bool :=
  allGroups.any fun g => groupHolds s g z && latchedGroup (nth s.leak.groups g)

/-- R80, R81: a group whose zone set contains the zone is in ALARM or DRYING, as the Zone Controller
was last told (R61; log entry 30). -/
def leakHeld (s : State) (z : Nat) : Bool :=
  allGroups.any fun g => groupHolds s g z && latchedGroup (nth s.zc.groups g)

/-- R64: the first condition. -/
def feedReady (s : State) (z : Nat) : Bool :=
  let k := (zoneCfg s z).feedEntry
  let c := nodeCfg s k
  let x := (nodeAt s k).state
  c.inUse && c.kind == .feed && (x == .active || x == .degraded)

/-- R64: the second condition; the group states are read as they stand (R142). -/
def groupsClear (s : State) (z : Nat) : Bool :=
  allGroups.all fun g => !groupHolds s g z || nth s.leak.groups g == .clear

/-- R64: the fifth condition. -/
def feedRoom (s : State) (z : Nat) : Bool :=
  let c := zoneCfg s z
  controlRoom (segAt s (nodeCfg s c.feedEntry).segment) c.feedEntry c.output

/-- R64, R91: the first condition that fails, by its place in R64's list; none when the zone is
eligible. -/
def ineligible (s : State) (z : Nat) : Option Nat :=
  if !feedReady s z then some 0
  else if !groupsClear s z then some 1
  else if isRunning (zoneAt s z).retry then some 2
  else if (zoneAt s z).disablePending then some 3
  else if !feedRoom s z then some 4
  else if linkBars s z then some 5
  else none

/-- R64: the zone is eligible for a grant. -/
def eligible (s : State) (z : Nat) : Bool := (ineligible s z).isNone

/-- R65: the fit test, over the zone states as they stand. -/
def fits (s : State) (z : Nat) : Bool :=
  decide (committedSum s + effectiveInrush (zoneCfg s z) ≤ s.cap.available)

/-- R65: the grant, once the enable has joined. -/
def grantZone (z : Nat) (s : State) : State :=
  tellZoneChange z .queued .inrush
    (modZone z (fun r => { r with state := .inrush, acked := false }) (dequeueZone z s))

/-- R65: a run of the arbiter, at most `fuel` grants. -/
def arbiterRun : Nat → State → State
  | 0, s => s
  | fuel + 1, s =>
    if admissionOpen s then
      match s.zc.queue.find? (eligible s) with
      | none => s
      | some z =>
        if fits s z then
          let c := zoneCfg s z
          let j := joinSegment (nodeCfg s c.feedEntry).segment (feedExchange c.feedEntry c.output true) s
          match j.answer with
          | .accepted => arbiterRun fuel (grantZone z j.state)
          | .duplicate => s
          | .refused => s
        else s
    else s

/-- R65, R66: the inrush-slot arbiter runs. Each grant takes a zone from the queue, so its length
bounds the grants. -/
def runArbiter (s : State) : State := arbiterRun s.zc.queue.length s

/-- R2, R66: the arbiter runs when an exchange has left a segment's queue. -/
def afterDeparture (departed : Bool) (s : State) : State := if departed then runArbiter s else s

/-! ## Disables (R68, R69) -/

/-- Why a disable left the flag set, as FEED_PENDING names it (R68, R90; log entry 14). -/
inductive DisableOutcome where
  | joinRefused
  | refused
  | failed
  | cancelled
  deriving DecidableEq, Repr, Inhabited

/-- R68: disable-pending is set, and FEED_PENDING raised once for the setting. -/
def setDisablePending (z : Nat) (outcome : DisableOutcome) (s : State) : State :=
  if (zoneAt s z).disablePending then s
  else
    let c := zoneCfg s z
    raiseFlag .feedPending (be1 z ++ be1 c.feedEntry ++ be1 c.output ++ be1 outcome.ctorIdx)
      (modZone z (fun r => { r with disablePending := true }) s)

/-- R68: an URGENT disable is queued for the zone's output; the flag returned says that an exchange
left a queue. An entry not in use has no segment to join (log entry 13). -/
def queueDisable (z : Nat) (s : State) : State × Bool :=
  let c := zoneCfg s z
  let n := nodeCfg s c.feedEntry
  if n.inUse then
    let j := joinSegment n.segment (feedExchange c.feedEntry c.output false) s
    match j.answer with
    | .accepted => (j.state, j.departed)
    | .duplicate => (j.state, j.departed)
    | .refused => (setDisablePending z .joinRefused j.state, j.departed)
  else (setDisablePending z .joinRefused s, false)

/-- R69: the zone's record on leaving INRUSH or ON for the state `new`. -/
def leftRunning (new : ZoneState) (r : ZoneRun) : ZoneRun :=
  { r with state := new, acked := false, inrush := .stopped }

/-! ## Re-admission (R78, R79) -/

/-- R79: re-admission is open. -/
def readmitOpen (s : State) : Bool :=
  s.zc.ride == .normal && !s.zc.conserve && s.zc.cap == .balanced &&
    !(s.zc.link == .autonomous && s.zc.action == .shed) &&
    decide (readmitEnergy s ≤ s.zc.energy)

/-- R79: one drained zone enters QUEUED at the tail of its tier. -/
def drainZone (s : State) (z : Nat) : State :=
  tellZoneChange z .shed .queued
    (enqueueZone z (modZone z (fun r => { r with state := .queued }) (leaveReadmit z s)))

/-- R79: re-admission is evaluated: when it is open and the list is not empty, the whole list
drains, from the tail to the head, and the arbiter runs once it is empty. -/
def evaluateReadmit (s : State) : State :=
  if readmitOpen s && !s.zc.readmit.isEmpty then
    runArbiter (s.zc.readmit.reverse.foldl drainZone s)
  else s

/-! ## Sheds (R75 to R77) -/

/-- R75: an INRUSH or ON zone is shed: it enters SHED, is switched off, joins the tail of the
re-admit list, and is drained at once if re-admission is open. That the list drains before the arbiter
runs for the freed slot, or for a departure (R66), is the model's choice (log entry 63), and so is that
it runs before the next zone of the same handling is taken (log entry 64). -/
def shedZone (s : State) (z : Nat) : State :=
  let old := (zoneAt s z).state
  if countsAllotment old then
    let s := modZc (fun c => { c with readmit := c.readmit ++ [z] }) (modZone z (leftRunning .shed) s)
    let (s, departed) := queueDisable z s
    let s := evaluateReadmit (tellZoneChange z old .shed s)
    afterDeparture (departed || old == .inrush) s
  else s

/-- R75: the zones of a request, in order, each as it stands when taken; with the zones shed and the
zones passed over. -/
def shedList : List Nat → State → State × ShedDone
  | [], s => (s, ⟨[], []⟩)
  | z :: rest, s =>
    let taken := countsAllotment (zoneAt s z).state
    let (s, d) := shedList rest (shedZone s z)
    (s, if taken then { d with shed := z :: d.shed } else { d with passed := z :: d.passed })

/-- R63: a lowered slot count sheds the surplus INRUSH zones by index descending. -/
def shedSurplus (s : State) : State :=
  ((inrushZones s).take (inrushCount s - slotCount s)).foldl shedZone s

/-! ## Attempts (R67 to R72) -/

/-- R71, R90: the cause of a failed attempt. -/
inductive AttemptCause where
  | window
  | trip
  | refused
  | exchangeFailed
  deriving DecidableEq, Repr, Inhabited

/-- R71: the attempt of an INRUSH zone fails. ZONE_LOCKOUT is raised after the disable is queued (log
entry 66). -/
def failAttempt (z : Nat) (cause : AttemptCause) (s : State) : State :=
  let attempts := (zoneAt s z).attempts + 1
  let locked := attempts == (zoneCfg s z).lockout
  let new : ZoneState := if locked then .lockout else .queued
  let retry := if locked || retryDelay s == 0 then Timer.stopped else startTimer s (retryDelay s)
  let s := modZone z (fun r => { leftRunning new r with attempts := attempts, retry := retry }) s
  let s := if locked then s else enqueueZone z s
  let (s, _) := queueDisable z s
  let s :=
    if locked then raiseFlag .zoneLockout (be1 z ++ be1 attempts ++ be1 cause.ctorIdx) s else s
  runArbiter (tellZoneChange z .inrush new s)

/-- The in-use zone of an (entry, output) pair (R60: at most one). -/
def zoneOfPair (s : State) (entry output : Nat) : Option Nat :=
  allZones.find? fun z =>
    let c := zoneCfg s z
    c.inUse && c.feedEntry == entry && c.output == output

/-- How a FEED_SET ends, as reported to the Zone Controller (R67, R68). -/
inductive FeedReport where
  | accepted
  | refused
  | failed
  | cancelled
  deriving DecidableEq, Repr, Inhabited

/-- R67: a FEED_SET enable for the pair ends. -/
def enableEnded (entry output : Nat) (report : FeedReport) (s : State) : State :=
  match zoneOfPair s entry output with
  | none => s
  | some z =>
    let r := zoneAt s z
    if r.state == .inrush && !r.acked then
      match report with
      | .accepted =>
        modZone z (fun r => { r with acked := true, inrush := startTimer s (zoneCfg s z).window }) s
      | .refused => failAttempt z .refused s
      | .failed => failAttempt z .exchangeFailed s
      | .cancelled => failAttempt z .exchangeFailed s
    else s

/-- R68: a FEED_SET disable for the pair ends. Where the OFF zone's entry was rewritten to another
pair meanwhile, the end goes to the in-use zone that names the pair now (log entry 45). -/
def disableEnded (entry output : Nat) (report : FeedReport) (s : State) : State :=
  match zoneOfPair s entry output with
  | none => s
  | some z =>
    let failed (outcome : DisableOutcome) : State :=
      if countsAllotment (zoneAt s z).state then s else setDisablePending z outcome s
    match report with
    | .accepted => runArbiter (modZone z (fun r => { r with disablePending := false }) s)
    | .refused => failed .refused
    | .failed => failed .failed
    | .cancelled => failed .cancelled

/-- R67, R68: a FEED_SET ends. -/
def feedSetEnded (entry output : Nat) (on : Bool) (report : FeedReport) (s : State) : State :=
  if on then enableEnded entry output report s else disableEnded entry output report s

/-- R70: an acknowledged INRUSH zone reports good and enters ON. R70 does not name the acknowledged
flag, and the model clears it (log entry 43). -/
def powerGood (z : Nat) (s : State) : State :=
  runArbiter (tellZoneChange z .inrush .on
    (modZone z (fun r => { leftRunning .on r with attempts := 0 }) s))

/-- R73: an ON zone reports off or tripped. ZONE_TRIP is raised before the disable is queued (log entry
66), with the reading in one byte (log entry 68). -/
def tripZone (z reading : Nat) (s : State) : State :=
  let c := zoneCfg s z
  let s := modZone z (leftRunning .off) s
  let s := raiseFlag .zoneTrip (be1 z ++ be1 c.feedEntry ++ be1 c.output ++ be1 reading) s
  let (s, _) := queueDisable z s
  runArbiter (tellZoneChange z .on .off s)

/-! ## Adoption (R86, R87) -/

/-- R87: an adopt-pending OFF zone found on is switched off and enters `new`. -/
def adoptOff (z : Nat) (new : ZoneState) (s : State) : State :=
  let s := modZone z (fun r => { r with state := new, adoptPending := false }) s
  let s := if new == .shed then modZc (fun c => { c with readmit := c.readmit ++ [z] }) s else s
  let (s, departed) := queueDisable z s
  let s := if new == .off then s else tellZoneChange z .off new s
  let s := if new == .shed then evaluateReadmit s else s
  afterDeparture departed s

/-- R87: the first feed report of an adopt-pending OFF zone; the reading is 0 off, 1 good or
2 tripped. -/
def adoptZone (z reading : Nat) (s : State) : State :=
  match reading with
  | 0 => modZone z (fun r => { r with adoptPending := false }) s
  | 1 =>
    if leakHolds s z then adoptOff z .isolated s
    else if s.zc.epoLatch then adoptOff z .off s
    else if linkBars s z then adoptOff z .shed s
    else
      tellZoneChange z .off .on
        (modZone z (fun r => { r with state := .on, attempts := 0, adoptPending := false }) s)
  | _ => adoptOff z .off s

/-- R70, R73, R87: Z_STATE news for an output: 0 off, 1 good, 2 tripped. -/
def zoneReport (entry : Nat) (s : State) (news : Nat × Nat) : State :=
  match zoneOfPair s entry news.1 with
  | none => s
  | some z =>
    let r := zoneAt s z
    match r.state with
    | .inrush =>
      if r.acked then
        match news.2 with
        | 0 => s
        | 1 => powerGood z s
        | _ => failAttempt z .trip s
      else s
    | .on => if news.2 == 1 then s else tripZone z news.2 s
    | .off => if r.adoptPending then adoptZone z news.2 s else s
    | .queued => s
    | .shed => s
    | .isolated => s
    | .lockout => s

/-! ## Requests (R84, R85) -/

/-- R84: an OFF zone enters QUEUED. -/
def queueZone (z : Nat) (s : State) : State :=
  runArbiter (tellZoneChange z .off .queued
    (enqueueZone z (modZone z (fun r => { r with state := .queued, adoptPending := false }) s)))

/-- An INRUSH or ON zone enters OFF and is switched off (R69, R84). -/
def switchZoneOff (z : Nat) (s : State) : State :=
  let old := (zoneAt s z).state
  let (s, departed) := queueDisable z (modZone z (leftRunning .off) s)
  afterDeparture (departed || old == .inrush) (tellZoneChange z old .off s)

/-- A QUEUED zone leaves the queue and enters `new`; its retry timer stops (R72, R80, R82, R84). -/
def unqueueZone (z : Nat) (new : ZoneState) (s : State) : State :=
  tellZoneChange z .queued new
    (modZone z (fun r => { r with state := new, retry := .stopped }) (dequeueZone z s))

/-- A SHED zone leaves the re-admit list and enters `new` (R78, R80, R82, R84). -/
def unshedZone (z : Nat) (new : ZoneState) (s : State) : State :=
  tellZoneChange z .shed new (modZone z (fun r => { r with state := new }) (leaveReadmit z s))

/-- R84: ZONE ON. -/
def zoneOnRequest (z : Nat) (s : State) : Status × State :=
  if s.zc.epoLatch then (.epo, s)
  else if !(zoneCfg s z).inUse then (.state, s)
  else
    match (zoneAt s z).state with
    | .isolated => (.state, s)
    | .lockout => (.state, s)
    | .off => if leakHolds s z then (.state, s) else (.ok, queueZone z s)
    | .queued => (.ok, s)
    | .inrush => (.ok, s)
    | .on => (.ok, s)
    | .shed => (.ok, s)

/-- R84: ZONE OFF, always answered OK. -/
def zoneOffRequest (z : Nat) (s : State) : State :=
  match (zoneAt s z).state with
  | .queued => unqueueZone z .off s
  | .inrush => switchZoneOff z s
  | .on => switchZoneOff z s
  | .shed => unshedZone z .off s
  | .off => s
  | .isolated => s
  | .lockout => s

/-- R84: ZONE RESET. -/
def zoneResetRequest (z : Nat) (s : State) : Status × State :=
  if (zoneAt s z).state == .lockout then
    (.ok, tellZoneChange z .lockout .off (modZone z (fun r => { r with state := .off, attempts := 0 }) s))
  else (.state, s)

/-- R84: a ZONE request. -/
def zoneRequest (z : Nat) (action : ZoneAction) (s : State) : Status × State :=
  if 31 < z then (.range, s)
  else
    match action with
    | .on => zoneOnRequest z s
    | .off => (.ok, zoneOffRequest z s)
    | .reset => zoneResetRequest z s

/-- R85: a Sequencer request to queue a zone. -/
def seqQueueRequest (z : Nat) (s : State) : QueueAnswer × State :=
  if s.zc.epoLatch then (.refusedEpo, s)
  else if !(zoneCfg s z).inUse then (.refused, s)
  else
    match (zoneAt s z).state with
    | .isolated => (.refused, s)
    | .lockout => (.refused, s)
    | .off => if leakHolds s z then (.refused, s) else (.queued, queueZone z s)
    | .queued => (.present, s)
    | .inrush => (.present, s)
    | .on => (.present, s)
    | .shed => (.present, s)

/-! ## Isolation and release (R80, R81) -/

/-- R80: one zone of the set of a group entering ALARM. The arbiter runs for the slot it frees, or for a
departure, before the next zone is taken (log entry 64). -/
def isolateZone (s : State) (z : Nat) : State :=
  let r := zoneAt s z
  match r.state with
  | .off =>
    let s := modZone z (fun r => { r with state := .isolated, adoptPending := false }) s
    let (s, departed) := if r.adoptPending then queueDisable z s else (s, false)
    afterDeparture departed (tellZoneChange z .off .isolated s)
  | .queued => unqueueZone z .isolated s
  | .inrush =>
    let (s, _) := queueDisable z (modZone z (leftRunning .isolated) s)
    runArbiter (tellZoneChange z .inrush .isolated s)
  | .on =>
    let (s, departed) := queueDisable z (modZone z (leftRunning .isolated) s)
    afterDeparture departed (tellZoneChange z .on .isolated s)
  | .shed => unshedZone z .isolated s
  | .isolated => s
  | .lockout => s

/-- R81: one zone of the set of a group leaving DRYING. -/
def releaseZone (s : State) (z : Nat) : State :=
  if zoneIs s .isolated z && !leakHeld s z then
    tellZoneChange z .isolated .off (modZone z (fun r => { r with state := .off }) s)
  else s

/-- R80, R81: a leak group's change of state reaches the Zone Controller. R80 takes the zones by index
ascending; R81 names no order, and the same one there is the model's choice (log entry 59). -/
def takeGroupNews (s : State) (news : GroupNews) : State :=
  let s := modZc (fun c => { c with groups := put c.groups news.group news.new }) s
  let set := allZones.filter (groupHolds s news.group)
  let s :=
    if news.new == .alarm then (set.filter (fun z => (zoneCfg s z).inUse)).foldl isolateZone s
    else if news.old == .drying then set.foldl releaseZone s
    else s
  runArbiter s

/-! ## EPO (R82, R83) -/

/-- R82: one zone at the setting of the latch. -/
def epoZone (s : State) (z : Nat) : State :=
  let r := zoneAt s z
  match r.state with
  | .queued => unqueueZone z .off s
  | .inrush => switchZoneOff z s
  | .on => switchZoneOff z s
  | .shed => unshedZone z .off s
  | .off =>
    if r.adoptPending then
      let (s, departed) := queueDisable z (modZone z (fun r => { r with adoptPending := false }) s)
      afterDeparture departed s
    else s
  | .isolated => s
  | .lockout => s

/-- R82: the latch is set, EPO is raised, the Sequencer is told to fail, and every zone is taken, by
index ascending (log entry 15). EPO is raised before a zone's FEED_PENDING (log entry 66). -/
def setEpoLatch (s : State) : State :=
  let switched := (allZones.filter (fun z => countsAllotment (zoneAt s z).state)).length
  let s := modZc (fun c => { c with epoLatch := true }) s
  let s := raiseFlag .epo (be1 0 ++ be1 switched) s
  let s := modMail (fun m => { m with epoFail := m.epoFail + 1 }) s
  allZones.foldl epoZone s

/-- R82: an accepted level of the EPO line. -/
def takeEpoLevel (asserted : Bool) (s : State) : State :=
  let s := modZc (fun c => { c with epoLine := asserted }) s
  if asserted && !s.zc.epoLatch then setEpoLatch s else s

/-- R83: EPO_CLEAR. -/
def epoClearRequest (s : State) : Status × State :=
  if s.zc.epoLatch then
    if s.zc.epoLine then (.epo, s)
    else (.ok, runArbiter (modZc (fun c => { c with epoLatch := false }) s))
  else (.ok, s)

/-! ## News taken from the other blocks (R61, R66, R77, R79) -/

/-- R56, R66, R79: the Capacity Unit's delivery: the list drains before the arbiter runs, as event 8
of section 6.9 shows (log entry 16). -/
def takeCapNews (news : CapNews) (s : State) : State :=
  runArbiter (evaluateReadmit (modZc (fun c => { c with cap := news.state }) s))

/-- R79: a changed energy figure. -/
def takeEnergyNews (energy : Nat) (s : State) : State :=
  evaluateReadmit (modZc (fun c => { c with energy := energy }) s)

/-- R66, R79: a ride-through state or CONSERVE change. -/
def takeRideNews (s : State) (news : RideNews) : State :=
  match news with
  | .state x => evaluateReadmit (runArbiter (modZc (fun c => { c with ride := x }) s))
  | .conserve x => evaluateReadmit (modZc (fun c => { c with conserve := x }) s)

/-- R76, R89: the completion of the INRUSH shed reaches the Ride-Through Unit in the handling that
sends it, naming the zones shed. The unit records it; no rule acts on it (log entry 28). -/
def inrushShedDone (zones : List Nat) (s : State) : State :=
  modRide (fun r => { r with inrushShed := some zones }) s

/-- R76: the Zone Controller records BRIDGING, sheds every INRUSH zone, and reports the request
complete. -/
def takeBridging (s : State) : State :=
  let s := modZc (fun c => { c with ride := .bridging }) s
  match shedList (inrushZones s) s with
  | (s, done) => inrushShedDone done.shed s

/-- R77: a change of link supervision state. -/
def takeLinkNews (news : LinkNews) (s : State) : State :=
  let s := modZc (fun c => { c with
    link := news.state, action := news.action, shedTier := news.shedTier }) s
  if news.state == .autonomous && news.action == .shed then
    runArbiter
      (((shedOrder s).filter (fun z => decide (news.shedTier ≤ (zoneCfg s z).tier))).foldl shedZone s)
  else evaluateReadmit (runArbiter s)

/-- R77: AUTONOMOUS holds the action and tier as the Upstream Port delivers them. The other states
carry them too and do not use them. -/
def linkNewsOf (s : State) : LinkNews := ⟨s.port.link, linkAction s, shedTier s⟩

/-- R68: each zone on segment `i` whose disable is owed. Neither R13 nor R68 names an order among them;
by index ascending is the model's choice (log entry 57). -/
def owedOn (s : State) (i : Nat) : List Nat :=
  allZones.filter fun z =>
    let n := nodeCfg s (zoneCfg s z).feedEntry
    (zoneCfg s z).inUse && (zoneAt s z).disablePending && n.inUse && n.segment == i

end Sys2Proof.Machine
end

