-- ==== Sys2Proof/Machine/Leak.lean ====
section
/-! DEFINITION. The Leak Monitor (spec/07_leak_detection_and_isolation.md): channels, groups, the
beacon, and what it tells the Zone Controller and the Upstream Port. -/

namespace Sys2Proof.Machine

/-! ## Indications (R131) -/

/-- An indication of a channel's source (R131). -/
inductive Indication where
  | dry
  | wet
  | opened
  deriving DecidableEq, Repr, Inhabited

/-- R136, R144: the cause of a fault, numbered from 0 in this order. -/
inductive FaultCause where
  | opened
  | chatter
  | source
  | lineDisabled
  deriving DecidableEq, Repr, Inhabited

/-- R144: the cause of a group's change, numbered from 0 in this order. -/
inductive GroupCause where
  | channel
  | clear
  | write
  | reset
  deriving DecidableEq, Repr, Inhabited

/-- The line record of leak line `c` (section 10.1). -/
def leakLine (c : Nat) : Nat := c + 3

/-- The item code of a sense point (section 11.4). -/
def senseCode (point : Nat) : Nat := 20 + point

/-- R131: the source of the channel speaks. -/
def speaks (s : State) (c : Nat) : Bool :=
  if c < 8 then (nth s.tables.lines (leakLine c)).enable
  else
    let k := (channelCfg s c).source
    let n := nodeCfg s k
    let x := (nodeAt s k).state
    n.inUse && n.kind == .leak && (x == .unseen || x == .active || x == .degraded)

/-- A SENSE reading as an indication (R131). -/
def senseIndication (value : Nat) : Indication :=
  match threeWay value with
  | 0 => .dry
  | 1 => .wet
  | _ => .opened

/-- R131: a level of line record `i` as an indication. -/
def levelIndication (s : State) (i : Nat) (level : Level) : Indication :=
  if level == (nth s.tables.lines i).active then .wet else .dry

/-- R131: the present indication of a channel. -/
def presentIndication (s : State) (c : Nat) : Indication :=
  if c < 8 then
    match (nth s.lines (leakLine c)).accepted with
    | none => .dry
    | some level => levelIndication s (leakLine c) level
  else senseIndication (reading (nodeAt s (channelCfg s c).source) (senseCode (channelCfg s c).sense) 0)

/-! ## Channels (R132 to R136) -/

/-- A PENDING channel whose confirm timer starts now, or a WET one with confirm time 0. -/
def wetStart (s : State) (c glitches : Nat) : ChannelRun :=
  let t := (channelCfg s c).confirm
  if t = 0 then ⟨.wet, glitches, .stopped⟩ else ⟨.pending, glitches, startTimer s t⟩

/-- R132: where settling places a channel. -/
def settledRun (s : State) (c : Nat) : ChannelRun :=
  if speaks s c then
    match presentIndication s c with
    | .opened => ⟨.fault, 0, .stopped⟩
    | .wet => wetStart s c 0
    | .dry => ⟨.dry, 0, .stopped⟩
  else ⟨.fault, 0, .stopped⟩

/-- R132: a channel is settled, with no flag. -/
def settleChannel (s : State) (c : Nat) : State := setChannel c (settledRun s c) s

/-- The byte of a state given in a notice, or of none (log entry 6). -/
def stateByte (x : Option Nat) : List Byte :=
  match x with
  | none => [Config.noStateByte]
  | some n => be1 n

/-- The particulars of LEAK_FAULT (R144). -/
def faultParticulars (s : State) (c : Nat) (cause : FaultCause) (left : Option ChannelState) :
    List Byte :=
  let g := channelCfg s c
  be1 c ++ be1 g.group ++ be1 cause.ctorIdx ++ stateByte (left.map (fun x => x.ctorIdx)) ++
    (if c < 8 then [] else be1 g.source ++ be1 g.sense)

/-- R136: the cause of a settled FAULT. -/
def settledCause (s : State) (c : Nat) : FaultCause :=
  if speaks s c then .opened else if c < 8 then .lineDisabled else .source

/-- R132, R136: a channel is settled outside a LEAK_CLEAR: a settled FAULT raises LEAK_FAULT. -/
def settleRaising (s : State) (c : Nat) : State :=
  let t := settleChannel s c
  if (channelAt t c).state == .fault then
    raiseFlag .leakFault (faultParticulars s c (settledCause s c) none) t
  else t

/-- R136: a channel enters FAULT. -/
def enterFault (c : Nat) (cause : FaultCause) (s : State) : State :=
  raiseFlag .leakFault (faultParticulars s c cause (some (channelAt s c).state))
    (setChannel c ⟨.fault, 0, .stopped⟩ s)

/-- R136: a channel in use that is not in FAULT enters it. -/
def faultChannel (cause : FaultCause) (s : State) (c : Nat) : State :=
  if (channelCfg s c).inUse && (channelAt s c).state != .fault then enterFault c cause s else s

/-- R133: a dry indication in PENDING, a glitch. -/
def glitch (c : Nat) (s : State) : State :=
  let count := (channelAt s c).glitches + 1
  if count = (channelCfg s c).chatter then enterFault c .chatter s
  else setChannel c ⟨.dry, count, .stopped⟩ s

/-- R133: an indication acts on a channel in use. -/
def indicateChannel (s : State) (news : Nat × Indication) : State :=
  let c := news.1
  let r := channelAt s c
  if (channelCfg s c).inUse then
    match r.state, news.2 with
    | .dry, .wet => setChannel c (wetStart s c r.glitches) s
    | .dry, .dry => s
    | .dry, .opened => enterFault c .opened s
    | .pending, .wet => s
    | .pending, .dry => glitch c s
    | .pending, .opened => enterFault c .opened s
    | .wet, .wet => s
    | .wet, .dry => setChannel c ⟨.dry, r.glitches, .stopped⟩ s
    | .wet, .opened => enterFault c .opened s
    | .fault, .wet => s
    | .fault, .dry => s
    | .fault, .opened => s
  else s

/-! ## Groups (R138) -/

/-- The channels counted in group `g`, by index ascending. -/
def channelsOf (s : State) (g : Nat) : List Nat :=
  allChannels.filter fun c => (channelCfg s c).inUse && (channelCfg s c).group == g

/-- R138: W. -/
def wetCount (s : State) (g : Nat) : Nat :=
  ((channelsOf s g).filter fun c =>
    let x := (channelAt s c).state
    x == .wet || (x == .fault && (channelCfg s c).faultAsWet)).length

/-- R138: P. -/
def pendingCount (s : State) (g : Nat) : Nat :=
  ((channelsOf s g).filter fun c => (channelAt s c).state == .pending).length

/-- R137: the vote of group `g`. -/
def voteOf (s : State) (g : Nat) : Nat := (nth s.tables.leakMap g).vote

/-- The state of group `g`. -/
def groupAt (s : State) (g : Nat) : GroupState := nth s.leak.groups g

/-- R138: where the evaluation places a group that stands in `x`. -/
def groupPlace (x : GroupState) (w p vote : Nat) : GroupState :=
  if vote ≤ w then .alarm
  else
    match x with
    | .alarm => .drying
    | .drying => .drying
    | .clear => if 0 < p + w then .watch else .clear
    | .watch => if 0 < p + w then .watch else .clear

/-! ## The beacon (R143) -/

/-- R143: the pattern chosen. -/
def beaconChoice (l : Leak) : Beacon :=
  if l.groups.toList.any (fun x => x == .alarm) then .fast
  else if l.groups.toList.any (fun x => x == .drying) then .slow
  else if l.bridging then .steady
  else .dark

/-- R143: the toggle time of a pattern, 0 for none. -/
def toggleTime : Beacon → Nat
  | .fast => 125
  | .slow => 500
  | .steady => 0
  | .dark => 0

/-- R143: the beacon takes a pattern. -/
def takePattern (p : Beacon) (s : State) : State :=
  modLeak (fun l => { l with
    pattern := p
    beaconTimer := if toggleTime p = 0 then .stopped else startTimer s (toggleTime p)
    beaconLine := p != .dark }) s

/-- R143: the pattern is chosen again. -/
def chooseBeacon (s : State) : State :=
  let p := beaconChoice s.leak
  if p == s.leak.pattern then s else takePattern p s

/-! ## Group changes (R138, R142, R144) -/

/-- R138: some group is in ALARM. -/
def anyAlarm (s : State) : Bool := s.leak.groups.toList.any (fun x => x == .alarm)

/-- The particulars of LEAK_ALARM (R144). -/
def alarmParticulars (s : State) (g : Nat) (old new : GroupState) (cause : GroupCause) : List Byte :=
  be1 g ++ be1 old.ctorIdx ++ be1 new.ctorIdx ++ be1 (wetCount s g) ++ be1 (pendingCount s g) ++
    be1 (voteOf s g) ++ be1 cause.ctorIdx

/-- R138, R142: group `g` changes to `new`. The beacon is chosen again once every group of the handling
has been evaluated (log entry 37). -/
def changeGroup (g : Nat) (new : GroupState) (cause : GroupCause) (s : State) : State :=
  let old := groupAt s g
  let s := modLeak (fun l => { l with groups := put l.groups g new }) s
  let s := modPort (fun p => { p with leakAlarm := anyAlarm s }) s
  let s := raiseFlag .leakAlarm (alarmParticulars s g old new cause) s
  modMail (fun m => { m with leakToZone := m.leakToZone ++ [⟨g, old, new⟩] }) s

/-- R138, R140: group `g` is evaluated as if it stood in `x`. -/
def evaluateFrom (x : GroupState) (cause : GroupCause) (s : State) (g : Nat) : State :=
  let new := groupPlace x (wetCount s g) (pendingCount s g) (voteOf s g)
  if new == groupAt s g then s else changeGroup g new cause s

/-- R138: group `g` is evaluated. -/
def evaluateGroup (cause : GroupCause) (s : State) (g : Nat) : State :=
  evaluateFrom (groupAt s g) cause s g

/-- R143: groups are evaluated, in the order given, and then the beacon is chosen (log entry 37). -/
def evaluateGroups (cause : GroupCause) (groups : List Nat) (s : State) : State :=
  chooseBeacon (groups.foldl (evaluateGroup cause) s)

/-- R133: each group whose counts differ from those in `before` is evaluated once, by index
ascending. -/
def evaluateChanged (before : State) (cause : GroupCause) (s : State) : State :=
  evaluateGroups cause (allGroups.filter fun g =>
    wetCount before g != wetCount s g || pendingCount before g != pendingCount s g) s

/-! ## Deliveries taken (R131, R136, R142) -/

/-- R133: one delivery's indications, by channel ascending, then the groups. -/
def takeIndications (news : List (Nat × Indication)) (s : State) : State :=
  evaluateChanged s .channel (news.foldl indicateChannel s)

/-- R42, R131: the SENSE readings of a reply from a LEAK entry, as indications of the channels that
follow it. -/
def replyIndications (s : State) (entry : Nat) (taken : List Item) : List (Nat × Indication) :=
  allChannels.filterMap fun c =>
    let g := channelCfg s c
    if 8 ≤ c ∧ g.source = entry then
      (taken.find? (fun x => x.code == senseCode g.sense)).map
        (fun x => (c, senseIndication x.value))
    else none

/-- R42, R136: the entry's sense points no longer speak. Its channels enter FAULT by index ascending, the
model's choice (log entry 65). -/
def sourceLost (entry : Nat) (s : State) : State :=
  evaluateChanged s .channel
    ((allChannels.filter fun c => decide (8 ≤ c) && (channelCfg s c).source == entry).foldl
      (faultChannel .source) s)

/-- R131: an accepted level of leak line `c`. -/
def takeLeakLevel (c : Nat) (wet : Bool) (s : State) : State :=
  takeIndications [(c, if wet then .wet else .dry)] s

/-- R131, R136: a change of the enable of leak line `c`. -/
def takeLeakEnable (c : Nat) (on : Bool) (s : State) : State :=
  if on then s else evaluateChanged s .channel (faultChannel .lineDisabled s c)

/-- R142, R143: an entry into BRIDGING or a departure from it. -/
def leakTakeBridging (bridging : Bool) (s : State) : State :=
  chooseBeacon (modLeak (fun l => { l with bridging := bridging }) s)

/-! ## Timers (R134, R135, R143) -/

/-- R134: the confirm timer of channel `c` expires. -/
def channelConfirmed (c : Nat) (s : State) : State :=
  evaluateGroups .channel [(channelCfg s c).group]
    (setChannel c ⟨.wet, (channelAt s c).glitches, .stopped⟩ s)

/-- R135: the chatter timer expires and reloads. -/
def chatterExpired (s : State) : State :=
  modLeak (fun l => { l with
    channels := l.channels.map (fun r => { r with glitches := 0 })
    chatter := startTimer s (chatterWindow s) }) s

/-- R143: the beacon timer expires: the line is inverted and the timer reloads. -/
def beaconExpired (s : State) : State :=
  modLeak (fun l => { l with
    beaconLine := !l.beaconLine, beaconTimer := startTimer s (toggleTime l.pattern) }) s

/-! ## LEAK_CLEAR (R140) -/

/-- R140: each FAULT channel of group `g` is settled. -/
def settleFaults (g : Nat) (s : State) : State :=
  ((channelsOf s g).filter (fun c => (channelAt s c).state == .fault)).foldl settleChannel s

/-- R140: a LEAK_CLEAR of group `g`. -/
def leakClear (g : Nat) (s : State) : Status × State :=
  if 7 < g then (.range, s)
  else
    match groupAt s g with
    | .alarm =>
      let t := evaluateGroups .clear [g] (settleFaults g s)
      (if groupAt t g == .alarm then .stillWet else .ok, t)
    | .drying => (.ok, chooseBeacon (evaluateFrom .clear .clear (settleFaults g s) g))
    | .clear => (.ok, evaluateGroups .clear [g] (settleFaults g s))
    | .watch => (.ok, evaluateGroups .clear [g] (settleFaults g s))

/-- R149: a release that a LEAK_CLEAR starts happens in its handling: the group changes in flight
reach the Zone Controller, oldest first. Log entry 17. -/
def flushGroupNews (s : State) : State :=
  s.mail.leakToZone.foldl takeGroupNews (modMail (fun m => { m with leakToZone := [] }) s)

/-- R140: a LEAK_CLEAR request. -/
def leakClearRequest (g : Nat) (s : State) : Status × State :=
  match leakClear g s with
  | (.range, s) => (.range, s)
  | (status, s) => (status, flushGroupNews s)

/-! ## Table writes (R130, R137) -/

/-- R130: the group is in ALARM or DRYING. -/
def groupLatched (s : State) (g : Nat) : Bool := latchedGroup (groupAt s g)

/-- R130: the new contents of channel `c` may be written. -/
def channelWritable (s : State) (c : Nat) (new : ChannelCfg) : Bool :=
  let old := channelCfg s c
  let x := (channelAt s c).state
  (!old.inUse || x == .dry || x == .fault) &&
    (!old.inUse || !groupLatched s old.group) &&
    (!new.inUse || (decide (new.group ≤ 7) && !groupLatched s new.group &&
      (decide (c < 8) || (decide (new.source ≤ 47) && decide (new.sense ≤ 3)))))

/-- R130: the corrections of a channel's contents. -/
def clampChannel (new : ChannelCfg) : ChannelCfg :=
  { new with confirm := min 10000 new.confirm, chatter := max 1 (min 15 new.chatter) }

/-- R130: the groups that counted the channel before the write or count it after, by index ascending, the
model's choice (log entry 72). -/
def groupsTouched (old new : ChannelCfg) : List Nat :=
  allGroups.filter fun g => (old.inUse && old.group == g) || (new.inUse && new.group == g)

/-- R130: a LEAK_CHANNEL write is offered; the flag returned says whether it was taken. -/
def writeChannel (c : Nat) (contents : ChannelCfg) (s : State) : State × Bool :=
  if channelWritable s c contents then
    let new := clampChannel contents
    let touched := groupsTouched (channelCfg s c) new
    let s := setChannel c ⟨.dry, 0, .stopped⟩
      { s with tables := { s.tables with channels := put s.tables.channels c new } }
    let s := if new.inUse then settleRaising s c else s
    (evaluateGroups .write touched s, true)
  else (s, false)

/-- R137: a LEAK_MAP write is offered; a CLEAR group takes it. -/
def writeLeakMap (g : Nat) (contents : LeakMapCfg) (s : State) : State × Bool :=
  if groupAt s g == .clear then
    let new : LeakMapCfg := { contents with vote := max 1 (min 4 contents.vote) }
    let s := { s with tables := { s.tables with leakMap := put s.tables.leakMap g new } }
    (evaluateGroups .write [g] s, true)
  else (s, false)

end Sys2Proof.Machine
end

