-- ==== Sys2Proof/Machine/Ride.lean ====
section
/-! DEFINITION. The Ride-Through Unit (spec/06_battery_ride_through.md): the AC loss indication, the
ride-through states, episodes and CONSERVE, the energy figure and the plan. -/

namespace Sys2Proof.Machine

/-! ## The AC loss indication (R111) -/

/-- R111: AC-sense line `i` (line record 0 or 1) reads LOST. -/
def lineLost (s : State) (i : Nat) : Bool :=
  (nth s.lines i).accepted == some (nth s.tables.lines i).active

/-- The enabled AC-sense lines. -/
def acLines (s : State) : List Nat := [0, 1].filter fun i => (nth s.tables.lines i).enable

/-- R111: the line part. -/
def linePartOf (s : State) : Bool := !(acLines s).isEmpty && (acLines s).all (lineLost s)

/-- R111: the lost-input count. -/
def lostCount (r : Ride) : Nat := (r.lostInput.toList.filter id).length

/-- R111: the rectifier part. -/
def rectPartOf (s : State) : Bool := decide (lossQuorum s ≤ lostCount s.ride)

/-! ## Figures (R113, R119) -/

/-- R113: elapsed, in tenths of a second. -/
def elapsedOf (s : State) : Nat :=
  match s.ride.elapsed with
  | .stopped value => value
  | .counting since => min 65535 ((s.now - since) / 100)

/-- R119: stage 2. -/
def energyAvail (fraction eSum : Nat) : Nat := eSum - eSum * fraction / 256

/-- R119: stage 3, the energy figure. -/
def energyFigure (fraction efficiency eSum : Nat) : Nat :=
  energyAvail fraction eSum * efficiency / 256

/-- The copies that are ACTIVE. -/
def activeCopies (r : Ride) : List BatteryCopy := r.copies.toList.filter (fun c => c.active)

/-- R119, R120: the figures recomputed from the copies; a changed energy figure is delivered to the
Zone Controller and the Sequencer. -/
def recomputeEnergy (s : State) : State :=
  let copies := activeCopies s.ride
  let eSum := (copies.map (fun c => c.energy)).sum
  let energy := energyFigure (reserveFraction s) (efficiency s) eSum
  let old := s.ride.energy
  let s := modRide (fun r => { r with
    eSum := eSum
    pCap := (copies.map (fun c => c.limit)).sum
    batteries := copies.length
    energy := energy }) s
  if energy == old then s
  else modMail (fun m => { m with
    energyToZone := m.energyToZone ++ [energy], energyToSeq := m.energyToSeq ++ [energy] }) s

/-! ## Telling others (R126, R127) -/

/-- R127: the cause of a RIDE_CHANGE, numbered from 0 in this order. -/
inductive RideCause where
  | loss
  | blip
  | confirmed
  | relapse
  | return
  | settled
  | conserve
  | release
  deriving DecidableEq, Repr, Inhabited

/-- R127: RIDE_CHANGE is raised. Log entries 10 and 18. -/
def raiseRideChange (old : RideState) (cause : RideCause) (s : State) : State :=
  raiseFlag .rideChange
    (be1 old.ctorIdx ++ be1 s.ride.state.ctorIdx ++ be1 cause.ctorIdx ++ be2 s.ride.episodes ++
      beBool s.ride.conserve ++ beBool s.ride.linePart ++ beBool s.ride.rectPart) s

/-- R126: an entry into BRIDGING or a departure from it, with the BRIDGE line (R116), the beacon
(R143) and the ALERT line (R156). -/
def setBridging (bridging : Bool) (s : State) : State :=
  driveAlert (modPort (fun p => { p with bridging := bridging })
    (leakTakeBridging bridging (modRide (fun r => { r with bridgeLine := bridging }) s)))

/-- R126: the Zone Controller is told of the new state. -/
def tellZoneRide (news : RideNews) (s : State) : State :=
  modMail (fun m => { m with rideToZone := m.rideToZone ++ [news] }) s

/-- R126: the Capacity Unit and the Sequencer are told of leaving NORMAL (`false`) or of returning
to it (`true`). -/
def tellNormal (normal : Bool) (s : State) : State :=
  modMail (fun m => { m with
    rideToCap := m.rideToCap ++ [normal], rideToSeq := m.rideToSeq ++ [normal] }) s

/-! ## The plan (R122 to R125) -/

/-- R122: the load value of a zone. -/
def zoneLoad (s : State) (z : Nat) : Nat :=
  let c := zoneCfg s z
  let n := nodeCfg s c.feedEntry
  let slot := nth (nodeAt s c.feedEntry).slots (12 + c.output)
  if n.inUse && n.kind == .feed && slot.present && decide (slot.age ≤ 1) then slot.value else c.steady

/-- R122: the ON zones that are not in the pending set. -/
def planZones (s : State) : List Nat :=
  allZones.filter fun z => zoneIs s .on z && !s.ride.pendingSet.contains z

/-- R122: P_load. -/
def planLoad (s : State) : Nat := ((planZones s).map (zoneLoad s)).sum

/-- R123: stage 5, in tenths of a second. -/
def holdUp (energy load : Nat) : Nat := if load = 0 then 65535 else min 65535 (100 * energy / load)

/-- R123: stage 6. -/
def timeNeeded (required floor elapsed : Nat) : Nat := max (required - elapsed) floor

/-- R123: stage 8, with stage 7. -/
def shedTarget (energy pCap needed : Nat) : Nat := min pCap (100 * energy / needed)

/-- R123: the zones the walk takes from: ON, not in the pending set, tiers 3, 2 and 1, each by index
descending. -/
def planOrder (s : State) : List Nat :=
  (onOfTier s 3 ++ onOfTier s 2 ++ onOfTier s 1).filter fun z => !s.ride.pendingSet.contains z

/-- R123: the outcome of a walk. -/
def planOutcome (load target remainder : Nat) : PlanOutcome :=
  if load ≤ target then .none else if remainder ≤ target then .covered else .exhausted

/-- R123, R125: a plan evaluated from the state as it stands. -/
def planRecord (occasion : Occasion) (s : State) : PlanRecord :=
  let load := planLoad s
  let energy := s.ride.energy
  let need := timeNeeded (bridgeTime s) (bridgeFloor s) (elapsedOf s)
  let target := shedTarget energy s.ride.pCap need
  let w := walkOrder (zoneLoad s) target (planOrder s) load
  { episode := s.ride.episodes
    occasion := occasion
    elapsed := elapsedOf s
    batteries := s.ride.batteries
    eSum := s.ride.eSum
    eEff := energy
    loadBefore := load
    holdBefore := holdUp energy load
    need := need
    cap := s.ride.pCap
    target := target
    outcome := planOutcome load target w.remainder
    loadAfter := w.remainder
    holdAfter := holdUp energy w.remainder
    shed := w.zones }

/-- R123: an exhausted plan raises RIDE_SHORT, once in an episode. -/
def raiseShort (p : PlanRecord) (s : State) : State :=
  if p.outcome == .exhausted && !s.ride.short then
    raiseFlag .rideShort (be2 p.episode ++ be4 p.target ++ be4 p.loadAfter)
      (modRide (fun r => { r with short := true }) s)
  else s

/-- The particulars of RIDE_SHED (R124). -/
def shedParticulars (p : PlanRecord) : List Byte :=
  be2 p.episode ++ be2 p.elapsed ++ be4 p.loadBefore ++ be4 p.target ++ be4 p.loadAfter ++
    be1 p.outcome.ctorIdx ++ beList p.shed

/-- R124: a shed list that is not empty is handed over. -/
def handOverPlan (p : PlanRecord) (s : State) : State :=
  if p.shed.isEmpty then s
  else
    raiseFlag .rideShed (shedParticulars p)
      (modMail (fun m => { m with planShed := m.planShed ++ [p.shed] })
        (modRide (fun r => { r with pendingSet := r.pendingSet ++ p.shed }) s))

/-- R121 to R125: a plan is evaluated. An exhausted plan that also sheds raises RIDE_SHORT before
RIDE_SHED (log entry 41). -/
def evaluatePlan (occasion : Occasion) (s : State) : State :=
  let p := planRecord occasion s
  handOverPlan p (raiseShort p (modRide (fun r => { r with lastPlan := some p }) s))

/-- R124: the Zone Controller reports a plan shed request complete. -/
def planShedDone (d : ShedDone) (s : State) : State :=
  modRide (fun r => { r with
    pendingSet := r.pendingSet.filter fun z => !(d.shed.contains z || d.passed.contains z) }) s

/-! ## Changes of state (R113 to R118) -/

/-- R117, R118: the episode counter rises at an entry into BRIDGING. -/
def countEpisode (s : State) : State :=
  let s := modRide (fun r => { r with
    episodes := min 255 (r.episodes + 1), window := startTimer s (1000 * episodeWindow s) }) s
  if episodeLimit s ≤ s.ride.episodes && !s.ride.conserve then
    raiseRideChange s.ride.state .conserve
      (tellZoneRide (.conserve true) (modRide (fun r => { r with conserve := true }) s))
  else s

/-- R114: entry into BRIDGING, in the order of its steps. -/
def enterBridging (cause : RideCause) (s : State) : State :=
  let old := s.ride.state
  let s := setBridging true (modRide (fun r => { r with
    state := .bridging, confirm := .stopped, settle := .stopped }) s)
  let s := countEpisode s
  let s := modRide (fun r => { r with elapsed := .counting s.now, short := false }) s
  let s := evaluatePlan .entry (tellZoneRide (.state .bridging) s)
  let s := modRide (fun r => { r with recompute := startTimer s (recomputePeriod s) }) s
  raiseRideChange old cause s

/-- R113, R115: the unit enters NORMAL. -/
def returnToNormal (cause : RideCause) (s : State) : State :=
  let old := s.ride.state
  raiseRideChange old cause (tellNormal true (tellZoneRide (.state .normal)
    (modRide (fun r => { r with state := .normal, confirm := .stopped, settle := .stopped }) s)))

/-- R113, R115: the indication rises. -/
def indicationRises (s : State) : State :=
  match s.ride.state with
  | .normal =>
    if confirmTime s = 0 then enterBridging .confirmed (tellNormal false s)
    else
      raiseRideChange .normal .loss (tellNormal false (tellZoneRide (.state .suspect)
        (modRide (fun r => { r with
          state := .suspect, confirm := startTimer s (confirmTime s) }) s)))
  | .restoring => enterBridging .relapse s
  | .suspect => s
  | .bridging => s

/-- R115: BRIDGING is left. -/
def leaveBridging (s : State) : State :=
  let s := setBridging false (modRide (fun r => { r with
    recompute := .stopped, elapsed := .stopped (elapsedOf s) }) s)
  if settleTime s = 0 then returnToNormal .settled s
  else
    raiseRideChange .bridging .return (tellZoneRide (.state .restoring)
      (modRide (fun r => { r with
        state := .restoring, settle := startTimer s (100 * settleTime s) }) s))

/-- R113, R115: the indication falls. -/
def indicationFalls (s : State) : State :=
  match s.ride.state with
  | .suspect => returnToNormal .blip s
  | .bridging => leaveBridging s
  | .normal => s
  | .restoring => s

/-- R112: the indication is evaluated again. -/
def evaluateIndication (s : State) : State :=
  let old := s.ride.indication
  let new := linePartOf s || rectPartOf s
  let s := modRide (fun r => { r with
    linePart := linePartOf s, rectPart := rectPartOf s, indication := new }) s
  if new == old then s else if new then indicationRises s else indicationFalls s

/-! ## News and timers -/

/-- R111: rectifier news; the entry is counted when it is ACTIVE and its IN_STATE reads 1. -/
def takeRectifier (entry : Nat) (counted : Bool) (s : State) : State :=
  evaluateIndication (modRide (fun r => { r with lostInput := put r.lostInput entry counted }) s)

/-- R119 to R121: battery news; a copy that changes between ACTIVE and not ACTIVE in BRIDGING is an
occasion of a plan. -/
def takeBattery (entry : Nat) (copy : BatteryCopy) (s : State) : State :=
  let changed := (nth s.ride.copies entry).active != copy.active
  let s := recomputeEnergy (modRide (fun r => { r with copies := put r.copies entry copy }) s)
  if changed && s.ride.state == .bridging then evaluatePlan .battery s else s

/-- R113: the confirm timer expires. -/
def confirmExpired (s : State) : State :=
  if s.ride.state == .suspect then enterBridging .confirmed s else s

/-- R115: the settle timer expires. -/
def settleExpired (s : State) : State :=
  if s.ride.state == .restoring then returnToNormal .settled s else s

/-- R121: the recompute timer expires and reloads. -/
def recomputeExpired (s : State) : State :=
  if s.ride.state == .bridging then
    evaluatePlan .recompute
      (modRide (fun r => { r with recompute := startTimer s (recomputePeriod s) }) s)
  else s

/-- R117: the episode window timer expires. -/
def windowExpired (s : State) : State :=
  modRide (fun r => { r with episodes := 0, window := .stopped }) s

/-! ## RIDE_RELEASE (R118) -/

/-- A CONSERVE change. -/
def isConserve : RideNews → Bool
  | .conserve _ => true
  | .state _ => false

/-- R118, R149: the CONSERVE changes in flight reach the Zone Controller in the handling of the
release, oldest first. Log entry 17. -/
def flushConserveNews (s : State) : State :=
  (s.mail.rideToZone.filter isConserve).foldl takeRideNews
    (modMail (fun m => { m with rideToZone := m.rideToZone.filter (fun x => !isConserve x) }) s)

/-- R118: RIDE_RELEASE, always answered OK. -/
def rideReleaseRequest (s : State) : State :=
  let was := s.ride.conserve
  let s := modRide (fun r => { r with conserve := false, episodes := 0, window := .stopped }) s
  if was then
    flushConserveNews (raiseRideChange s.ride.state .release (tellZoneRide (.conserve false) s))
  else s

/-! ## The standby evaluation (R128) -/

/-- R128: the four standby figures. -/
structure Standby where
  load : Nat
  hold : Nat
  need : Nat
  target : Nat
  deriving DecidableEq, Repr

/-- R128: the standby evaluation; elapsed is taken as 0 outside BRIDGING. -/
def standby (s : State) : Standby :=
  let load := planLoad s
  let elapsed := if s.ride.state == .bridging then elapsedOf s else 0
  let need := timeNeeded (bridgeTime s) (bridgeFloor s) elapsed
  ⟨load, holdUp s.ride.energy load, need, shedTarget s.ride.energy s.ride.pCap need⟩

end Sys2Proof.Machine
end

