-- ==== Sys2Proof/Machine/Inspector.lean ====
section
/-! DEFINITION. The Frame Inspector (spec/02_node_records_and_frame_inspection.md): node states,
items and limits, reports, misses, ageing, news, and the NODE request. -/

namespace Sys2Proof.Machine

/-! ## News (R39 to R42) -/

/-- R44: the cause of a NODE_CHANGE, numbered from 0 in this order. -/
inductive NodeCause where
  | reply
  | miss
  | disable
  | request
  | write
  deriving DecidableEq, Repr, Inhabited

/-- R111, R119: the entry stands in ACTIVE. -/
def isActive (x : Option NodeState) : Bool := x == some .active

/-- R119: the battery copy of an entry that stands in `x`. -/
def batteryCopy (x : Option NodeState) (r : NodeRun) : BatteryCopy :=
  if isActive x then ⟨true, reading r 6 0, reading r 7 0⟩ else ⟨false, 0, 0⟩

/-- R42, R131: an entry in this state has speaking sense points. -/
def sensePointsSpeak (x : Option NodeState) : Bool :=
  x == some .unseen || x == some .active || x == some .degraded

/-- R39 to R42: the consumers of a kind are told that entry `k` now stands in `x` (none: it is not
in use, or no longer of that kind). Of the two consumers of rectifier news the Capacity Unit acts first
(log entry 42). -/
def tellConsumers (k : Nat) (kind : NodeKind) (x : Option NodeState) (s : State) : State :=
  match kind with
  | .rectifier =>
    takeRectifier k (isActive x && inStateReading (nodeAt s k) == 1) (recomputeAvailable s)
  | .battery => takeBattery k (batteryCopy x (nodeAt s k)) s
  | .feed => runArbiter s
  | .leak => if sensePointsSpeak x then s else sourceLost k s

/-- R44: NODE_CHANGE is raised for a change of state. -/
def raiseNodeChange (k : Nat) (old new : Option NodeState) (cause : NodeCause) (s : State) : State :=
  raiseFlag .nodeChange (be1 k ++ stateByte (old.map (fun x => x.ctorIdx)) ++
    stateByte (new.map (fun x => x.ctorIdx)) ++ be1 cause.ctorIdx) s

/-! ## States (R24, R25) -/

/-- R25: the record of an entry that enters `x`. -/
def enterNodeState (x : NodeState) (r : NodeRun) : NodeRun :=
  match x with
  | .unseen => ⟨.unseen, 0, Vector.replicate 24 Slot.clear⟩
  | .disabled => ⟨.disabled, 0, Vector.replicate 24 Slot.clear⟩
  | .lost => ⟨.lost, r.misses, Vector.replicate 24 Slot.clear⟩
  | .active => { r with state := .active }
  | .degraded => { r with state := .degraded }

/-- R24: entry `k` changes state outside a reply. -/
def changeNode (k : Nat) (x : NodeState) (cause : NodeCause) (s : State) : State :=
  let old := (nodeAt s k).state
  raiseNodeChange k (some old) (some x) cause
    (tellConsumers k (nodeCfg s k).kind (some x) (modNode k (enterNodeState x) s))

/-! ## Limits (R34 to R36) -/

/-- R34: the sample violates the bounds. -/
def violates (c : LimitCfg) (v : Nat) : Bool := decide (v < c.low) || decide (c.high < v)

/-- R35: the sample lies in the release band. -/
def inReleaseBand (c : LimitCfg) (v : Nat) : Bool :=
  decide (c.low + c.hysteresis ≤ v) && decide (v + c.hysteresis ≤ c.high)

/-- R34 to R36: a sample is checked: the slot after it, and whether the item entered (`true`) or
left (`false`) violation. A counter above a lowered confirm count is set to that count (log entry 58). -/
def checkSample (c : LimitCfg) (slot : Slot) (v : Nat) : Slot × Option Bool :=
  if c.enabled then
    if slot.violation then
      if violates c v then (slot, none)
      else if inReleaseBand c v then ({ slot with violation := false, confirm := 0 }, some false)
      else (slot, none)
    else if violates c v then
      let count := min c.confirm (slot.confirm + 1)
      if c.confirm ≤ count then ({ slot with confirm := count, violation := true }, some true)
      else ({ slot with confirm := count }, none)
    else ({ slot with confirm := 0 }, none)
  else if slot.violation then ({ slot with violation := false, confirm := 0 }, some false)
  else ({ slot with confirm := 0 }, none)

/-- The record with one slot replaced. -/
def putSlot (code : Nat) (slot : Slot) (r : NodeRun) : NodeRun :=
  { r with slots := put r.slots code slot }

/-- R27: an item is stored. -/
def storeItem (k : Nat) (s : State) (x : Item) : State :=
  modNode k (fun r =>
    putSlot x.code { nth r.slots x.code with present := true, value := x.value, age := 0 } r) s

/-- R34 to R36, R44: a stored item is checked, and LIMIT raised for a violation entered (0) or left
(1), numbers that are the model's choice (log entry 67). -/
def checkItem (k : Nat) (s : State) (x : Item) : State :=
  match checkSample (nth s.tables.limits x.code) (nth (nodeAt s k).slots x.code) x.value with
  | (slot, change) =>
    let s := modNode k (putSlot x.code slot) s
    match change with
    | none => s
    | some entering =>
      raiseFlag .limit (be1 k ++ be1 x.code ++ be2 x.value ++ be1 (if entering then 0 else 1)) s

/-- R30: the degrade condition. -/
def degradeCondition (s : State) (k : Nat) : Bool :=
  let r := nodeAt s k
  ((List.range 24).any fun code =>
    kindHasItem (nodeCfg s k).kind code && (nth r.slots code).violation &&
      (nth s.tables.limits code).action == .degrade) ||
  reading r 5 0 != 0

/-! ## Reports (R37, R38) -/

/-- R37: the item qualifies for a report in CHANGE mode. -/
def reportsChange (s : State) (k : Nat) (x : Item) : Bool :=
  match (nth (nodeAt s k).slots x.code).reported with
  | none => true
  | some old => decide ((nth s.tables.limits x.code).deadband < max (x.value - old) (old - x.value))

/-- R37: the items of the report, or none when no report is made. -/
def reportItems (s : State) (k : Nat) (taken : List Item) : Option (List Item) :=
  match (nodeCfg s k).reportMode with
  | .off => none
  | .every => some taken
  | .change =>
    let chosen := taken.filter (reportsChange s k)
    if chosen.isEmpty then none else some chosen

/-- R173: a report frame. -/
def reportFrame (s : State) (k : Nat) (items : List Item) : Frame :=
  let c := nodeCfg s k
  ⟨rmcByte, supervisorByte, 0x22#8, 0x00#8,
    be1 k ++ be1 c.segment ++ be1 c.address ++ be1 c.kind.ctorIdx ++ be1 (nodeAt s k).state.ctorIdx ++
      be1 items.length ++ items.flatMap itemBytes⟩

/-- R37: the reported value of an item is set. -/
def markReported (k : Nat) (s : State) (x : Item) : State :=
  modNode k (fun r => putSlot x.code { nth r.slots x.code with reported := some x.value } r) s

/-- R37, R38: the report of a poll reply. -/
def makeReport (k : Nat) (taken : List Item) (s : State) : State :=
  match reportItems s k taken with
  | none => s
  | some items =>
    match queueReport (reportFrame s k items) s with
    | (s, true) => items.foldl (markReported k) s
    | (s, false) => s

/-! ## Inspecting a reply (R26) -/

/-- R41: the Z_STATE readings of a reply, by output ascending (log entry 19). -/
def outputReports (taken : List Item) : List (Nat × Nat) :=
  [0, 1, 2, 3].filterMap fun output =>
    (taken.find? (fun x => x.code == 16 + output)).map (fun x => (output, threeWay x.value))

/-- R39 to R42: the news of an applied reply of entry `k`, whose record was `before`. -/
def replyNews (k : Nat) (before : NodeRun) (taken : List Item) (s : State) : State :=
  let c := nodeCfg s k
  let r := nodeAt s k
  let changed := r.state != before.state
  match c.kind with
  | .rectifier =>
    if changed || (r.state == .active && (inStateReading r != inStateReading before ||
        ratingReading c.rated r != ratingReading c.rated before))
    then tellConsumers k .rectifier (some r.state) s else s
  | .battery =>
    if changed || (r.state == .active && taken.any (fun x => x.code == 6 || x.code == 7))
    then tellConsumers k .battery (some r.state) s else s
  | .feed =>
    (outputReports taken).foldl (zoneReport k)
      (if changed then tellConsumers k .feed (some r.state) s else s)
  | .leak => takeIndications (replyIndications s k taken) s

/-- The TELEMETRY kind byte (section 11.3). -/
def telemetryByte : Byte := 0x50#8

/-- The FEED_ACK kind byte (section 11.3). -/
def feedAckByte : Byte := 0x51#8

/-- R26 steps 4 to 6: the state that a reply settles, from the state `base` of step 3. -/
def settleNode (k : Nat) (telemetry : Bool) (base : NodeState) (s : State) : State :=
  let x : NodeState :=
    if telemetry then (if degradeCondition s k then .degraded else .active) else base
  modNode k (fun r => { r with state := x }) s

/-- R26: a GOOD reply of frame kind `kind` for entry `k` is inspected; `poll` says whether its
exchange was of kind POLL. The state at the reply decides whether it is applied: the reply to a POLL
that was on the wire when its entry was disabled is applied once the entry is enabled again (log entry
39). -/
def inspectReply (k : Nat) (kind : Byte) (payload : List Byte) (poll stale : Bool) (s : State) :
    State :=
  let before := nodeAt s k
  let c := nodeCfg s k
  if stale || !c.inUse || before.state == .disabled then s
  else
    let base : NodeState :=
      if before.state == .unseen || before.state == .lost then .active else before.state
    let telemetry := kind == telemetryByte
    let taken := if telemetry then itemsTaken c.kind payload else []
    let s := modNode k (fun r => { r with misses := 0 }) s
    let s := taken.foldl (checkItem k) (taken.foldl (storeItem k) s)
    let s := replyNews k before taken (settleNode k telemetry base s)
    let x := (nodeAt s k).state
    let s := if x == before.state then s else raiseNodeChange k (some before.state) (some x) .reply s
    if poll && telemetry then makeReport k taken s else s

/-! ## Misses, ageing, loss of a segment (R28, R29, R32) -/

/-- R29: a miss for entry `k`. -/
def countMiss (k : Nat) (s : State) : State :=
  let r := nodeAt s k
  if !(nodeCfg s k).inUse || r.state == .disabled then s
  else
    let misses := min 15 (r.misses + 1)
    let s := modNode k (fun r => { r with misses := misses }) s
    if r.state != .lost && decide (lostThreshold s ≤ misses) then changeNode k .lost .miss s else s

/-- R28: a slot's age rises. -/
def ageSlot (slot : Slot) : Slot :=
  if slot.present then { slot with age := min 3 (slot.age + 1) } else slot

/-- R28: the entry ages at the expiry of segment `i`'s poll timer. -/
def agesOn (s : State) (i k : Nat) : Bool :=
  (nodeCfg s k).inUse && (nodeCfg s k).segment == i && (nodeAt s k).state != .disabled

/-- R28: the items of the segment's entries age. -/
def ageItems (i : Nat) (s : State) : State :=
  { s with nodes := tabulate 48 fun k =>
      if agesOn s i k then { nodeAt s k with slots := (nodeAt s k).slots.map ageSlot }
      else nodeAt s k }

/-- R32: one entry of a disabled segment. -/
def loseEntry (s : State) (k : Nat) : State :=
  let x := (nodeAt s k).state
  if x == .disabled || x == .lost then s else changeNode k .lost .disable s

/-- R32: the entries of segment `i` enter LOST, by index ascending where R32 states no order (log entry
51). -/
def loseSegment (i : Nat) (s : State) : State :=
  (allEntries.filter fun k => (nodeCfg s k).inUse && (nodeCfg s k).segment == i).foldl loseEntry s

/-! ## The scan's conditions and the first scan (R14, R15) -/

/-- R14: the entry is offered a POLL by a scan of segment `i`. -/
def isScanned (s : State) (i k : Nat) : Bool :=
  let c := nodeCfg s k
  c.inUse && c.segment == i && c.pollEnable && c.service == .enabled

/-- R15: every entry of the segment's scan has its polled mark. -/
def allPolled (s : State) (i : Nat) : Bool :=
  allEntries.all fun k => !isScanned s i k || nth (segAt s i).polled k

/-- R15: the first-scan test of segment `i`; a segment with no entry to scan completes only at a poll
timer expiry (log entry 26). A segment that becomes COMPLETE reports it to the Sequencer. -/
def firstScanTest (expiry : Bool) (i : Nat) (s : State) : State :=
  if (segAt s i).state != .disabled && (segAt s i).firstScan == .pending && allPolled s i &&
      (expiry || allEntries.any (isScanned s i))
  then modMail (fun m => { m with firstScans := m.firstScans + 1 })
    (modSeg i (fun g => { g with firstScan := .complete }) s)
  else s

/-! ## The NODE request (R31) -/

/-- The service field of entry `k` is set. -/
def setService (k : Nat) (x : Service) (s : State) : State :=
  { s with tables := { s.tables with
      nodes := put s.tables.nodes k { nodeCfg s k with service := x } } }

/-- R18: the queued POLL for entry `k` is withdrawn; the flag says that one was. -/
def withdrawPoll (k : Nat) (s : State) : State × Bool :=
  let i := (nodeCfg s k).segment
  let q := (segAt s i).queue
  (modSeg i (fun g => { g with queue := q.filter (fun e => !isPollFor k e) }) s,
    q.any (isPollFor k))

/-- R31: NODE DISABLE of an entry that is not DISABLED. -/
def disableEntry (k : Nat) (s : State) : State :=
  let (s, departed) := withdrawPoll k (setService k .disabled s)
  afterDeparture departed
    (firstScanTest false (nodeCfg s k).segment (changeNode k .disabled .request s))

/-- R31: NODE ENABLE of a DISABLED entry. -/
def enableEntry (k : Nat) (s : State) : State :=
  firstScanTest false (nodeCfg s k).segment
    (changeNode k .unseen .request (setService k .enabled s))

/-- R31: a NODE request. -/
def nodeRequest (k : Nat) (disable : Bool) (s : State) : Status × State :=
  if 47 < k then (.range, s)
  else if !(nodeCfg s k).inUse then (.noNode, s)
  else if disable then
    (.ok, if (nodeAt s k).state == .disabled then s else disableEntry k s)
  else (.ok, if (nodeAt s k).state == .disabled then enableEntry k s else s)

end Sys2Proof.Machine
end

