-- ==== Sys2Proof/Machine/Relay.lean ====
section
/-! DEFINITION. The relay: the gate, the relay slots, the places kept for responses and the answers (R147,
R151 to R153, R173). -/

namespace Sys2Proof.Machine

/-! ## Responses (R148, R173) -/

/-- R147: a place is kept for the later answer of an accepted relay: a WAITING slot keeps one until its
answer is decided. -/
def keepsPlace : Option RelaySlot → Bool
  | some slot => slot.state == .waiting
  | none => false

/-- R147: the places of the response queue that are kept: for the response of the frame being served,
and for the later answer of each accepted relay. -/
def keptPlaces (s : State) : Nat :=
  s.port.placeKept.toNat + s.port.slots.toList.countP keepsPlace

/-- R147, R148: the response queue has a free place: one that holds no frame and is not kept. -/
def freePlace (s : State) : Bool := decide (s.port.responses.length + keptPlaces s < 8)

/-- R147: the kept places are there: together with the frames queued they are within the queue's 8. -/
def placesHold (s : State) : Bool := decide (s.port.responses.length + keptPlaces s ≤ 8)

/-- R147: the place for the response of the frame taken is kept (`true`), or taken or handed on. -/
def keepPlace (kept : Bool) (s : State) : State := modPort (fun p => { p with placeKept := kept }) s

/-- A response joins the response queue. -/
def pushResponse (r : Response) (s : State) : State :=
  modPort (fun p => { p with responses := p.responses ++ [r] }) s

/-- R173: a RESPONSE frame from `src`: the kind answered, the status and, after OK, the result. -/
def responseFrame (src kind tag : Byte) (status : Status) (result : List Byte) : Frame :=
  ⟨rmcByte, src, 0x20#8, tag,
    kind :: BitVec.ofNat 8 status.ctorIdx :: (if status == .ok then result else [])⟩

/-! ## Slots (R152, R153) -/

/-- The relay slot `n`: none when it is free. -/
def slotAt (s : State) (n : Nat) : Option RelaySlot := nth s.port.slots n

/-- Relay slot `n` is set. -/
def setSlot (n : Nat) (x : Option RelaySlot) (s : State) : State :=
  modPort (fun p => { p with slots := put p.slots n x }) s

/-- R152: the lowest-numbered free slot. -/
def freeSlot (s : State) : Option Nat := (List.range 8).find? fun n => (slotAt s n).isNone

/-- R153: a slot whose answer has joined the response queue is freed, or EXPIRED while its exchange
is pending. -/
def afterAnswer (n : Nat) (slot : RelaySlot) (pending : Bool) (s : State) : State :=
  setSlot n (if pending then some { slot with timer := .stopped, state := .expired } else none) s

/-- R147, R153: the answer of a WAITING slot is decided. It joins the response queue in the place kept
for it; it is held where that place is not there, or an earlier answer waits for one (log entries 12 and
49). -/
def decideAnswer (n : Nat) (slot : RelaySlot) (answer : Frame) (pending : Bool) (s : State) : State :=
  if placesHold s && s.port.answering.isEmpty then
    afterAnswer n slot pending (pushResponse ⟨answer, none⟩ s)
  else
    modPort (fun p => { p with answering := p.answering ++ [n] })
      (setSlot n (some { slot with timer := .stopped, state := .answering answer pending }) s)

/-- R173: a relay answer that carries the node's reply. Its source is the byte the RMC addressed, also
where the entry was re-addressed before the retry (log entry 56). -/
def replyAnswer (slot : RelaySlot) (reply : Frame) : Frame :=
  ⟨rmcByte, slot.dest, reply.kind, slot.tag, reply.payload⟩

/-- R173: a relay answer without a reply. -/
def failedAnswer (slot : RelaySlot) (status : Status) : Frame :=
  responseFrame slot.dest slot.kind slot.tag status []

/-- R153: the exchange of slot `n` ends with the answer it calls for. -/
def relayEnded (n : Nat) (answer : RelaySlot → Frame) (s : State) : State :=
  match slotAt s n with
  | none => s
  | some slot =>
    match slot.state with
    | .waiting => decideAnswer n slot (answer slot) false s
    | .answering held _ => setSlot n (some { slot with state := .answering held false }) s
    | .expired => setSlot n none s

/-! ## Withdrawal and the relay timer (R7, R153) -/

/-- The exchange belongs to relay slot `n`. -/
def ownedBySlot (n : Nat) (e : Exchange) : Bool := e.owner == .relaySlot n

/-- R7: slot `n` withdraws its exchange from whichever queue holds it; the flag says that one did. -/
def withdrawRelay (n : Nat) (s : State) : State × Bool :=
  ({ s with segs := s.segs.map fun g =>
      { g with queue := g.queue.filter (fun e => !ownedBySlot n e) } },
    s.segs.toList.any fun g => g.queue.any (ownedBySlot n))

/-- R153: the relay timer of slot `n` expires. -/
def relayTimedOut (n : Nat) (s : State) : State :=
  match slotAt s n with
  | none => s
  | some slot =>
    match slot.state with
    | .waiting =>
      let (s, withdrawn) := withdrawRelay n s
      afterDeparture withdrawn (decideAnswer n slot (failedAnswer slot .timeout) (!withdrawn) s)
    | .answering _ _ => s
    | .expired => s

/-- R153: the answer of the slot that has waited longest takes a free place. -/
def placeAnswer (s : State) : State :=
  match s.port.answering with
  | [] => s
  | n :: rest =>
    if freePlace s then
      let s := modPort (fun p => { p with answering := rest }) s
      match slotAt s n with
      | none => s
      | some slot =>
        match slot.state with
        | .answering answer pending => afterAnswer n slot pending (pushResponse ⟨answer, none⟩ s)
        | .waiting => s
        | .expired => s
    else s

/-! ## The gate (R151, R152) -/

/-- R151: the in-use entry that holds the segment and address a node address byte names. -/
def relayTarget (s : State) (dest : Byte) : Option Nat :=
  allEntries.find? fun k =>
    let c := nodeCfg s k
    c.inUse && c.segment == byteSegment dest && c.address == byteAddress dest

/-- R152: the relay timeout on segment `i`. -/
def relayTimeout (s : State) (i : Nat) : Nat := 2 * replyWindow s i + 100

/-- R2, R152: the exchange of an accepted relay. -/
def relayExchange (n target : Nat) (k : RelayKind) (tag : Byte) (payload : List Byte) : Exchange :=
  ⟨if relayIsWrite k then .control else .poll, target, .relay (relayKindByte k) tag payload,
    .relaySlot n, false⟩

/-- R152: the slot of an accepted relay. -/
def waitingSlot (s : State) (target : Nat) (k : RelayKind) (tag dest : Byte) : RelaySlot :=
  let timeout := relayTimeout s (nodeCfg s target).segment
  ⟨tag, target, relayIsWrite k, dest, relayKindByte k, timeout, startTimer s timeout, .waiting⟩

/-- R147, R151: rows 4 to 6 of the gate: the relay is accepted into a slot (none), or refused BUSY. The
place kept for the response of an accepted relay is from then on its slot's. -/
def acceptRelay (target : Nat) (k : RelayKind) (tag dest : Byte) (payload : List Byte) (s : State) :
    Option Status × State :=
  match freeSlot s with
  | none => (some .busy, s)
  | some n =>
    let j := joinSegment (nodeCfg s target).segment (relayExchange n target k tag payload) s
    match j.answer with
    | .accepted =>
      (none, afterDeparture j.departed
        (setSlot n (some (waitingSlot s target k tag dest)) (keepPlace false j.state)))
    | .duplicate => (some .busy, j.state)
    | .refused => (some .busy, j.state)

/-- R151: the gate: none when the relay is accepted, else the status it is refused with. -/
def relayGate (f : Frame) (s : State) : Option Status × State :=
  match relayKindOf f.kind with
  | none => (some .malformed, s)
  | some k =>
    if !relayDecodes k f.payload then (some .malformed, s)
    else
      match relayTarget s f.dst with
      | none => (some .noNode, s)
      | some target =>
        if protectedWrite k f.payload then (some .gated, s)
        else acceptRelay target k f.tag f.dst f.payload s

/-- R147, R151: a relay frame taken from the receive buffer is judged by the gate. The place kept is for
its refusal, or, when it is accepted, for its later answer (log entry 49). -/
def takeRelay (f : Frame) (s : State) : State :=
  match relayGate f (keepPlace true s) with
  | (none, s) => s
  | (some status, s) =>
    keepPlace false (pushResponse ⟨responseFrame f.dst f.kind f.tag status [], none⟩ s)

end Sys2Proof.Machine
end

