-- ==== Sys2Proof/Machine/SegEnd.lean ====
section
/-! DEFINITION. The ends of exchanges, the poll timer and the scan, and the enabling and disabling of
a segment (R8 to R18 of spec/01_shelf_segments.md). -/

namespace Sys2Proof.Machine

/-! ## Outcomes (R9 to R12) -/

/-- How an exchange on the wire fails (section 1.4). -/
inductive Failure where
  | readback (index : Byte)
  | noReply
  | badReply
  deriving DecidableEq, Repr, Inhabited

/-- The number of an exchange kind: POLL, FEED_SET, RELAY (R2). -/
def kindNumber : ExKind → Nat
  | .poll => 0
  | .feedSet _ _ => 1
  | .relay _ _ _ => 2

/-- R9: the reply kind is the one expected for the exchange kind. -/
def expectsReply (k : ExKind) (reply : Byte) : Bool :=
  match k with
  | .poll => reply == telemetryByte
  | .feedSet _ _ => reply == feedAckByte
  | .relay _ _ _ => true

/-- R9: the reply that passes every check. -/
def goodReply (c : Current) (bytes : List Byte) : Option Frame :=
  match readFrame bytes with
  | none => none
  | some f =>
    if f.dst == supervisorByte && f.src == c.dest && expectsReply c.ex.kind f.kind then some f
    else none

/-- R11, R12: the status a failed relay is answered with. -/
def failureStatus : Failure → Status
  | .readback _ => .line
  | .noReply => .timeout
  | .badReply => .line

/-- R20: the segment's counters changed. -/
def modCounters (i : Nat) (f : SegCounters → SegCounters) (s : State) : State :=
  modSeg i (fun g => { g with counters := f g.counters }) s

/-- R20: the counter of a failure. -/
def countFailure (x : Failure) (c : SegCounters) : SegCounters :=
  match x with
  | .readback _ => { c with readback := sat16 c.readback }
  | .noReply => { c with noReply := sat16 c.noReply }
  | .badReply => { c with badReply := sat16 c.badReply }

/-- R8: the particulars of SEG_FAULT. -/
def segFaultParticulars (i : Nat) (c : Current) (index : Byte) : List Byte :=
  be1 i ++ be1 (byteAddress c.dest) ++ be1 (kindNumber c.ex.kind) ++ [index]

/-- R15: the polled mark of an entry whose POLL ends, and the first-scan test. -/
def pollEnded (i : Nat) (c : Current) (s : State) : State :=
  let k := c.ex.target
  let s :=
    if c.stale || (nodeAt s k).state == .disabled then s
    else modSeg i (fun g => { g with polled := put g.polled k true }) s
  firstScanTest false i s

/-- R10: the owner is told of a GOOD reply, after the Inspector has taken it. -/
def tellGood (i : Nat) (c : Current) (reply : Frame) (s : State) : State :=
  match c.ex.kind with
  | .poll => pollEnded i c s
  | .feedSet output on =>
    feedSetEnded c.ex.target output on
      (if feedAckAccepts output reply.payload then .accepted else .refused) s
  | .relay _ _ _ =>
    match c.ex.owner with
    | .relaySlot n => relayEnded n (fun slot => replyAnswer slot reply) s
    | .scan => s
    | .zoneController => s

/-- R11, R12: an exchange fails for good. -/
def tellFailed (i : Nat) (c : Current) (x : Failure) (s : State) : State :=
  match c.ex.kind with
  | .poll => pollEnded i c (if c.stale then s else countMiss c.ex.target s)
  | .feedSet output on => feedSetEnded c.ex.target output on .failed s
  | .relay _ _ _ =>
    match c.ex.owner with
    | .relaySlot n => relayEnded n (fun slot => failedAnswer slot (failureStatus x)) s
    | .scan => s
    | .zoneController => s

/-- R11: the queue after a requeue of `e`, or none where the requeue is refused. A FEED_SET meets the
queue by R5's law of one FEED_SET for a pair (log entry 11). -/
def requeue (e : Exchange) (q : List Exchange) : Option (List Exchange) :=
  let e := { e with retryUsed := true }
  let room := if classRoom e.cls q.length then some (joinHead e q) else none
  match e.kind with
  | .feedSet output on =>
    if q.any (isFeedSet e.target output on) then some q
    else if q.any (isFeedSet e.target output !on) then none
    else room
  | .poll => room
  | .relay _ _ _ => room

/-- R11, R12: an exchange that failed is retried once, or fails for good. -/
def handFailure (i : Nat) (c : Current) (x : Failure) (s : State) : State :=
  if c.ex.cls == .poll || c.ex.retryUsed then tellFailed i c x s
  else
    match requeue c.ex (segAt s i).queue with
    | some q =>
      modCounters i (fun n => { n with retries := sat16 n.retries })
        (modSeg i (fun g => { g with queue := q }) s)
    | none => tellFailed i c x s

/-- R9: the exchange is no longer current; the segment stays in EXCHANGE while its outcome is handed
on, so that no other is taken before the arbitration that follows. -/
def clearCurrent (i : Nat) (s : State) : State := modSeg i (fun g => { g with current := none }) s

/-- R6, R9: the segment returns to IDLE and arbitrates; a departure runs the Zone Controller's
arbiter. -/
def returnToIdle (i : Nat) (s : State) : State :=
  match arbitrate i (modSeg i (fun g => { g with state := .idle }) s) with
  | (s, taken) => afterDeparture taken s

/-- R8, R9, R11, R12: the exchange on the wire of segment `i` ends in a failure. SEG_FAULT is raised before
the outcome is handed on, and so before the flags that the handing on raises (DESIGN CHOICE, log entry
71). -/
def endFailed (i : Nat) (c : Current) (x : Failure) (s : State) : State :=
  let s := modCounters i (countFailure x) (clearCurrent i s)
  let s :=
    match x with
    | .readback index => raiseFlag .segFault (segFaultParticulars i c index) s
    | .noReply => s
    | .badReply => s
  returnToIdle i (handFailure i c x s)

/-- R9, R10: the exchange on the wire of segment `i` ends GOOD. -/
def endGood (i : Nat) (c : Current) (reply : Frame) (s : State) : State :=
  let s := modCounters i (fun n => { n with good := sat16 n.good }) (clearCurrent i s)
  let s := inspectReply c.ex.target reply.kind reply.payload (c.ex.kind == .poll) c.stale s
  returnToIdle i (tellGood i c reply s)

/-! ## The events of an exchange (R8, R9) -/

/-- The exchange on the wire of segment `i` is replaced. -/
def setCurrent (i : Nat) (c : Current) (s : State) : State :=
  modSeg i (fun g => { g with current := some c }) s

/-- R8: the last byte of the exchange on the wire has been sent and heard back. -/
def sendCompleted (i : Nat) (s : State) : State :=
  match (segAt s i).current with
  | none => s
  | some c =>
    match c.phase with
    | .sending =>
      setCurrent i { c with phase := .waiting, timer := startTimer s c.window } s
    | .waiting => s
    | .receiving => s

/-- R8: a byte heard back differs. -/
def readbackDiffers (i : Nat) (index : Byte) (s : State) : State :=
  match (segAt s i).current with
  | none => s
  | some c =>
    match c.phase with
    | .sending => endFailed i c (.readback index) s
    | .waiting => s
    | .receiving => s

/-- R9: the first reply byte. -/
def firstByteHeard (i : Nat) (s : State) : State :=
  match (segAt s i).current with
  | none => s
  | some c =>
    match c.phase with
    | .waiting =>
      setCurrent i { c with phase := .receiving, timer := .stopped } s
    | .sending => s
    | .receiving => s

/-- R9: the reply window of the exchange on the wire expires. -/
def windowPassed (i : Nat) (s : State) : State :=
  match (segAt s i).current with
  | none => s
  | some c =>
    match c.phase with
    | .waiting => endFailed i c .noReply s
    | .sending => s
    | .receiving => s

/-- R9: the reply frame is complete and is judged. -/
def replyArrived (i : Nat) (bytes : List Byte) (s : State) : State :=
  match (segAt s i).current with
  | none => s
  | some c =>
    match c.phase with
    | .receiving =>
      match goodReply c bytes with
      | some reply => endGood i c reply s
      | none => endFailed i c .badReply s
    | .sending => s
    | .waiting => s

/-- R9: the line falls silent before the reply is complete. -/
def replyBroken (i : Nat) (s : State) : State :=
  match (segAt s i).current with
  | none => s
  | some c =>
    match c.phase with
    | .receiving => endFailed i c .badReply s
    | .sending => s
    | .waiting => s

/-! ## The poll timer and the scan (R13, R14) -/

/-- A scan under way: the POLLs refused for room, and whether one left the queue. -/
structure Scan where
  refused : Nat
  departed : Bool
  state : State

/-- R14: one POLL is offered. -/
def offerPoll (i : Nat) (x : Scan) (k : Nat) : Scan :=
  let j := joinSegment i (pollExchange k) x.state
  match j.answer with
  | .accepted => ⟨x.refused, x.departed || j.departed, j.state⟩
  | .duplicate => ⟨x.refused, x.departed || j.departed, j.state⟩
  | .refused => ⟨x.refused + 1, x.departed || j.departed, j.state⟩

/-- R14: a scan of segment `i`; the flag says that an exchange left the queue. -/
def runScan (i : Nat) (s : State) : State × Bool :=
  let x := (allEntries.filter (isScanned s i)).foldl (offerPoll i) ⟨0, false, s⟩
  if x.refused = 0 then (x.state, x.departed)
  else
    (raiseFlag .scanOverrun (be1 i ++ be1 x.refused)
      (modCounters i (fun n => { n with refusedPolls := min 65535 (n.refusedPolls + x.refused) })
        x.state), x.departed)

/-- R68: one owed disable is queued again. -/
def requeueOwed (x : State × Bool) (z : Nat) : State × Bool :=
  match queueDisable z x.1 with
  | (s, departed) => (s, x.2 || departed)

/-- R13, R68: the owed disables of segment `i` are queued, in the order of `owedOn` (log entry 57). -/
def runOwed (i : Nat) (s : State) : State × Bool := (owedOn s i).foldl requeueOwed (s, false)

/-- R13: the scan and the owed disables, in either order (log entry 3). -/
def scanAndOwed (i : Nat) (s : State) : State × Bool :=
  if (owedOn s i).isEmpty then runScan i s
  else if Config.disablesFirst s.free then
    match runOwed i (useFree s) with
    | (s, a) => match runScan i s with
      | (s, b) => (s, a || b)
  else
    match runScan i (useFree s) with
    | (s, a) => match runOwed i s with
      | (s, b) => (s, a || b)

/-- R13: the poll timer of segment `i` expires and reloads. The Zone Controller's run for what leaves the
queue comes once, at the end, where R13 states no order (log entry 50). -/
def pollExpired (i : Nat) (s : State) : State :=
  let s := modSeg i (fun g => { g with pollTimer := startTimer s (pollPeriod s i) }) s
  match scanAndOwed i (ageItems i s) with
  | (s, departed) => afterDeparture departed (firstScanTest true i s)

/-! ## Removal, disabling, enabling (R16 to R18) -/

/-- R16, R18: the owner of a removed exchange is told it failed (CANCELLED). -/
def tellCancelled (s : State) (e : Exchange) : State :=
  match e.kind with
  | .poll => s
  | .feedSet output on => feedSetEnded e.target output on .cancelled s
  | .relay _ _ _ =>
    match e.owner with
    | .relaySlot n => relayEnded n (fun slot => failedAnswer slot .line) s
    | .scan => s
    | .zoneController => s

/-- R16: segment `i` is disabled: its state first, so that what its owners do finds it DISABLED, then
its owners, then the Frame Inspector, then the Zone Controller's arbiter. -/
def disableSegment (i : Nat) (s : State) : State :=
  let g := segAt s i
  let cancelled := g.current.toList.map (fun c => c.ex) ++ g.queue
  let s := modSeg i (fun g => { g with
    state := .disabled, queue := [], current := none, pollTimer := .stopped }) s
  afterDeparture (!g.queue.isEmpty) (loseSegment i (cancelled.foldl tellCancelled s))

/-- R17: segment `i` is enabled. -/
def enableSegment (i : Nat) (s : State) : State :=
  modSeg i (fun g => { g with
    state := .idle, queue := [], pollTimer := startTimer s (pollPeriod s i) }) s

/-- R1, R16, R17: the enable setting of segment `i` is written. -/
def segmentEnableWritten (i : Nat) (s : State) : State :=
  if segEnabled s i then
    if (segAt s i).state == .disabled then enableSegment i s else s
  else if (segAt s i).state == .disabled then s else disableSegment i s

/-- The exchange on the wire of a segment, when it is for entry `k`, is marked stale (R22). -/
def markStale (k : Nat) (c : Current) : Current :=
  if c.ex.target == k then { c with stale := true } else c

/-- R18: segment `i` removes the queued exchanges of entry `k`. -/
def removeExchanges (i k : Nat) (s : State) : State :=
  modSeg i (fun g => { g with queue := g.queue.filter (fun e => e.target != k) }) s

/-- The queued exchanges of entry `k` on segment `i`. -/
def queuedFor (s : State) (i k : Nat) : List Exchange :=
  (segAt s i).queue.filter (fun e => e.target == k)

end Sys2Proof.Machine
end

