-- ==== Sys2Proof/Machine/Lines.lean ====
section
/-! DEFINITION. The Line Conditioner (spec/10_signal_lines.md): sampling, the filter, deliveries to
the owners, and the writes of the Line Table. -/

namespace Sys2Proof.Machine

/-- The configured record of line `i`. -/
def lineCfg (s : State) (i : Nat) : LineCfg := nth s.tables.lines i

/-- What the Line Conditioner holds for line `i`. -/
def lineAt (s : State) (i : Nat) : LineRun := nth s.lines i

/-- What is held for line `i` is replaced. -/
def setLine (i : Nat) (r : LineRun) (s : State) : State := { s with lines := put s.lines i r }

/-- The EPO line record (section 10.1). -/
def epoLineRecord : Nat := 2

/-! ## Deliveries (R171) -/

/-- R171: a delivery of an accepted level: the line, whether the level is the first accepted since the
last reset or since the line was enabled, and whether it is active. -/
structure LevelNews where
  line : Nat
  first : Bool
  active : Bool
  deriving DecidableEq, Repr

/-- R171: the delivery of `level`, read against the active level as held now. -/
def levelNews (i : Nat) (first : Bool) (level : Level) (s : State) : LevelNews :=
  ⟨i, first, level == (lineCfg s i).active⟩

/-- R171: the owner of the line takes the delivery: the Ride-Through Unit, the Zone Controller or the
Leak Monitor. No owner's rule tells a first level from a later one. -/
def takeLevelNews (news : LevelNews) (s : State) : State :=
  if news.line < 2 then evaluateIndication s
  else if news.line = epoLineRecord then takeEpoLevel news.active s
  else takeLeakLevel (news.line - 3) news.active s

/-- R171: an accepted level is delivered to the owner of line `i`. -/
def deliverLevel (i : Nat) (first : Bool) (level : Level) (s : State) : State :=
  takeLevelNews (levelNews i first level s) s

/-- R171: a change of enable is delivered to the owner of line `i`. The EPO line's enable never
changes (R169). -/
def deliverEnable (i : Nat) (on : Bool) (s : State) : State :=
  if i < 2 then evaluateIndication s
  else if i = epoLineRecord then s
  else takeLeakEnable (i - 3) on s

/-! ## Samples (R169, R170) -/

/-- R169: the level a sample of line `i` reads; under bias NONE an unconnected line floats (log
entry 4). -/
def sampledLevel (i : Nat) (drive : PinDrive) (s : State) : Level × State :=
  match drive with
  | .driven level => (level, s)
  | .unconnected =>
    match (lineCfg s i).bias with
    | .pullUp => (.high, s)
    | .pullDown => (.low, s)
    | .none => (if Config.floatsHigh s.free then .high else .low, useFree s)

/-- R170: the candidate after a sample that differs from the accepted level: the one held, or one
that begins now. -/
def candidateAt (s : State) (i : Nat) (level : Level) : Candidate :=
  match (lineAt s i).candidate with
  | some c => if c.level == level then c else ⟨level, s.now⟩
  | none => ⟨level, s.now⟩

/-- R170: a level is accepted and delivered; it is a first one where none was accepted before. -/
def acceptLevel (i : Nat) (level : Level) (s : State) : State :=
  deliverLevel i (lineAt s i).accepted.isNone level
    (setLine i { lineAt s i with accepted := some level, candidate := none } s)

/-- R170: a sample of line `i` is judged. -/
def judgeSample (i : Nat) (level : Level) (s : State) : State :=
  let r := lineAt s i
  if r.accepted == some level then setLine i { r with candidate := none } s
  else
    let c := candidateAt s i level
    if (lineCfg s i).filter ≤ s.now - c.since then acceptLevel i level s
    else setLine i { r with candidate := some c } s

/-- R170: the sample timer of line `i` expires: the pin is sampled and the timer starts again. -/
def sampleLine (i : Nat) (drive : PinDrive) (s : State) : State :=
  match sampledLevel i drive s with
  | (level, s) =>
    judgeSample i level
      (setLine i { lineAt s i with timer := startTimer s (lineCfg s i).interval } s)

/-! ## Table writes (R169) -/

/-- R169: the corrections of a line record; the EPO record's enable stays on and its filter time is
10 ms or more. -/
def clampLine (i : Nat) (c : LineCfg) : LineCfg :=
  let filter := min 1000 c.filter
  { c with
    enable := c.enable || i == epoLineRecord
    filter := if i = epoLineRecord then max 10 filter else filter
    interval := max 1 (min 100 c.interval) }

/-- R169: a LINE write takes effect field by field. The accepted level that it delivers again is
delivered as no first one (log entry 48). A write that turns the line off clears it and delivers no
level, whatever its active level becomes (log entry 60). -/
def writeLine (i : Nat) (contents : LineCfg) (s : State) : State :=
  let was := (lineCfg s i).enable
  let new := clampLine i contents
  let s := { s with tables := { s.tables with lines := put s.tables.lines i new } }
  if was && new.enable then
    match (lineAt s i).accepted with
    | none => s
    | some level => deliverLevel i false level s
  else if was then deliverEnable i false (setLine i ⟨none, none, .stopped⟩ s)
  else if new.enable then
    deliverEnable i true (setLine i ⟨none, none, startTimer s new.interval⟩ s)
  else s

end Sys2Proof.Machine
end

