-- ==== Sys2Proof/Machine/Sequencer.lean ====
section
/-! DEFINITION. The Sequencer (spec/05_power_up_sequencer.md): starting and ending steps, holding,
failing, and the news it takes. -/

namespace Sys2Proof.Machine

/-- The last step of a descriptor. -/
def lastStep (d : Descriptor) : Nat := d.start + d.count - 1

/-- The descriptor held, or an empty one. -/
def descOf (s : State) : Descriptor := s.seq.desc.getD ⟨0, 0⟩

/-- The step the pointer stands at, as the Sequence Table holds it. -/
def currentStep (s : State) : StepCfg := nth s.tables.steps s.seq.pointer

/-- R97, R107: the cause of a skip, numbered from 0 in this order. -/
inductive SkipCause where
  | range
  | refused
  | notInUse
  | isolated
  | lockout
  deriving DecidableEq, Repr, Inhabited

/-- R107: the particulars of SEQ_END on entry into DONE, an outcome numbered 0 (log entry 67). -/
def doneParticulars (s : State) : List Byte :=
  be1 0 ++ be1 (descOf s).start ++ be1 (descOf s).count ++ be1 s.seq.pointer ++ be1 s.seq.skips

/-- R107: the particulars of SEQ_END on entry into FAILED, an outcome numbered 1 (log entry 67). -/
def failedParticulars (reason : FailReason) (s : State) : List Byte :=
  be1 1 ++ be1 (descOf s).start ++ be1 (descOf s).count ++ be1 s.seq.pointer ++
    be1 reason.ctorIdx ++ be1 s.seq.skips

/-- R95: the current step is abandoned or ended: its timer stops and its phase becomes NONE. -/
def abandonStep (s : State) : State :=
  modSeq (fun q => { q with timer := .stopped, phase := .none }) s

/-- R95: the current step fails. -/
def failStep (reason : FailReason) (s : State) : State :=
  let s := modSeq (fun q => { q with state := .failed, fail := some ⟨q.pointer, reason⟩ }) (abandonStep s)
  raiseFlag .seqEnd (failedParticulars reason s) s

/-- R95: the current step is skipped. SEQ_SKIP gives the operand in two bytes (log entry 68). -/
def skipStep (cause : SkipCause) (s : State) : State :=
  let step := currentStep s
  let pointer := s.seq.pointer
  let s := modSeq (fun q => { q with skips := q.skips + 1 }) s
  raiseFlag .seqSkip (be1 pointer ++ be1 step.kind.ctorIdx ++ be2 step.operand ++ be1 cause.ctorIdx) s

/-- R95: a wait step whose condition is not met enters WAITING, with its timeout if above 0. -/
def startWait (timeout : Nat) (s : State) : State :=
  modSeq (fun q => { q with
    phase := .waiting
    timer := if timeout = 0 then .stopped else startTimer s timeout }) s

/-- R95 to R101: the step at the pointer starts as a new instance; the flag says that it has
completed or been skipped at once. -/
def beginStep (s : State) : State × Bool :=
  let step := currentStep s
  let s := modSeq (fun q => { q with stepInst := q.stepInst + 1 }) (abandonStep s)
  match step.kind with
  | .zoneOn =>
    if 31 < step.operand then (skipStep .range s, true)
    else
      (modSeq (fun q => { q with phase := .asking })
        (modMail (fun m => { m with seqAsk := m.seqAsk ++ [⟨s.seq.stepInst, step.operand⟩] }) s), false)
  | .waitOn =>
    if 31 < step.operand then (skipStep .range s, true)
    else if !(zoneCfg s step.operand).inUse then (skipStep .notInUse s, true)
    else
      match (zoneAt s step.operand).state with
      | .on => (s, true)
      | .isolated => (skipStep .isolated s, true)
      | .lockout => (skipStep .lockout s, true)
      | .off => (startWait step.timeout s, false)
      | .queued => (startWait step.timeout s, false)
      | .inrush => (startWait step.timeout s, false)
      | .shed => (startWait step.timeout s, false)
  | .delay =>
    if step.operand = 0 then (s, true)
    else (startWait step.operand s, false)
  | .waitHeadroom =>
    if step.operand ≤ headroom s.cap.available s.cap.committed then (s, true)
    else (startWait step.timeout s, false)
  | .waitCharge =>
    if step.operand ≤ s.ride.energy then (s, true) else (startWait step.timeout s, false)
  | .mark => (raiseFlag .seqMark (be1 step.operand ++ be1 s.seq.pointer) s, true)

/-- R95: going on after a step that has ended: DONE after the last one, else the pointer advances;
the flag says that the next step starts. -/
def goOn (s : State) : State × Bool :=
  let s := abandonStep s
  if s.seq.pointer = lastStep (descOf s) then
    let s := modSeq (fun q => { q with state := .done }) s
    (raiseFlag .seqEnd (doneParticulars s) s, false)
  else (modSeq (fun q => { q with pointer := q.pointer + 1 }) s, true)

/-- R95: start the step at the pointer and chain on through the steps that end at once, at most
`fuel` of them. -/
def runSteps : Nat → State → State
  | 0, s => s
  | fuel + 1, s =>
    match beginStep s with
    | (s, false) => s
    | (s, true) =>
      match goOn s with
      | (s, false) => s
      | (s, true) => runSteps fuel s

/-- A program has at most 64 steps (R94), so a chain ends within 64 starts. -/
def startStep (s : State) : State := runSteps 64 s

/-- R95: the current step has completed, or been skipped, while it waited. -/
def endStep (s : State) : State :=
  match goOn s with
  | (s, false) => s
  | (s, true) => startStep s

/-- R102, R106: a program is accepted: the descriptor, the skip count, the fail record and the
pointer; it runs, or is held while the ride-through copy is not NORMAL. -/
def acceptProgram (d : Descriptor) (s : State) : State :=
  let s := modSeq (fun q => { q with
    desc := some d, skips := 0, fail := none, pointer := d.start
    state := if q.rideNormal then .running else .held }) (abandonStep s)
  if s.seq.rideNormal then startStep s else s

/-- R102: an accepted SEQ_RUN cancels an armed autostart. -/
def cancelAutostart (s : State) : State :=
  modSeq (fun q => { q with autostart := if q.autostart == .armed then .cancelled else q.autostart }) s

/-- R102: a replacement in RUNNING or HELD; the fail record is empty then and stays so. -/
def replaceProgram (d : Descriptor) (s : State) : State :=
  let s := modSeq (fun q => { q with desc := some d, skips := 0, pointer := d.start }) (abandonStep s)
  if s.seq.state == .running then startStep s else s

/-- R102: a SEQ_RUN request. -/
def seqRunRequest (start count : Nat) (s : State) : Status × State :=
  if 63 < start ∨ count = 0 ∨ 64 < count ∨ 64 < start + count then (.range, s)
  else if s.zc.epoLatch then (.epo, s)
  else
    let s := cancelAutostart s
    match s.seq.state with
    | .running => (.ok, replaceProgram ⟨start, count⟩ s)
    | .held => (.ok, replaceProgram ⟨start, count⟩ s)
    | .idle => (.ok, acceptProgram ⟨start, count⟩ s)
    | .done => (.ok, acceptProgram ⟨start, count⟩ s)
    | .failed => (.ok, acceptProgram ⟨start, count⟩ s)

/-- R103: a SEQ_STOP request, always answered OK. -/
def seqStopRequest (s : State) : State :=
  match s.seq.state with
  | .running =>
    modSeq (fun q => { q with state := .idle, fail := some ⟨q.pointer, .stopped⟩ }) (abandonStep s)
  | .held =>
    modSeq (fun q => { q with state := .idle, fail := some ⟨q.pointer, .stopped⟩ }) (abandonStep s)
  | .idle => cancelAutostart s
  | .done => s
  | .failed => s

/-- R95, R98: the step timer expires: a DELAY completes, a wait step fails. -/
def stepTimedOut (s : State) : State :=
  if s.seq.state == .running && s.seq.phase == .waiting then
    if (currentStep s).kind == .delay then endStep s else failStep .timeout s
  else s

/-- R96: the Zone Controller's answer, discarded unless it belongs to the current instance. -/
def takeAnswer (a : SeqAnswer) (s : State) : State :=
  if s.seq.state == .running && s.seq.phase == .asking && s.seq.stepInst == a.stepInst then
    match a.answer with
    | .queued => endStep s
    | .present => endStep s
    | .refused => endStep (skipStep .refused s)
    | .refusedEpo => failStep .epo s
  else s

/-- A WAITING step of the kind is current. -/
def waitsFor (k : StepKind) (s : State) : Bool :=
  s.seq.state == .running && s.seq.phase == .waiting && (currentStep s).kind == k

/-- R97: a zone state delivery. -/
def takeZoneNews (news : ZoneNews) (s : State) : State :=
  if waitsFor .waitOn s && (currentStep s).operand == news.zone then
    match news.new with
    | .on => endStep s
    | .isolated => endStep (skipStep .isolated s)
    | .lockout => endStep (skipStep .lockout s)
    | .off => s
    | .queued => s
    | .inrush => s
    | .shed => s
  else s

/-- R99: a delivery from the Capacity Unit. -/
def seqTakeCapNews (news : CapNews) (s : State) : State :=
  if waitsFor .waitHeadroom s && decide ((currentStep s).operand ≤ headroom news.available news.committed)
  then endStep s else s

/-- R100: a delivery of a changed energy figure. -/
def seqTakeEnergy (energy : Nat) (s : State) : State :=
  if waitsFor .waitCharge s && decide ((currentStep s).operand ≤ energy) then endStep s else s

/-- R104: the Ride-Through Unit has left NORMAL (`false`) or returned to it (`true`). -/
def seqTakeRide (normal : Bool) (s : State) : State :=
  let s := modSeq (fun q => { q with rideNormal := normal }) s
  if normal then
    if s.seq.state == .held then startStep (modSeq (fun q => { q with state := .running }) s) else s
  else if s.seq.state == .running then modSeq (fun q => { q with state := .held }) (abandonStep s)
  else s

/-- R105: the notice of the EPO latch. -/
def seqTakeEpo (s : State) : State :=
  match s.seq.state with
  | .running => failStep .epo s
  | .held => failStep .epo s
  | .idle => s
  | .done => s
  | .failed => s

/-- R106: the first scan of every enabled segment is COMPLETE. -/
def firstScansComplete (s : State) : Bool :=
  (List.range 4).all fun i => !segEnabled s i || (segAt s i).firstScan == .complete

/-- R106: the test of the start condition, and the start. Under the EPO latch the program fails as
accepted: its descriptor and its first step are the record's (log entry 46). -/
def tryAutostart (s : State) : State :=
  if s.seq.autostart == .armed && s.seq.state == .idle && firstScansComplete s then
    let d := autostartDesc s
    let s := modSeq (fun q => { q with autostart := .started }) s
    if s.zc.epoLatch then
      failStep .epo
        (modSeq (fun q => { q with desc := some d, skips := 0, pointer := d.start }) s)
    else acceptProgram d s
  else s

end Sys2Proof.Machine
end

