-- ==== Sys2Proof/Machine/Tables.lean ====
section
/-! DEFINITION. The tables (spec/09_tables_settings_and_the_stored_image.md): entry encodings
(section 11.6), per-entry write conditions and effects (section 9.2), settings (R164), the open load
(R161 to R163) and the reading back (R165). -/

namespace Sys2Proof.Machine

/-! ## Encodings (section 11.6) -/

/-- A yes or no field: 0 for no, any other value for yes. -/
def yes (b : Byte) : Bool := b != 0#8

/-- The number of a four-byte field. -/
def num4 (a b c d : Byte) : Nat := 65536 * num2 a b + num2 c d

/-- The choice of a NODE kind byte; none beyond the last. -/
def nodeKindOf (b : Byte) : Option NodeKind :=
  match b.toNat with
  | 0 => some .rectifier
  | 1 => some .battery
  | 2 => some .feed
  | 3 => some .leak
  | _ => none

/-- The choice of a report mode byte; none beyond the last. -/
def reportModeOf (b : Byte) : Option ReportMode :=
  match b.toNat with
  | 0 => some .off
  | 1 => some .change
  | 2 => some .every
  | _ => none

/-- The choice of a service byte; none beyond the last. -/
def serviceOf (b : Byte) : Option Service :=
  match b.toNat with
  | 0 => some .enabled
  | 1 => some .disabled
  | _ => none

/-- The choice of a step kind byte; none beyond the last. -/
def stepKindOf (b : Byte) : Option StepKind :=
  match b.toNat with
  | 0 => some .zoneOn
  | 1 => some .waitOn
  | 2 => some .delay
  | 3 => some .waitHeadroom
  | 4 => some .waitCharge
  | 5 => some .mark
  | _ => none

/-- R33: an action byte beyond DEGRADE is held as DEGRADE. -/
def limitActionOf (b : Byte) : LimitAction := if b.toNat = 0 then .note else .degrade

/-- R169: a bias byte beyond the last is held as the last. -/
def biasOf (b : Byte) : Bias :=
  match b.toNat with
  | 0 => .none
  | 1 => .pullUp
  | _ => .pullDown

/-- R169: an active level byte beyond the last is held as the last. -/
def levelOf (b : Byte) : Level := if b.toNat = 0 then .low else .high

/-- A NODE entry; none when a choice is not defined (R22). -/
def decodeNode (bytes : List Byte) : Option NodeCfg :=
  match bytes with
  | [u, seg, addr, k, r1, r0, p, m, v] =>
    match nodeKindOf k, reportModeOf m, serviceOf v with
    | some kind, some mode, some service =>
      some ⟨yes u, seg.toNat, addr.toNat, kind, num2 r1 r0, yes p, mode, service⟩
    | _, _, _ => none
  | _ => none

/-- A NODE entry's bytes. -/
def encodeNode (c : NodeCfg) : List Byte :=
  beBool c.inUse ++ be1 c.segment ++ be1 c.address ++ be1 c.kind.ctorIdx ++ be2 c.rated ++
    beBool c.pollEnable ++ be1 c.reportMode.ctorIdx ++ be1 c.service.ctorIdx

/-- A LIMIT entry. -/
def decodeLimit (bytes : List Byte) : Option LimitCfg :=
  match bytes with
  | [e, l1, l0, h1, h0, y1, y0, n, a, d1, d0] =>
    some ⟨yes e, num2 l1 l0, num2 h1 h0, num2 y1 y0, n.toNat, limitActionOf a, num2 d1 d0⟩
  | _ => none

/-- A LIMIT entry's bytes. -/
def encodeLimit (c : LimitCfg) : List Byte :=
  beBool c.enabled ++ be2 c.low ++ be2 c.high ++ be2 c.hysteresis ++ be1 c.confirm ++
    be1 c.action.ctorIdx ++ be2 c.deadband

/-- A ZONE entry. -/
def decodeZone (bytes : List Byte) : Option ZoneCfg :=
  match bytes with
  | [u, f, o, t, i1, i0, s1, s0, w1, w0, l] =>
    some ⟨yes u, f.toNat, o.toNat, t.toNat, num2 i1 i0, num2 s1 s0, num2 w1 w0, l.toNat⟩
  | _ => none

/-- A ZONE entry's bytes. -/
def encodeZone (c : ZoneCfg) : List Byte :=
  beBool c.inUse ++ be1 c.feedEntry ++ be1 c.output ++ be1 c.tier ++ be2 c.inrush ++ be2 c.steady ++
    be2 c.window ++ be1 c.lockout

/-- A LEAK_CHANNEL entry. -/
def decodeChannel (bytes : List Byte) : Option ChannelCfg :=
  match bytes with
  | [u, e, p, g, w, c1, c0, n] =>
    some ⟨yes u, e.toNat, p.toNat, g.toNat, yes w, num2 c1 c0, n.toNat⟩
  | _ => none

/-- A LEAK_CHANNEL entry's bytes. -/
def encodeChannel (c : ChannelCfg) : List Byte :=
  beBool c.inUse ++ be1 c.source ++ be1 c.sense ++ be1 c.group ++ beBool c.faultAsWet ++
    be2 c.confirm ++ be1 c.chatter

/-- A LEAK_MAP entry. -/
def decodeLeakMap (bytes : List Byte) : Option LeakMapCfg :=
  match bytes with
  | [v, a, b, c, d] => some ⟨v.toNat, a ++ b ++ c ++ d⟩
  | _ => none

/-- A LEAK_MAP entry's bytes. -/
def encodeLeakMap (c : LeakMapCfg) : List Byte := be1 c.vote ++ beSet c.zoneSet

/-- A SEQUENCE entry; none when its kind is not defined (R93). -/
def decodeStep (bytes : List Byte) : Option StepCfg :=
  match bytes with
  | [k, o1, o0, t1, t0] => (stepKindOf k).map fun kind => ⟨kind, num2 o1 o0, num2 t1 t0⟩
  | _ => none

/-- A SEQUENCE entry's bytes. -/
def encodeStep (c : StepCfg) : List Byte := be1 c.kind.ctorIdx ++ be2 c.operand ++ be2 c.timeout

/-- A LINE entry. -/
def decodeLine (bytes : List Byte) : Option LineCfg :=
  match bytes with
  | [e, b, a, f1, f0, i] => some ⟨yes e, biasOf b, levelOf a, num2 f1 f0, i.toNat⟩
  | _ => none

/-- A LINE entry's bytes. -/
def encodeLine (c : LineCfg) : List Byte :=
  beBool c.enable ++ be1 c.bias.ctorIdx ++ be1 c.active.ctorIdx ++ be2 c.filter ++ be1 c.interval

/-- A SETTINGS entry. -/
def decodeSetting (bytes : List Byte) : Option Nat :=
  match bytes with
  | [a, b, c, d] => some (num4 a b c d)
  | _ => none

/-- The bytes of one entry (section 11.6). -/
def entryBytes (t : Tables) (table : TableId) (k : Nat) : List Byte :=
  match table with
  | .node => encodeNode (nth t.nodes k)
  | .limit => encodeLimit (nth t.limits k)
  | .zone => encodeZone (nth t.zones k)
  | .leakChannel => encodeChannel (nth t.channels k)
  | .leakMap => encodeLeakMap (nth t.leakMap k)
  | .sequence => encodeStep (nth t.steps k)
  | .line => encodeLine (nth t.lines k)
  | .settings => be4 (nth t.settings k)

/-- The number of entries of a table (chapter 9). -/
def tableSize : TableId → Nat
  | .node => 48
  | .limit => 24
  | .zone => 32
  | .leakChannel => 32
  | .leakMap => 8
  | .sequence => 64
  | .line => 11
  | .settings => 41

/-- The size of an entry of a table (section 11.6). -/
def entrySize : TableId → Nat
  | .node => 9
  | .limit => 11
  | .zone => 11
  | .leakChannel => 8
  | .leakMap => 5
  | .sequence => 5
  | .line => 6
  | .settings => 4

/-- The bytes of entries `start`, `start + 1`, … of a table, `count` of them. -/
def rangeBytes (t : Tables) (table : TableId) (start count : Nat) : List Byte :=
  (List.range count).flatMap fun k => entryBytes t table (start + k)

/-- The eight tables in the order of section 11.1. -/
def allTables : List TableId :=
  [.node, .limit, .zone, .leakChannel, .leakMap, .sequence, .line, .settings]

/-- The CRC of an image (section 11.1). -/
def imageCrc (t : Tables) : BitVec 16 :=
  crc16 (allTables.flatMap fun table => rangeBytes t table 0 (tableSize table))

/-! ## NODE writes (R22) -/

/-- R22: another in-use entry holds the segment and address. -/
def nodeDuplicate (s : State) (k : Nat) (c : NodeCfg) : Bool :=
  allEntries.any fun j =>
    let o := nodeCfg s j
    j != k && o.inUse && o.segment == c.segment && o.address == c.address

/-- R22: the exchange is a FEED_SET disable for entry `k`. -/
def isDisableFor (k : Nat) (e : Exchange) : Bool :=
  e.target == k &&
    match e.kind with
    | .feedSet _ on => !on
    | .poll => false
    | .relay _ _ _ => false

/-- R22: a FEED_SET disable for entry `k` stands in a queue or on the wire. -/
def disableStands (s : State) (k : Nat) : Bool :=
  s.segs.toList.any fun g =>
    g.queue.any (isDisableFor k) || g.current.toList.any (fun c => isDisableFor k c.ex)

/-- R22: an in-use zone on entry `k` has a disable owed. -/
def disableOwed (s : State) (k : Nat) : Bool :=
  allZones.any fun z =>
    (zoneCfg s z).inUse && (zoneCfg s z).feedEntry == k && (zoneAt s z).disablePending

/-- R22: the contents may be written to entry `k`. -/
def nodeWritable (s : State) (k : Nat) (c : NodeCfg) : Bool :=
  (!(nodeCfg s k).inUse || (nodeAt s k).state == .disabled) &&
    (!c.inUse || (!nodeDuplicate s k c && decide (c.segment ≤ 3) && decide (1 ≤ c.address) &&
      decide (c.address ≤ 30))) &&
    !disableStands s k && !disableOwed s k

/-- R22: the state of an entry after a write. -/
def writtenState (c : NodeCfg) : NodeState := if c.service == .disabled then .disabled else .unseen

/-- R22 step 2: the runtime record after a write. -/
def writtenRun (c : NodeCfg) : NodeRun :=
  if c.inUse then enterNodeState (writtenState c) NodeRun.fresh else NodeRun.fresh

/-- R18, R22 step 3: the exchanges of entry `k` on the wire are marked stale, and its polled mark is
cleared on every segment. -/
def markEntryWritten (k : Nat) (s : State) : State :=
  { s with segs := s.segs.map fun g =>
      { g with current := g.current.map (markStale k), polled := put g.polled k false } }

/-- R22 step 4: the consumers of the old kind and of the new kind are told. -/
def tellWritten (k : Nat) (old new : NodeCfg) (s : State) : State :=
  let leaves := old.inUse && !(new.inUse && new.kind == old.kind)
  let s := if leaves then tellConsumers k old.kind none s else s
  if new.inUse then tellConsumers k new.kind (some (writtenState new)) s else s

/-- R22: a NODE write is taken. An entry that was not in use names no segment before the write, so R18
removes nothing for it, not even a retry requeued since it left use (log entry 38). -/
def takeNodeWrite (k : Nat) (c : NodeCfg) (s : State) : State :=
  let old := nodeCfg s k
  let was := nodeState? s k
  let cancelled := if old.inUse then queuedFor s old.segment k else []
  let s := { s with
    tables := { s.tables with nodes := put s.tables.nodes k c }
    nodes := put s.nodes k (writtenRun c) }
  let s := if old.inUse then removeExchanges old.segment k s else s
  let s := cancelled.foldl tellCancelled (markEntryWritten k s)
  let s := tellWritten k old c s
  let new := nodeState? s k
  let s := if new == was then s else raiseNodeChange k was new .write s
  let s := if old.inUse then firstScanTest false old.segment s else s
  let s := if c.inUse then firstScanTest false c.segment s else s
  afterDeparture (!cancelled.isEmpty) s

/-! ## ZONE and SEQUENCE writes (R60, R93) -/

/-- R60: the contents may be written to zone `z`. -/
def zoneWritable (s : State) (z : Nat) (c : ZoneCfg) : Bool :=
  zoneIs s .off z && !(zoneAt s z).disablePending &&
    (!c.inUse || (decide (c.feedEntry ≤ 47) && decide (c.output ≤ 3) && decide (c.tier ≤ 3) &&
      allZones.all fun y =>
        let o := zoneCfg s y
        y == z || !o.inUse || o.feedEntry != c.feedEntry || o.output != c.output))

/-- R59: the corrections of a zone's contents. -/
def clampZone (c : ZoneCfg) : ZoneCfg :=
  { c with window := max 50 (min 10000 c.window), lockout := max 1 (min 7 c.lockout) }

/-- R60: a ZONE write is taken. -/
def takeZoneWrite (z : Nat) (c : ZoneCfg) (s : State) : State :=
  modZone z (fun r => { r with attempts := 0, adoptPending := c.inUse })
    { s with tables := { s.tables with zones := put s.tables.zones z (clampZone c) } }

/-- R93: step `k` is within the descriptor while the Sequencer is RUNNING or HELD. -/
def stepHeld (s : State) (k : Nat) : Bool :=
  (s.seq.state == .running || s.seq.state == .held) &&
    decide ((descOf s).start ≤ k) && decide (k < (descOf s).start + (descOf s).count)

/-- R93: the correction of a step's contents. -/
def clampStep (c : StepCfg) : StepCfg :=
  if c.kind == .mark then { c with operand := min 255 c.operand } else c

/-! ## SETTINGS writes (R164) -/

/-- R164: the range of setting `k`; a choice runs from 0 to its last choice. -/
def settingRange (k : Nat) : Nat × Nat :=
  if k < 12 then
    match k % 3 with
    | 0 => (0, 1)
    | 1 => (1, 50)
    | _ => (50, 5000)
  else
    match k with
    | 12 => (1, 15)
    | 13 => (0, 3)
    | 14 => (0, 60000)
    | 15 => (1, 4)
    | 16 => (0, 60000)
    | 17 => (0, 65535)
    | 18 => (0, 1)
    | 19 => (0, 63)
    | 20 => (1, 64)
    | 21 => (1, 48)
    | 22 => (0, 5000)
    | 23 => (0, 6000)
    | 24 => (100, 5000)
    | 25 => (1, 65535)
    | 26 => (2, 8)
    | 27 => (0, 255)
    | 28 => (128, 256)
    | 29 => (1, 65535)
    | 30 => (1, 600)
    | 31 => (1000, 60000)
    | 33 => (0, 3)
    | 35 => (0, 30000)
    | 36 => (100, 60000)
    | 37 => (1, 15)
    | 38 => (0, 1)
    | 39 => (1, 3)
    | _ => (1000, 60000)

/-- R164: a value as setting `k` holds it. The flag sets drop the numbers above 23. -/
def fitSetting (k v : Nat) : Nat :=
  if k = 32 ∨ k = 34 then v % 16777216
  else max (settingRange k).1 (min (settingRange k).2 v)

/-- R164: the settings after a write of setting `k`, with its partner held against it. -/
def fitPartner (k : Nat) (v : Vector Nat 41) : Vector Nat 41 :=
  if k = 19 ∨ k = 20 then put v 20 (min (nth v 20) (64 - nth v 19))
  else if k = 35 ∨ k = 36 then
    if nth v 36 ≤ nth v 35 then put v 36 (nth v 35 + 100) else v
  else v

/-- R63: the slot count has been written: a surplus is shed, otherwise the arbiter runs. -/
def slotCountWritten (s : State) : State :=
  if slotCount s < inrushCount s then shedSurplus s else runArbiter s

/-- R16, R17, R106: the enable of segment `i` has changed: its Segment Controller acts, and the Sequencer
then makes its test of the start condition, in the same handling (log entry 21). -/
def segmentEnableChanged (i : Nat) (s : State) : State := tryAutostart (segmentEnableWritten i s)

/-- The effect of a changed setting `k`, under its owner's rule; the other settings are read when
they are next used. -/
def settingWritten (k : Nat) (s : State) : State :=
  match k with
  | 0 => segmentEnableChanged 0 s
  | 3 => segmentEnableChanged 1 s
  | 6 => segmentEnableChanged 2 s
  | 9 => segmentEnableChanged 3 s
  | 13 => recomputeAvailable s
  | 15 => slotCountWritten s
  | 17 => evaluateReadmit s
  | 21 => evaluateIndication s
  | 27 => recomputeEnergy s
  | 28 => recomputeEnergy s
  | 33 => driveAlert s
  | 34 => driveAlert s
  | _ => s

/-- R164: a SETTINGS write; one that leaves the settings as they were has no effect. -/
def writeSetting (k v : Nat) (s : State) : State :=
  let old := s.tables.settings
  let new := fitPartner k (put old k (fitSetting k v))
  let s := { s with tables := { s.tables with settings := new } }
  if nth new k = nth old k then s else settingWritten k s

/-! ## An offered entry (section 9.2) -/

/-- R162: an entry is offered to its table's owner; the flag says whether it was taken. -/
def offerEntry (table : TableId) (k : Nat) (bytes : List Byte) (s : State) : State × Bool :=
  match table with
  | .node =>
    match decodeNode bytes with
    | none => (s, false)
    | some c => if nodeWritable s k c then (takeNodeWrite k c s, true) else (s, false)
  | .limit =>
    match decodeLimit bytes with
    | none => (s, false)
    | some c =>
      ({ s with tables := { s.tables with
          limits := put s.tables.limits k { c with confirm := max 1 (min 15 c.confirm) } } }, true)
  | .zone =>
    match decodeZone bytes with
    | none => (s, false)
    | some c => if zoneWritable s k c then (takeZoneWrite k c s, true) else (s, false)
  | .leakChannel =>
    match decodeChannel bytes with
    | none => (s, false)
    | some c => writeChannel k c s
  | .leakMap =>
    match decodeLeakMap bytes with
    | none => (s, false)
    | some c => writeLeakMap k c s
  | .sequence =>
    match decodeStep bytes with
    | none => (s, false)
    | some c =>
      if stepHeld s k then (s, false)
      else ({ s with tables := { s.tables with steps := put s.tables.steps k (clampStep c) } }, true)
  | .line =>
    match decodeLine bytes with
    | none => (s, false)
    | some c => (writeLine k c s, true)
  | .settings =>
    match decodeSetting bytes with
    | none => (s, false)
    | some v => (writeSetting k v s, true)

/-! ## The open load (R161 to R163) -/

/-- R161, R163: the cause of a LOAD_EVENT, numbered from 0 in this order. -/
inductive LoadCause where
  | replaced
  | stall
  deriving DecidableEq, Repr, Inhabited

/-- R161, R163: LOAD_EVENT is raised for a load record. -/
def raiseLoadEvent (cause : LoadCause) (r : LoadRecord) (s : State) : State :=
  raiseFlag .loadEvent
    (be1 cause.ctorIdx ++ be1 r.table.ctorIdx ++ be1 r.next ++ be1 r.remaining) s

/-- R161, R165: a start and a count lie outside a table. -/
def outsideTable (table : TableId) (start count : Nat) : Bool :=
  count == 0 || decide (tableSize table ≤ start) || decide (tableSize table < start + count)

/-- R161: the record opens. -/
def openLoad (r : LoadRecord) (s : State) : State :=
  { s with loader := ⟨some r, startTimer s (loadWindow s)⟩ }

/-- R161: a TABLE_LOAD request: the answer, its result, and the state. -/
def tableLoadRequest (table : TableId) (start count : Nat) (s : State) :
    Status × List Byte × State :=
  if s.image.saving.isSome then (.busy, [], s)
  else if outsideTable table start count then (.range, [], s)
  else
    let result := be1 table.ctorIdx ++ be1 start ++ be1 count
    let s :=
      match s.loader.record with
      | none => s
      | some old => raiseLoadEvent .replaced old s
    (.ok, result, openLoad ⟨table, start, count⟩ s)

/-- The progress of one TABLE_DATA. -/
structure Progress where
  accepted : Nat
  refused : Nat
  firstRefused : Option Nat
  next : Nat
  remaining : Nat
  state : State

/-- R162: one carried entry is taken. -/
def takeEntry (table : TableId) (p : Progress) (bytes : List Byte) : Progress :=
  if p.remaining = 0 then
    { p with refused := p.refused + 1, firstRefused := p.firstRefused <|> some p.next }
  else
    match offerEntry table p.next bytes p.state with
    | (s, true) =>
      { p with accepted := p.accepted + 1, next := p.next + 1, remaining := p.remaining - 1, state := s }
    | (s, false) =>
      { p with
        refused := p.refused + 1
        firstRefused := p.firstRefused <|> some p.next
        next := p.next + 1
        remaining := p.remaining - 1
        state := s }

/-- The `count` entries of a payload, each of `size` bytes. -/
def entriesOf (size : Nat) : Nat → List Byte → List (List Byte)
  | 0, _ => []
  | count + 1, bytes => bytes.take size :: entriesOf size count (bytes.drop size)

/-- R162: the record after a frame: closed when its count has reached 0, else with the timer
restarted. -/
def afterData (table : TableId) (p : Progress) : State :=
  if p.remaining = 0 then { p.state with loader := ⟨none, .stopped⟩ }
  else openLoad ⟨table, p.next, p.remaining⟩ p.state

/-- R162: a TABLE_DATA request: the answer, its result, and the state. -/
def tableDataRequest (payload : List Byte) (s : State) : Status × List Byte × State :=
  if s.image.saving.isSome then (.busy, [], s)
  else
    match s.loader.record with
    | none => (.state, [], s)
    | some r =>
      let size := entrySize r.table
      if payload.length % size = 0 then
        let p := (entriesOf size (payload.length / size) payload).foldl (takeEntry r.table)
          ⟨0, 0, none, r.next, r.remaining, s⟩
        (.ok, be1 r.table.ctorIdx ++ be1 p.accepted ++ be1 p.refused ++
          be1 (p.firstRefused.getD 255) ++ be1 p.remaining, afterData r.table p)
      else (.malformed, [], s)

/-- R163: the load window timer expires. -/
def loadStalled (s : State) : State :=
  match s.loader.record with
  | none => s
  | some r => raiseLoadEvent .stall r { s with loader := ⟨none, .stopped⟩ }

/-! ## Reading back (R165) -/

/-- R165, section 11.6: the number of entries a TABLE_READ returns. -/
def readCount (table : TableId) (count : Nat) : Nat := min count (235 / entrySize table)

/-- R165: a TABLE_READ request: the answer and its result. -/
def tableReadRequest (table : TableId) (start count : Nat) (s : State) : Status × List Byte :=
  if outsideTable table start count then (.range, [])
  else
    let n := readCount table count
    (.ok, be1 table.ctorIdx ++ be1 start ++ be1 n ++ rangeBytes s.tables table start n)

end Sys2Proof.Machine
end

