-- ==== Sys2Proof/Machine/Resets.lean ====
section
/-! DEFINITION. The Image Store (R166 to R168) and the three resets, as every block's rule states its
part (R19, R23, R45, R61, R94, R106, R109, R141, R160, R168, R170). -/

namespace Sys2Proof.Machine

/-! ## The Image Store (R166 to R168) -/

/-- R166 to R168: the result IMAGE names, numbered from 0 in this order. -/
inductive ImageResult where
  | saved
  | failed
  | erased
  | interrupted
  | empty
  | invalid
  deriving DecidableEq, Repr, Inhabited

/-- R168: IMAGE is raised. -/
def raiseImage (x : ImageResult) (s : State) : State := raiseFlag .image (be1 x.ctorIdx) s

/-- R166: an IMAGE_SAVE request. -/
def imageSaveRequest (s : State) : Status × State :=
  if s.image.saving.isSome then (.busy, s)
  else (.ok, { s with image := { s.image with status := .invalid, saving := some s.tables } })

/-- R166: the save in flight completes, its read-back CRC matching or not. -/
def imageSaved (crcMatches : Bool) (s : State) : State :=
  match s.image.saving with
  | none => s
  | some copy =>
    let image : Image :=
      ⟨if crcMatches then .valid else .invalid, copy, imageCrc copy, none⟩
    raiseImage (if crcMatches then .saved else .failed) { s with image := image }

/-- R167: an IMAGE_ERASE request. -/
def imageEraseRequest (s : State) : Status × State :=
  if s.image.saving.isSome then (.busy, s)
  else (.ok, raiseImage .erased { s with image := { s.image with status := .erased } })

/-- R168: the image is VALID and its CRC matches. -/
def imageRestores (x : Image) : Bool := x.status == .valid && imageCrc x.tables == x.crc

/-- R166, R168: the image after a power-on or hard reset. -/
def imageChecked (x : Image) : Image :=
  { x with
    status :=
      if x.saving.isSome then .invalid
      else if x.status == .valid && !imageRestores x then .invalid
      else x.status
    saving := none }

/-! ## The blocks after a reset -/

/-- R19: segment `i` after a reset. -/
def segmentReset (s : State) (i : Nat) : Segment :=
  let g := Segment.idleAfterReset (s.now + pollPeriod s i)
  if segEnabled s i then g else { g with state := .disabled, pollTimer := .stopped }

/-- R61: the Zone Controller after a reset. -/
def zonesReset (s : State) (conserve : Bool) (groups : Vector GroupState 8) : ZoneCtl :=
  { ZoneCtl.initial with
    zones := tabulate 32 fun z => { ZoneRun.off with adoptPending := (zoneCfg s z).inUse }
    conserve := conserve
    groups := groups }

/-- R141 steps 1, 3 and 5: the Leak Monitor before its channels are settled. -/
def leakReset (s : State) (groups : Vector GroupState 8) : Leak :=
  ⟨Vector.replicate 32 ⟨.dry, 0, .stopped⟩, groups, startTimer s (chatterWindow s), .dark, .stopped,
    false, false⟩

/-- R170: line `i` after a reset. -/
def lineReset (s : State) (i : Nat) : LineRun :=
  ⟨none, none, if (lineCfg s i).enable then startTimer s (lineCfg s i).interval else .stopped⟩

/-- What a reset keeps or finds: the autostart status, the ride-through record and the group states
of R141 step 1. -/
structure Kept where
  autostart : Autostart
  ride : Ride
  groups : Vector GroupState 8

/-- Every block after a reset, from the tables as they stand in `s`, before the leak channels are
settled. The time, the free values and the waiting commands are the model's own and stay. -/
def blocksReset (k : Kept) (s : State) : State :=
  { s with
    loader := ⟨none, .stopped⟩
    port := Port.initial
    segs := tabulate 4 (segmentReset s)
    nodes := tabulate 48 fun e => writtenRun (nodeCfg s e)
    cap := Capacity.initial
    zc := zonesReset s k.ride.conserve k.groups
    seq := { Sequencer.initial with autostart := k.autostart }
    ride := k.ride
    leak := leakReset s k.groups
    lines := tabulate 11 (lineReset s)
    mail := Mail.empty }

/-- R141 steps 2, 4 and 5: the channels are settled, by index ascending (log entry 61), the groups
evaluated, by index ascending (log entry 72), the beacon chosen. -/
def leakSettled (s : State) : State :=
  let s := (allChannels.filter fun c => (channelCfg s c).inUse).foldl settleRaising s
  evaluateGroups .reset allGroups s

/-- R160: the ALERT line is driven, and RESTART is raised with the particulars given. -/
def restart (particulars : List Byte) (s : State) : State :=
  raiseFlag .restart particulars (driveAlert (leakSettled s))

/-! ## The resets (R159, R160, R168) -/

/-- R168: a power-on or hard reset: the image is read first. R106's test is made at the reset that armed
the program, once every block stands in its reset state and RESTART is raised (log entry 21). The number of
the kind in RESTART is the model's choice (log entry 67). -/
def coldReset (kind : ResetKind) (s : State) : State :=
  let restored := imageRestores s.image
  let erased := s.image.status == .erased
  let s := { s with
    tables := if restored then s.image.tables else Tables.empty
    image := imageChecked s.image }
  let autostart : Autostart := if autostartFlag s then .armed else .none
  let s := blocksReset ⟨autostart, Ride.initial, Vector.replicate 8 .clear⟩ s
  let s := restart (be1 kind.ctorIdx ++ beBool restored) s
  tryAutostart (if restored then s else raiseImage (if erased then .empty else .invalid) s)

/-- R141: a group kept by a soft reset. -/
def groupKept (x : GroupState) : GroupState :=
  match x with
  | .alarm => .drying
  | .drying => .drying
  | .clear => .clear
  | .watch => .clear

/-- R109: the Ride-Through Unit after a soft reset. -/
def rideKept (s : State) : Ride :=
  { Ride.initial with
    episodes := s.ride.episodes
    conserve := s.ride.conserve
    window := if s.ride.episodes = 0 then .stopped else startTimer s (1000 * episodeWindow s) }

/-- R159, R160: a soft reset: the tables and settings stay. The number of the kind in RESTART is the
model's choice (log entry 67). -/
def warmReset (s : State) : State :=
  let interrupted := s.image.saving.isSome
  let kept : Kept := ⟨.none, rideKept s, s.leak.groups.map groupKept⟩
  let s := { s with image := { s.image with
    status := if interrupted then .invalid else s.image.status, saving := none } }
  let s := restart (be1 ResetKind.soft.ctorIdx) (blocksReset kept s)
  if interrupted then raiseImage .interrupted s else s

end Sys2Proof.Machine
end

