-- ==== Sys2Proof/Machine/Status.lean ====
section
/-! DEFINITION. The STATUS requests: the field list of each subject (R20, R44, R58, R91, R108, R128,
R145, R150), the field encodings and the parts (R175). Each member of a list below is one field, or
one group of fields that stays together. -/

namespace Sys2Proof.Machine

/-! ## Fields (R175) -/

/-- An optional record: a byte present or not, then the record. -/
def beOption {α : Type} (enc : α → List Byte) (x : Option α) : List Byte :=
  match x with
  | none => be1 0
  | some a => be1 1 ++ enc a

/-- A remaining time, in the unit of its setting given in ms. -/
def beTimer (s : State) (unit : Nat) (t : Timer) : List Byte := be2 (inUnits (remaining s.now t) unit)

/-- The number of members of a list that meet a test. -/
def countOf {α : Type} (l : List α) (p : α → Bool) : Nat := (l.filter p).length

/-- R175: the fields cut into parts of at most 235 bytes, no field split: each part takes as many
whole fields as fit (log entry 24). -/
def packParts : List Byte → List (List Byte) → List (List Byte)
  | part, [] => [part]
  | part, field :: rest =>
    if part.length + field.length ≤ 235 then packParts (part ++ field) rest
    else part :: packParts field rest

/-- The parts of a field list. -/
def partsOf (fields : List (List Byte)) : List (List Byte) := packParts [] fields

/-! ## SUMMARY (R150) -/

/-- R150: one relay slot. Its segment and node address are those the RMC addressed, whatever the target
entry has become (log entry 54). -/
def slotFields (x : RelaySlot) : List Byte :=
  be1 (byteSegment x.dest) ++ be1 (byteAddress x.dest) ++
    be1 (match x.state with
      | .waiting => 0
      | .answering _ _ => 1
      | .expired => 2)

/-- R150. The order of the relay slots, segments, states and groups (log entry 62), the byte of a
segment's first-scan status, PENDING 0 and COMPLETE 1 (log entry 67), and a relay slot as an optional
record (log entry 70) are the model's choices. -/
def summaryFields (s : State) : List (List Byte) :=
  let p := s.port
  [be1 p.link.ctorIdx, be2 p.errors, be1 p.goodRun, beSet p.flags, be1 p.rx.length,
    be1 p.responses.length, be1 p.reports.length] ++
  (p.slots.toList.map (beOption slotFields)) ++
  [be2 p.broken, be2 p.misaddressed] ++
  (s.segs.toList.flatMap fun g => [be1 g.state.ctorIdx, be1 g.firstScan.ctorIdx]) ++
  ([NodeState.unseen, .active, .degraded, .lost, .disabled].map fun x =>
    be1 (countOf allEntries fun k => nodeState? s k == some x)) ++
  [be1 s.cap.state.ctorIdx, be4 s.cap.available, be4 s.cap.committed, be1 s.ride.state.ctorIdx,
    beBool s.ride.conserve, be4 s.ride.energy, beBool s.zc.epoLatch] ++
  ([ZoneState.off, .queued, .inrush, .on, .shed, .isolated, .lockout].map fun x =>
    be1 (countOf allZones (zoneIs s x))) ++
  [be1 s.seq.state.ctorIdx, be1 s.seq.pointer] ++
  (s.leak.groups.toList.map fun x => be1 x.ctorIdx) ++
  [beBool (s.image.status == .valid), beBool s.image.saving.isSome, beBool p.alert,
    be1 (alertSource s).ctorIdx]

/-! ## NODE (R44) and SEGMENT (R20) -/

/-- R23: the item slots of a kind, in the order its table lists them. R44 states no order, and this one,
with FAULT (code 5) last, is the model's choice (log entry 55). -/
def kindItems : NodeKind → List Nat
  | .rectifier => [0, 1, 2, 3, 4, 5]
  | .battery => [6, 7, 8, 9, 10, 5]
  | .feed => [11, 12, 13, 14, 15, 16, 17, 18, 19]
  | .leak => [20, 21, 22, 23, 5]

/-- R44: one item slot. -/
def itemSlotFields (x : Slot) : List Byte :=
  beBool x.present ++ be2 x.value ++ be1 x.age ++ be2 x.confirm ++ beBool x.violation ++
    beOption be2 x.reported

/-- R44: the NODE subject. The configured fields are the entry as section 11.6 encodes it (log entry 69).
The item slots of the kind stand in `kindItems`' order, without a count before them (log entry 55). -/
def nodeFields (s : State) (k : Nat) : List Byte :=
  let c := nodeCfg s k
  let r := nodeAt s k
  encodeNode c ++
    (if c.inUse then
      be1 r.state.ctorIdx ++ be1 r.misses ++
        (kindItems c.kind).flatMap fun code => itemSlotFields (nth r.slots code)
    else [])

/-- R20: the current exchange. The number of its phase is the model's choice (log entry 67). -/
def currentFields (c : Current) : List Byte :=
  be1 c.ex.target ++ be1 (kindNumber c.ex.kind) ++ be1 c.ex.cls.ctorIdx ++ be1 c.phase.ctorIdx ++
    beBool c.ex.retryUsed

/-- R20. The classes stand as URGENT, CONTROL, POLL (log entry 62). The first-scan status is PENDING 0 or
COMPLETE 1 (log entry 67). -/
def segmentFields (s : State) (i : Nat) : List Byte :=
  let g := segAt s i
  let n := g.counters
  be1 g.state.ctorIdx ++ be1 g.firstScan.ctorIdx ++
    ([ExClass.urgent, .control, .poll].flatMap fun c =>
      be1 (countOf g.queue fun e => e.cls == c)) ++
    beOption currentFields g.current ++ be2 n.good ++ be2 n.readback ++ be2 n.noReply ++
    be2 n.badReply ++ be2 n.retries ++ be2 n.refusedPolls ++ beBool (segEnabled s i) ++
    be1 (replyWindow s i) ++ be2 (pollPeriod s i)

/-! ## ZONE and QUEUES (R91) -/

/-- R91: the zone's place in the collection that holds it. That it is counted from 0 at the head is the
model's choice (log entry 52). -/
def zonePlace (s : State) (z : Nat) : Option Nat :=
  match s.zc.queue.idxOf? z with
  | some n => some n
  | none => s.zc.readmit.idxOf? z

/-- R91: whether the zone is eligible, and if not the first condition that fails: the six conditions
of R64, tested whatever the zone's state (log entry 44). -/
def eligibleFields (s : State) (z : Nat) : List Byte :=
  match ineligible s z with
  | none => be1 1
  | some n => be1 0 ++ be1 n

/-- R91. The configured fields are the entry as section 11.6 encodes it (log entry 69), and the place is an
optional field (log entry 70). -/
def zoneFields (s : State) (z : Nat) : List Byte :=
  let r := zoneAt s z
  encodeZone (zoneCfg s z) ++ be1 r.state.ctorIdx ++ be1 r.attempts ++ beBool r.acked ++
    beBool r.adoptPending ++ beBool r.disablePending ++ beTimer s 1 r.retry ++ beTimer s 1 r.inrush ++
    beOption be1 (zonePlace s z) ++ eligibleFields s z

/-- R91: the QUEUES subject. The zones holding inrush slots are a list, by index ascending (log entry
44). The EPO line level is 1 when asserted, a number that is the model's choice (DESIGN CHOICE, log entry
68). -/
def queuesFields (s : State) : List (List Byte) :=
  [be1 s.zc.queue.length ++ (s.zc.queue.flatMap fun z =>
      be1 z ++ be1 (zoneCfg s z).tier ++ beBool (eligible s z)),
    beList s.zc.readmit, beList (allZones.filter (zoneIs s .inrush)), be1 (slotCount s),
    beBool (admissionOpen s), beBool (readmitOpen s), beBool s.zc.epoLatch, beBool s.zc.epoLine]

/-! ## CAPACITY (R58) -/

/-- R58: the contributing entry is among the `k` largest; of equal contributions the lower indices
are. -/
def amongLargest (s : State) (k e : Nat) : Bool :=
  decide (countOf (contributors s) (fun j =>
    decide (contribution s e < contribution s j) ||
      (contribution s j == contribution s e && decide (j < e))) < k)

/-- R58: the last shed record. -/
def capShedFields (x : CapShed) : List Byte :=
  be4 x.available ++ be4 x.committed ++ be4 x.remainder ++ beList x.zones ++ beBool x.exhausted

/-- R58. The contributing rectifiers stand by entry index ascending (log entry 62), and the last shed record
is an optional record (log entry 70), the model's choices. -/
def capacityFields (s : State) : List (List Byte) :=
  let c := s.cap
  [be1 c.state.ctorIdx, be1 c.grace.ctorIdx, beTimer s 1 c.graceTimer, beBool c.outstanding,
    beBool c.short, be4 c.available, be4 c.committed, be4 (headroom c.available c.committed),
    be1 (reserveCount s), be2 (graceTime s), be1 c.count] ++
  ((contributors s).map fun e =>
    be1 e ++ be2 (contribution s e) ++ beBool (amongLargest s (reserveCount s) e)) ++
  [beOption capShedFields c.lastShed, be2 c.deficits, be2 c.sheds]

/-! ## RIDE (R128) -/

/-- R125: the last plan record. -/
def planFields (p : PlanRecord) : List Byte :=
  be2 p.episode ++ be1 p.occasion.ctorIdx ++ be2 p.elapsed ++ be1 p.batteries ++ be4 p.eSum ++
    be4 p.eEff ++ be4 p.loadBefore ++ be2 p.holdBefore ++ be2 p.need ++ be4 p.cap ++ be4 p.target ++
    be1 p.outcome.ctorIdx ++ be4 p.loadAfter ++ be2 p.holdAfter ++ beList p.shed

/-- R128. The pending set is given in the order in which its members joined (log entry 47), the lines by
index and the timers as R109 lists them (log entry 62). The indication and its parts are 1 when true (log
entry 68). -/
def rideFields (s : State) : List (List Byte) :=
  let r := s.ride
  let b := standby s
  [be1 r.state.ctorIdx, beBool r.indication, beBool r.linePart, beBool r.rectPart, be1 (lostCount r),
    be1 (lossQuorum s)] ++
  ([0, 1].flatMap fun i => [beBool (lineCfg s i).enable, beBool (lineLost s i)]) ++
  [beTimer s 1 r.confirm, beTimer s 100 r.settle, beTimer s 1 r.recompute, beTimer s 1000 r.window,
    be2 (elapsedOf s), be2 r.episodes, be1 (episodeLimit s), beBool r.conserve, be4 r.energy,
    be4 r.eSum, be4 r.pCap, be1 r.batteries, beList r.pendingSet, beOption planFields r.lastPlan,
    be4 b.load, be2 b.hold, be2 b.need, be4 b.target]

/-! ## LEAK (R145) -/

/-- R145: one channel; one that is not in use is given with its configured fields alone. R145 lists in use
beside the configured fields, and R129 counts it among them: it is sent once, as the first byte of the
entry's encoding (DESIGN CHOICE, log entry 69). -/
def channelFields (s : State) (c : Nat) : List Byte :=
  let r := channelAt s c
  encodeChannel (channelCfg s c) ++
    (if (channelCfg s c).inUse then be1 r.state.ctorIdx ++ be1 r.glitches ++ beTimer s 1 r.timer
    else [])

/-- R145. The channels and the groups stand by index ascending (log entry 62). -/
def leakFields (s : State) : List (List Byte) :=
  (allChannels.map (channelFields s)) ++
  (allGroups.flatMap fun g =>
    [be1 (groupAt s g).ctorIdx, be1 (wetCount s g), be1 (pendingCount s g), be1 (voteOf s g),
      beSet (nth s.tables.leakMap g).zoneSet]) ++
  [beTimer s 1 s.leak.chatter, be2 (chatterWindow s), be1 s.leak.pattern.ctorIdx,
    beBool s.leak.beaconLine]

/-! ## SEQUENCER (R108) -/

/-- A descriptor: start step and count. -/
def descFields (d : Descriptor) : List Byte := be1 d.start ++ be1 d.count

/-- R108: the steps remaining. -/
def stepsRemaining (s : State) : Nat :=
  match s.seq.state, s.seq.desc with
  | .done, _ => 0
  | _, none => 0
  | _, some d => d.start + d.count - s.seq.pointer

/-- R108. The descriptor is an optional record (log entry 70). -/
def sequencerFields (s : State) : List (List Byte) :=
  let q := s.seq
  let step := currentStep s
  [be1 q.state.ctorIdx, beOption descFields q.desc, be1 q.pointer, be1 step.kind.ctorIdx,
    be2 step.operand, be2 step.timeout, be1 q.phase.ctorIdx, beTimer s 1 q.timer,
    be1 (stepsRemaining s), be1 q.skips,
    beOption (fun x : FailRecord => be1 x.step ++ be1 x.reason.ctorIdx) q.fail,
    be1 q.autostart.ctorIdx, be1 (autostartDesc s).start, be1 (autostartDesc s).count]

/-! ## The answer (R173, R175) -/

/-- R175: part `n` of a subject that is cut into parts. -/
def partAnswer (subject : Subject) (n : Nat) (fields : List (List Byte)) : Status × List Byte :=
  let parts := partsOf fields
  match parts[n]? with
  | none => (.range, [])
  | some part => (.ok, be1 subject.ctorIdx ++ be1 n ++ be1 parts.length ++ part)

/-- R175: a subject with an index, in one part; an index at or above `size` is answered RANGE. -/
def indexAnswer (subject : Subject) (index size : Nat) (fields : List Byte) : Status × List Byte :=
  if size ≤ index then (.range, [])
  else (.ok, be1 subject.ctorIdx ++ be1 0 ++ be1 1 ++ fields)

/-- R149, R175: a STATUS request: the answer and its result. -/
def statusRequest (subject : Subject) (n : Nat) (s : State) : Status × List Byte :=
  match subject with
  | .summary => partAnswer .summary n (summaryFields s)
  | .node => indexAnswer .node n 48 (nodeFields s n)
  | .zone => indexAnswer .zone n 32 (zoneFields s n)
  | .capacity => partAnswer .capacity n (capacityFields s)
  | .ride => partAnswer .ride n (rideFields s)
  | .leak => partAnswer .leak n (leakFields s)
  | .sequencer => partAnswer .sequencer n (sequencerFields s)
  | .segment => indexAnswer .segment n 4 (segmentFields s n)
  | .queues => partAnswer .queues n (queuesFields s)

end Sys2Proof.Machine
end

