-- ==== Sys2Proof/Machine/Requests.lean ====
section
/-! DEFINITION. The Upstream Port's receiving and sending, the keep-alive supervision, the flag set,
and the Request Handler (R146 to R149, R154, R157 to R159). -/

namespace Sys2Proof.Machine

/-! ## Link supervision (R157, R158) -/

/-- R157: the cause of a LINK_CHANGE, numbered from 0 in this order. -/
inductive LinkCause where
  | first
  | early
  | late
  | recovered
  deriving DecidableEq, Repr, Inhabited

/-- R157, R158: the supervision state changes. -/
def changeLink (new : LinkState) (cause : LinkCause) (s : State) : State :=
  let old := s.port.link
  let s := modPort (fun p => { p with link := new, errors := 0, goodRun := 0 }) s
  let s := modMail (fun m => { m with linkToZone := m.linkToZone ++ [linkNewsOf s] }) s
  raiseFlag .linkChange (be1 old.ctorIdx ++ be1 new.ctorIdx ++ be1 cause.ctorIdx) (driveAlert s)

/-- R157: the window starts. -/
def startWindow (s : State) : State :=
  modPort (fun p => { p with window := some ⟨s.now, openTime s, closeTime s⟩ }) s

/-- R157: an error in SUPERVISED. -/
def linkError (cause : LinkCause) (s : State) : State :=
  let n := s.port.errors + 1
  if errorThreshold s ≤ n then changeLink .autonomous cause s
  else modPort (fun p => { p with errors := n }) s

/-- R157: a keep-alive judged against a window. -/
inductive KeepTime where
  | good
  | early
  | late
  deriving DecidableEq, Repr, Inhabited

/-- R157: the judgment of a keep-alive taken `t` ms after the window's start. -/
def keepTime (w : KeepWindow) (t : Nat) : KeepTime :=
  if t < w.openTime then .early else if t < w.closeTime then .good else .late

/-- R157: the window that runs; in SUPERVISED and AUTONOMOUS one always does. -/
def windowOf (s : State) : KeepWindow :=
  s.port.window.getD ⟨s.now, openTime s, closeTime s⟩

/-- R157: a keep-alive or a late error counts in AUTONOMOUS. -/
def autonomousCount (x : KeepTime) (s : State) : State :=
  match x with
  | .good =>
    if 3 ≤ s.port.goodRun + 1 then changeLink .supervised .recovered s
    else modPort (fun p => { p with goodRun := p.goodRun + 1 }) s
  | .early => modPort (fun p => { p with goodRun := 0 }) s
  | .late => modPort (fun p => { p with goodRun := 0 }) s

/-- R157: a keep-alive or a late error counts in SUPERVISED. -/
def supervisedCount (x : KeepTime) (s : State) : State :=
  match x with
  | .good => modPort (fun p => { p with errors := p.errors - 1 }) s
  | .early => linkError .early s
  | .late => linkError .late s

/-- R157: a KEEPALIVE is taken. -/
def keepaliveTaken (s : State) : State :=
  let w := windowOf s
  let x := keepTime w (s.now - w.start)
  let t := startWindow s
  match s.port.link with
  | .unarmed => changeLink .supervised .first t
  | .supervised => supervisedCount x t
  | .autonomous => autonomousCount x t

/-- R157: the result of a KEEPALIVE. -/
def keepaliveResult (s : State) : List Byte :=
  be1 s.port.link.ctorIdx ++ be1 s.port.errors ++ be1 s.port.goodRun

/-- R157: the close time of the window passes with no keep-alive taken. -/
def closeTimePassed (s : State) : State :=
  match s.port.window with
  | none => s
  | some w =>
    let s := { s with now := max s.now (w.start + w.closeTime) }
    match s.port.link with
    | .unarmed => s
    | .supervised => supervisedCount .late (startWindow s)
    | .autonomous => autonomousCount .late (startWindow s)

/-! ## FLAG_TAKE (R154) -/

/-- R154: a FLAG_TAKE request: the answer, its result, and the state. -/
def flagTakeRequest (named : BitVec 32) (s : State) : Status × List Byte × State :=
  if named >>> 24 != 0#32 then (.range, [], s)
  else
    let set := named.setWidth 24
    (.ok, beSet (s.port.flags &&& set),
      driveAlert (modPort (fun p => { p with flags := p.flags &&& ~~~set }) s))

/-! ## The Request Handler (R149) -/

/-- R159: the reset a RESET request names. -/
def resetKindOf (hard : Bool) : ResetKind := if hard then .hard else .soft

/-- R149: a request is carried out by its owner: the answer, its result, and the state. -/
def carryOut (r : Request) (s : State) : Status × List Byte × State :=
  match r with
  | .keepalive =>
    let s := keepaliveTaken s
    (.ok, keepaliveResult s, s)
  | .status subject index =>
    match statusRequest subject index.toNat s with
    | (status, result) => (status, result, s)
  | .flagTake flags => flagTakeRequest flags s
  | .tableLoad table start count => tableLoadRequest table start.toNat count.toNat s
  | .tableData payload => tableDataRequest payload s
  | .tableRead table start count =>
    match tableReadRequest table start.toNat count.toNat s with
    | (status, result) => (status, result, s)
  | .zone z action =>
    match zoneRequest z.toNat action s with
    | (status, s) => (status, [], s)
  | .seqRun start count =>
    match seqRunRequest start.toNat count.toNat s with
    | (status, s) => (status, [], s)
  | .seqStop => (.ok, [], seqStopRequest s)
  | .leakClear group =>
    match leakClearRequest group.toNat s with
    | (status, s) => (status, [], s)
  | .epoClear =>
    match epoClearRequest s with
    | (status, s) => (status, [], s)
  | .rideRelease => (.ok, [], rideReleaseRequest s)
  | .node entry disable =>
    match nodeRequest entry.toNat disable s with
    | (status, s) => (status, [], s)
  | .imageSave =>
    match imageSaveRequest s with
    | (status, s) => (status, [], s)
  | .imageErase =>
    match imageEraseRequest s with
    | (status, s) => (status, [], s)
  | .reset hard => (.ok, [], modPort (fun p => { p with reset := .asked (resetKindOf hard) }) s)

/-- R159: the mark of a RESET request's answer. -/
def resetMark : Request → Option ResetKind
  | .reset hard => some (resetKindOf hard)
  | _ => none

/-- R147, R149: a request is served: its answer joins the response queue, in the place kept for it. -/
def serve (tag : Byte) (r : Request) (s : State) : State :=
  match carryOut r (keepPlace true s) with
  | (status, result, s) =>
    keepPlace false
      (pushResponse ⟨responseFrame supervisorByte (requestKind r) tag status result, resetMark r⟩ s)

/-- R147, R149: a frame taken from the receive buffer goes to the Request Handler or to the relay
gate. -/
def takeFrame (f : Frame) (s : State) : State :=
  if f.dst == supervisorByte then
    match parseRequest f.kind f.payload with
    | some r => serve f.tag r s
    | none => pushResponse ⟨responseFrame supervisorByte f.kind f.tag .malformed [], none⟩ s
  else takeRelay f s

/-! ## Receiving (R146, R147) -/

/-- R147, R159: a frame may be taken from the receive buffer: the response queue has a free place, no
relay slot waits for one, and no reset has been asked for. -/
def canTake (s : State) : Bool :=
  freePlace s && s.port.answering.isEmpty && s.port.reset == .none

/-- R146: a broken frame. -/
def countBroken (s : State) : State := modPort (fun p => { p with broken := sat16 p.broken }) s

/-- R146: a misaddressed frame. -/
def countMisaddressed (s : State) : State :=
  modPort (fun p => { p with misaddressed := sat16 p.misaddressed }) s

/-- R147: an accepted frame joins the receive buffer, or is dropped with RX_OVERRUN. -/
def acceptFrame (f : Frame) (s : State) : State :=
  if s.port.rx.length < 4 then modPort (fun p => { p with rx := p.rx ++ [f] }) s
  else raiseFlag .rxOverrun [f.tag, f.kind] s

/-- R146: the destination is the supervisor address or a node address byte. -/
def addressable (b : Byte) : Bool := b == supervisorByte || isNodeByte b

/-- R146: the bytes of a complete frame are judged; one that is both broken and misaddressed counts as
broken alone (log entry 53). -/
def judgeFrame (bytes : List Byte) (s : State) : State :=
  match readFrame bytes with
  | none => countBroken s
  | some f =>
    if f.src == rmcByte && addressable f.dst then acceptFrame f s else countMisaddressed s

/-- R147: the head frame of the receive buffer is taken. -/
def takeHead (s : State) : State :=
  match s.port.rx with
  | [] => s
  | f :: rest =>
    if canTake s then takeFrame f (modPort (fun p => { p with rx := rest }) s) else s

/-- The request `r` arrives from the RMC: with the receive buffer empty and R147 allowing it, it is
taken at once; otherwise its frame joins the receive buffer (log entry 8). -/
def request (tag : Byte) (r : Request) (s : State) : State :=
  if 240 < (requestPayload r).length then countBroken s
  else if canTake s && s.port.rx.isEmpty then serve tag r s
  else acceptFrame (requestFrame tag r) s

/-- The frame the RMC sends to a node. -/
def relayFrame (k : RelayKind) (tag dest : Byte) (payload : List Byte) : Frame :=
  ⟨dest, rmcByte, relayKindByte k, tag, payload⟩

/-- A frame for a node arrives from the RMC, and is taken or joins the receive buffer as a request
does (log entry 8). -/
def relayArrives (f : Frame) (s : State) : State :=
  if 240 < f.payload.length then countBroken s
  else if !addressable f.dst then countMisaddressed s
  else if canTake s && s.port.rx.isEmpty then takeFrame f s
  else acceptFrame f s

/-! ## Sending (R148, R159) -/

/-- R148: the free transmitter takes the head of the response queue, or of the report queue. It does so
between the end of a RESET's answer and the command that carries the reset out, too (DESIGN CHOICE, log
entry 73). -/
def startSending (s : State) : State :=
  if s.port.sending.isSome then s
  else
    match s.port.responses, s.port.reports with
    | r :: rest, _ =>
      modPort (fun p => { p with
        responses := rest, sending := some ⟨frameBytes r.frame, r.reset⟩ }) s
    | [], f :: rest =>
      modPort (fun p => { p with reports := rest, sending := some ⟨frameBytes f, none⟩ }) s
    | [], [] => s

/-- R148, R159: the frame has been sent; when it answered a RESET, the reset is due, and is carried out by
a command of its own, HARD_RESET or SOFT_RESET (log entry 73). -/
def finishSending (s : State) : State :=
  match s.port.sending with
  | none => s
  | some x =>
    modPort (fun p => { p with
      sending := none
      reset := match x.reset with
        | some kind => .due kind
        | none => p.reset }) s

/-! ## Expiries and deliveries -/

/-- An expiry of timer `t`, taken by `f`; nothing where the timer does not run (log entry 9). -/
def onExpiry (t : Timer) (f : State → State) (s : State) : State :=
  match atExpiry t s with
  | none => s
  | some s => f s

/-- The oldest delivery of a path, taken by `f`; nothing where none is in flight (log entry 9). -/
def onDelivery {α : Type} (path : List α) (rest : List α → Mail → Mail) (f : α → State → State)
    (s : State) : State :=
  match path with
  | [] => s
  | x :: tail => f x (modMail (rest tail) s)

end Sys2Proof.Machine
end

