-- ==== Sys2Proof/Machine/CapacityCommands.lean ====
section
/-! DEFINITION. The commands of the Capacity Unit (R51, R52, R54, R56). -/

namespace Sys2Proof.Machine

/-- GRACE_TIMER_EXPIRY (R52). -/
def execGraceTimerExpiry (s : State) : Host.Outcome State Fault Refusal :=
  .next (onExpiry s.cap.graceTimer graceExpired s)

/-- CAPACITY_SHED_COMPLETION (R54). -/
def execCapacityShedCompletion (s : State) : Host.Outcome State Fault Refusal :=
  .next (onDelivery s.mail.capShedDone (fun x m => { m with capShedDone := x })
    (fun _ s => capacityShedDone s) s)

/-- CAPACITY_DELIVERY (R56), at the receiver named. -/
def execCapacityDelivery (receiver : Receiver) (s : State) : Host.Outcome State Fault Refusal :=
  .next (match receiver with
    | .zoneController =>
      onDelivery s.mail.capToZone (fun x m => { m with capToZone := x }) takeCapNews s
    | .sequencer =>
      onDelivery s.mail.capToSeq (fun x m => { m with capToSeq := x }) seqTakeCapNews s)

/-- CAPACITY_RIDE_NOTICE (R51). -/
def execCapacityRideNotice (s : State) : Host.Outcome State Fault Refusal :=
  .next (onDelivery s.mail.rideToCap (fun x m => { m with rideToCap := x })
    (fun normal s => if normal then resumeCapacity s else suspendCapacity s) s)

end Sys2Proof.Machine
end

