-- ==== Sys2Proof/Machine/LeakCommands.lean ====
section
/-! DEFINITION. The commands of the Leak Monitor (R134, R135, R140, R143). -/

namespace Sys2Proof.Machine

/-- LEAK_CLEAR (R140). -/
def execLeakClear (tag group : Byte) (s : State) : Host.Outcome State Fault Refusal :=
  .next (request tag (.leakClear group) s)

/-- CHANNEL_CONFIRM_EXPIRY (R134). -/
def execChannelConfirmExpiry (channel : Fin 32) (s : State) : Host.Outcome State Fault Refusal :=
  .next (onExpiry (channelAt s channel).timer (channelConfirmed channel) s)

/-- CHATTER_TIMER_EXPIRY (R135). -/
def execChatterTimerExpiry (s : State) : Host.Outcome State Fault Refusal :=
  .next (onExpiry s.leak.chatter chatterExpired s)

/-- BEACON_TIMER_EXPIRY (R143). -/
def execBeaconTimerExpiry (s : State) : Host.Outcome State Fault Refusal :=
  .next (onExpiry s.leak.beaconTimer beaconExpired s)

end Sys2Proof.Machine
end

