-- ==== Sys2Proof/Machine/LineCommands.lean ====
section
/-! DEFINITION. The command of the Line Conditioner (R170). -/

namespace Sys2Proof.Machine

/-- LINE_SAMPLE (R170). -/
def execLineSample (line : Fin 11) (drive : PinDrive) (s : State) :
    Host.Outcome State Fault Refusal :=
  .next (onExpiry (lineAt s line).timer (sampleLine line drive) s)

end Sys2Proof.Machine
end

