-- ==== Sys2Proof/Machine/LinkCommands.lean ====
section
/-! DEFINITION. The commands of the upstream link (R146 to R148, R154, R157). -/

namespace Sys2Proof.Machine

/-- UPSTREAM_FRAME (R146). -/
def execUpstreamFrame (bytes : List Byte) (s : State) : Host.Outcome State Fault Refusal :=
  .next (judgeFrame bytes s)

/-- UPSTREAM_BYTE_TIMEOUT (R146): more than 10 ms pass inside a frame, which is discarded as broken. -/
def execUpstreamByteTimeout (s : State) : Host.Outcome State Fault Refusal :=
  .next (countBroken s)

/-- RX_FRAME_TAKEN (R147). -/
def execRxFrameTaken (s : State) : Host.Outcome State Fault Refusal :=
  .next (takeHead s)

/-- TRANSMIT_START (R148). -/
def execTransmitStart (s : State) : Host.Outcome State Fault Refusal :=
  .next (startSending s)

/-- TRANSMIT_DONE (R148, R159). -/
def execTransmitDone (s : State) : Host.Outcome State Fault Refusal :=
  .next (finishSending s)

/-- KEEPALIVE (R157). -/
def execKeepalive (tag : Byte) (s : State) : Host.Outcome State Fault Refusal :=
  .next (request tag .keepalive s)

/-- KEEPALIVE_CLOSE_TIME (R157). -/
def execKeepaliveCloseTime (s : State) : Host.Outcome State Fault Refusal :=
  .next (closeTimePassed s)

/-- FLAG_TAKE (R154). -/
def execFlagTake (tag : Byte) (flags : BitVec 32) (s : State) : Host.Outcome State Fault Refusal :=
  .next (request tag (.flagTake flags) s)

end Sys2Proof.Machine
end

