-- ==== Sys2Proof/Machine/NodeCommands.lean ====
section
/-! DEFINITION. The NODE commands (R31). -/

namespace Sys2Proof.Machine

/-- NODE_ENABLE (R31). -/
def execNodeEnable (tag entry : Byte) (s : State) : Host.Outcome State Fault Refusal :=
  .next (request tag (.node entry false) s)

/-- NODE_DISABLE (R31). -/
def execNodeDisable (tag entry : Byte) (s : State) : Host.Outcome State Fault Refusal :=
  .next (request tag (.node entry true) s)

end Sys2Proof.Machine
end

