-- ==== Sys2Proof/Machine/ReadoutCommands.lean ====
section
/-! DEFINITION. The STATUS commands (R20, R44, R58, R91, R108, R128, R145, R150). -/

namespace Sys2Proof.Machine

/-- STATUS_SUMMARY (R150). -/
def execStatusSummary (tag part : Byte) (s : State) : Host.Outcome State Fault Refusal :=
  .next (request tag (.status .summary part) s)

/-- STATUS_NODE (R44). -/
def execStatusNode (tag entry : Byte) (s : State) : Host.Outcome State Fault Refusal :=
  .next (request tag (.status .node entry) s)

/-- STATUS_ZONE (R91). -/
def execStatusZone (tag zone : Byte) (s : State) : Host.Outcome State Fault Refusal :=
  .next (request tag (.status .zone zone) s)

/-- STATUS_CAPACITY (R58). -/
def execStatusCapacity (tag part : Byte) (s : State) : Host.Outcome State Fault Refusal :=
  .next (request tag (.status .capacity part) s)

/-- STATUS_RIDE (R128). -/
def execStatusRide (tag part : Byte) (s : State) : Host.Outcome State Fault Refusal :=
  .next (request tag (.status .ride part) s)

/-- STATUS_LEAK (R145). -/
def execStatusLeak (tag part : Byte) (s : State) : Host.Outcome State Fault Refusal :=
  .next (request tag (.status .leak part) s)

/-- STATUS_SEQUENCER (R108). -/
def execStatusSequencer (tag part : Byte) (s : State) : Host.Outcome State Fault Refusal :=
  .next (request tag (.status .sequencer part) s)

/-- STATUS_SEGMENT (R20). -/
def execStatusSegment (tag segment : Byte) (s : State) : Host.Outcome State Fault Refusal :=
  .next (request tag (.status .segment segment) s)

/-- STATUS_QUEUES (R91). -/
def execStatusQueues (tag part : Byte) (s : State) : Host.Outcome State Fault Refusal :=
  .next (request tag (.status .queues part) s)

end Sys2Proof.Machine
end

