-- ==== Sys2Proof/Machine/RelayCommands.lean ====
section
/-! DEFINITION. The commands of the relay (R151 to R153). -/

namespace Sys2Proof.Machine

/-- RELAY_POLL (R151, R152). -/
def execRelayPoll (tag dest : Byte) (payload : List Byte) (s : State) :
    Host.Outcome State Fault Refusal :=
  .next (relayArrives (relayFrame .poll tag dest payload) s)

/-- RELAY_ITEM_READ (R151, R152). -/
def execRelayItemRead (tag dest : Byte) (payload : List Byte) (s : State) :
    Host.Outcome State Fault Refusal :=
  .next (relayArrives (relayFrame .itemRead tag dest payload) s)

/-- RELAY_ITEM_WRITE (R151, R152). -/
def execRelayItemWrite (tag dest : Byte) (payload : List Byte) (s : State) :
    Host.Outcome State Fault Refusal :=
  .next (relayArrives (relayFrame .itemWrite tag dest payload) s)

/-- RELAY_FEED_SET (R151, R152). -/
def execRelayFeedSet (tag dest : Byte) (payload : List Byte) (s : State) :
    Host.Outcome State Fault Refusal :=
  .next (relayArrives (relayFrame .feedSet tag dest payload) s)

/-- RELAY_TIMER_EXPIRY (R153). -/
def execRelayTimerExpiry (slot : Fin 8) (s : State) : Host.Outcome State Fault Refusal :=
  .next (match slotAt s slot with
    | none => s
    | some x => onExpiry x.timer (relayTimedOut slot) s)

/-- RELAY_ANSWER_PLACED (R153). -/
def execRelayAnswerPlaced (s : State) : Host.Outcome State Fault Refusal :=
  .next (placeAnswer s)

end Sys2Proof.Machine
end

