-- ==== Sys2Proof/Machine/ResetCommands.lean ====
section
/-! DEFINITION. The commands of the resets (R159, R168). -/

namespace Sys2Proof.Machine

/-- POWER_ON_RESET (R168): the supply or RESETn. -/
def execPowerOnReset (s : State) : Host.Outcome State Fault Refusal :=
  .next (coldReset .powerOn s)

/-- RESET_HARD (R159): a RESET HARD request. -/
def execResetHard (tag : Byte) (s : State) : Host.Outcome State Fault Refusal :=
  .next (request tag (.reset true) s)

/-- RESET_SOFT (R159): a RESET SOFT request. -/
def execResetSoft (tag : Byte) (s : State) : Host.Outcome State Fault Refusal :=
  .next (request tag (.reset false) s)

/-- HARD_RESET (R159): the reset that a RESET HARD asked for, once its response has been sent. Nothing
where it is not due (log entry 9). -/
def execHardReset (s : State) : Host.Outcome State Fault Refusal :=
  .next (if s.port.reset == .due .hard then coldReset .hard s else s)

/-- SOFT_RESET (R159): the reset that a RESET SOFT asked for, once its response has been sent. Nothing
where it is not due (log entry 9). -/
def execSoftReset (s : State) : Host.Outcome State Fault Refusal :=
  .next (if s.port.reset == .due .soft then warmReset s else s)

end Sys2Proof.Machine
end

