-- ==== Sys2Proof/Machine/RideCommands.lean ====
section
/-! DEFINITION. The commands of the Ride-Through Unit (R113 to R124). -/

namespace Sys2Proof.Machine

/-- RIDE_RELEASE (R118). -/
def execRideRelease (tag : Byte) (s : State) : Host.Outcome State Fault Refusal :=
  .next (request tag .rideRelease s)

/-- CONFIRM_TIMER_EXPIRY (R113). -/
def execConfirmTimerExpiry (s : State) : Host.Outcome State Fault Refusal :=
  .next (onExpiry s.ride.confirm confirmExpired s)

/-- SETTLE_TIMER_EXPIRY (R115). -/
def execSettleTimerExpiry (s : State) : Host.Outcome State Fault Refusal :=
  .next (onExpiry s.ride.settle settleExpired s)

/-- RECOMPUTE_TIMER_EXPIRY (R121). -/
def execRecomputeTimerExpiry (s : State) : Host.Outcome State Fault Refusal :=
  .next (onExpiry s.ride.recompute recomputeExpired s)

/-- PLAN_SHED_COMPLETION (R124). -/
def execPlanShedCompletion (s : State) : Host.Outcome State Fault Refusal :=
  .next (onDelivery s.mail.planShedDone (fun x m => { m with planShedDone := x }) planShedDone s)

/-- EPISODE_WINDOW_EXPIRY (R117). -/
def execEpisodeWindowExpiry (s : State) : Host.Outcome State Fault Refusal :=
  .next (onExpiry s.ride.window windowExpired s)

end Sys2Proof.Machine
end

