-- ==== Sys2Proof/Machine/SegmentCommands.lean ====
section
/-! DEFINITION. The commands of the shelf segments (R8, R9, R13). -/

namespace Sys2Proof.Machine

/-- POLL_TIMER_EXPIRY (R13). -/
def execPollTimerExpiry (segment : Fin 4) (s : State) : Host.Outcome State Fault Refusal :=
  .next (onExpiry (segAt s segment).pollTimer (pollExpired segment) s)

/-- SEND_COMPLETE (R8). -/
def execSendComplete (segment : Fin 4) (s : State) : Host.Outcome State Fault Refusal :=
  .next (sendCompleted segment s)

/-- READBACK_MISMATCH (R8). -/
def execReadbackMismatch (segment : Fin 4) (index : Byte) (s : State) :
    Host.Outcome State Fault Refusal :=
  .next (readbackDiffers segment index s)

/-- REPLY_FIRST_BYTE (R9). -/
def execReplyFirstByte (segment : Fin 4) (s : State) : Host.Outcome State Fault Refusal :=
  .next (firstByteHeard segment s)

/-- REPLY_WINDOW_EXPIRY (R9). -/
def execReplyWindowExpiry (segment : Fin 4) (s : State) : Host.Outcome State Fault Refusal :=
  .next (match (segAt s segment).current with
    | none => s
    | some c => onExpiry c.timer (windowPassed segment) s)

/-- REPLY_COMPLETE (R9). -/
def execReplyComplete (segment : Fin 4) (bytes : List Byte) (s : State) :
    Host.Outcome State Fault Refusal :=
  .next (replyArrived segment bytes s)

/-- REPLY_SILENCE (R9). -/
def execReplySilence (segment : Fin 4) (s : State) : Host.Outcome State Fault Refusal :=
  .next (replyBroken segment s)

end Sys2Proof.Machine
end

