-- ==== Sys2Proof/Machine/SequencerCommands.lean ====
section
/-! DEFINITION. The commands of the Sequencer (R95 to R106). -/

namespace Sys2Proof.Machine

/-- SEQ_RUN (R102). -/
def execSeqRun (tag start count : Byte) (s : State) : Host.Outcome State Fault Refusal :=
  .next (request tag (.seqRun start count) s)

/-- SEQ_STOP (R103). -/
def execSeqStop (tag : Byte) (s : State) : Host.Outcome State Fault Refusal :=
  .next (request tag .seqStop s)

/-- SEQ_ZONE_ANSWER (R96). -/
def execSeqZoneAnswer (s : State) : Host.Outcome State Fault Refusal :=
  .next (onDelivery s.mail.seqAnswer (fun x m => { m with seqAnswer := x }) takeAnswer s)

/-- ZONE_STATE_DELIVERY (R97). -/
def execZoneStateDelivery (s : State) : Host.Outcome State Fault Refusal :=
  .next (onDelivery s.mail.zoneToSeq (fun x m => { m with zoneToSeq := x }) takeZoneNews s)

/-- EPO_FAIL_NOTICE (R105). -/
def execEpoFailNotice (s : State) : Host.Outcome State Fault Refusal :=
  .next (if s.mail.epoFail = 0 then s
    else seqTakeEpo (modMail (fun m => { m with epoFail := m.epoFail - 1 }) s))

/-- STEP_TIMER_EXPIRY (R95, R98). -/
def execStepTimerExpiry (s : State) : Host.Outcome State Fault Refusal :=
  .next (onExpiry s.seq.timer stepTimedOut s)

/-- AUTOSTART (R106): the Sequencer takes a report of a completed first scan, and makes its test of the
start condition (log entry 21). -/
def execAutostart (s : State) : Host.Outcome State Fault Refusal :=
  .next (if s.mail.firstScans = 0 then s
    else tryAutostart (modMail (fun m => { m with firstScans := m.firstScans - 1 }) s))

/-- SEQUENCER_RIDE_NOTICE (R104). -/
def execSequencerRideNotice (s : State) : Host.Outcome State Fault Refusal :=
  .next (onDelivery s.mail.rideToSeq (fun x m => { m with rideToSeq := x }) seqTakeRide s)

/-- ENERGY_FIGURE_DELIVERY (R79, R100), at the receiver named. -/
def execEnergyFigureDelivery (receiver : Receiver) (s : State) : Host.Outcome State Fault Refusal :=
  .next (match receiver with
    | .zoneController =>
      onDelivery s.mail.energyToZone (fun x m => { m with energyToZone := x }) takeEnergyNews s
    | .sequencer =>
      onDelivery s.mail.energyToSeq (fun x m => { m with energyToSeq := x }) seqTakeEnergy s)

end Sys2Proof.Machine
end

