-- ==== Sys2Proof/Machine/TableCommands.lean ====
section
/-! DEFINITION. The commands of the tables and the stored image (R161 to R167). -/

namespace Sys2Proof.Machine

/-- TABLE_LOAD (R161). -/
def execTableLoad (tag : Byte) (table : TableId) (start count : Byte) (s : State) :
    Host.Outcome State Fault Refusal :=
  .next (request tag (.tableLoad table start count) s)

/-- TABLE_DATA (R162). -/
def execTableData (tag : Byte) (payload : List Byte) (s : State) :
    Host.Outcome State Fault Refusal :=
  .next (request tag (.tableData payload) s)

/-- TABLE_READ (R165). -/
def execTableRead (tag : Byte) (table : TableId) (start count : Byte) (s : State) :
    Host.Outcome State Fault Refusal :=
  .next (request tag (.tableRead table start count) s)

/-- LOAD_WINDOW_EXPIRY (R163). -/
def execLoadWindowExpiry (s : State) : Host.Outcome State Fault Refusal :=
  .next (onExpiry s.loader.timer loadStalled s)

/-- IMAGE_SAVE (R166). -/
def execImageSave (tag : Byte) (s : State) : Host.Outcome State Fault Refusal :=
  .next (request tag .imageSave s)

/-- IMAGE_SAVE_COMPLETE (R166). -/
def execImageSaveComplete (crcMatches : Bool) (s : State) : Host.Outcome State Fault Refusal :=
  .next (imageSaved crcMatches s)

/-- IMAGE_ERASE (R167). -/
def execImageErase (tag : Byte) (s : State) : Host.Outcome State Fault Refusal :=
  .next (request tag .imageErase s)

end Sys2Proof.Machine
end

