-- ==== Sys2Proof/Machine/ZoneCommands.lean ====
section
/-! DEFINITION. The commands of the Zone Controller: its requests, timers and deliveries
(R71, R72, R75 to R77, R79, R80, R83 to R85). -/

namespace Sys2Proof.Machine

/-- R71: the inrush timer of an INRUSH zone expires. -/
def inrushExpired (z : Nat) (s : State) : State :=
  if zoneIs s .inrush z then failAttempt z .window s else s

/-- R72: the retry timer of a zone expires. -/
def retryExpired (z : Nat) (s : State) : State :=
  runArbiter (modZone z (fun r => { r with retry := .stopped }) s)

/-- R75: a capacity shed request is carried out, and its completion sent. -/
def takeCapacityShed (zones : List Nat) (s : State) : State :=
  match shedList zones s with
  | (s, done) => modMail (fun m => { m with capShedDone := m.capShedDone ++ [done] }) s

/-- R75: a plan shed request is carried out, and its completion sent. -/
def takePlanShed (zones : List Nat) (s : State) : State :=
  match shedList zones s with
  | (s, done) => modMail (fun m => { m with planShedDone := m.planShedDone ++ [done] }) s

/-- R85: a Sequencer request is taken and answered. -/
def answerSequencer (ask : SeqAsk) (s : State) : State :=
  match seqQueueRequest ask.zone s with
  | (answer, s) => modMail (fun m => { m with seqAnswer := m.seqAnswer ++ [⟨ask.stepInst, answer⟩] }) s

/-- The INRUSH shed request of R114, which is the delivery of BRIDGING. -/
def isBridging (x : RideNews) : Bool := x == .state .bridging

/-- The list without its first member that meets `p`. -/
def dropFirst {α : Type} (p : α → Bool) : List α → List α
  | [] => []
  | x :: rest => if p x then rest else x :: dropFirst p rest

/-- R76: the request to shed every INRUSH zone is taken, where it is the oldest change of state in
flight (log entry 32). -/
def takeInrushShed (s : State) : State :=
  match s.mail.rideToZone.find? (fun x => !isConserve x) with
  | some (.state .bridging) =>
    takeBridging (modMail (fun m => { m with rideToZone := dropFirst isBridging m.rideToZone }) s)
  | _ => s

/-- R79: the oldest ride-through delivery that is not the INRUSH shed request, nor a change of state
behind it, is taken. -/
def takeRideDelivery (s : State) : State :=
  match s.mail.rideToZone with
  | [] => s
  | .state .bridging :: rest =>
    match rest.find? isConserve with
    | none => s
    | some news =>
      takeRideNews (modMail (fun m => { m with
        rideToZone := .state .bridging :: dropFirst isConserve rest }) s) news
  | news :: rest => takeRideNews (modMail (fun m => { m with rideToZone := rest }) s) news

/-- ZONE_ON (R84). -/
def execZoneOn (tag zone : Byte) (s : State) : Host.Outcome State Fault Refusal :=
  .next (request tag (.zone zone .on) s)

/-- ZONE_OFF (R84). -/
def execZoneOff (tag zone : Byte) (s : State) : Host.Outcome State Fault Refusal :=
  .next (request tag (.zone zone .off) s)

/-- ZONE_RESET (R84). -/
def execZoneReset (tag zone : Byte) (s : State) : Host.Outcome State Fault Refusal :=
  .next (request tag (.zone zone .reset) s)

/-- EPO_CLEAR (R83). -/
def execEpoClear (tag : Byte) (s : State) : Host.Outcome State Fault Refusal :=
  .next (request tag .epoClear s)

/-- INRUSH_TIMER_EXPIRY (R71). -/
def execInrushTimerExpiry (zone : Fin 32) (s : State) : Host.Outcome State Fault Refusal :=
  .next (onExpiry (zoneAt s zone).inrush (inrushExpired zone) s)

/-- RETRY_TIMER_EXPIRY (R72). -/
def execRetryTimerExpiry (zone : Fin 32) (s : State) : Host.Outcome State Fault Refusal :=
  .next (onExpiry (zoneAt s zone).retry (retryExpired zone) s)

/-- CAPACITY_SHED_TAKEN (R75). -/
def execCapacityShedTaken (s : State) : Host.Outcome State Fault Refusal :=
  .next (onDelivery s.mail.capShed (fun x m => { m with capShed := x }) takeCapacityShed s)

/-- BRIDGING_INRUSH_SHED (R76). -/
def execBridgingInrushShed (s : State) : Host.Outcome State Fault Refusal :=
  .next (takeInrushShed s)

/-- PLAN_SHED_TAKEN (R75, R124). -/
def execPlanShedTaken (s : State) : Host.Outcome State Fault Refusal :=
  .next (onDelivery s.mail.planShed (fun x m => { m with planShed := x }) takePlanShed s)

/-- LEAK_GROUP_DELIVERY (R80, R81). -/
def execLeakGroupDelivery (s : State) : Host.Outcome State Fault Refusal :=
  .next (onDelivery s.mail.leakToZone (fun x m => { m with leakToZone := x })
    (fun news s => takeGroupNews s news) s)

/-- LINK_STATE_DELIVERY (R77). -/
def execLinkStateDelivery (s : State) : Host.Outcome State Fault Refusal :=
  .next (onDelivery s.mail.linkToZone (fun x m => { m with linkToZone := x }) takeLinkNews s)

/-- RIDE_DELIVERY_ZONE (R66, R79). -/
def execRideDeliveryZone (s : State) : Host.Outcome State Fault Refusal :=
  .next (takeRideDelivery s)

/-- SEQ_ZONE_QUEUE_REQUEST (R85). -/
def execSeqZoneQueueRequest (s : State) : Host.Outcome State Fault Refusal :=
  .next (onDelivery s.mail.seqAsk (fun x m => { m with seqAsk := x }) answerSequencer s)

end Sys2Proof.Machine
end

