-- ==== Sys2Proof/Machine/Dispatch.lean ====
section
/-! DEFINITION. The dispatch: one arm for each command. -/

namespace Sys2Proof.Machine

/-- What a command does to everything but the queue. -/
def exec (i : Instr) (s : State) : Host.Outcome State Fault Refusal :=
  match i with
  | .powerOnReset => Sys2Proof.Machine.execPowerOnReset s
  | .resetHard tag => Sys2Proof.Machine.execResetHard tag s
  | .resetSoft tag => Sys2Proof.Machine.execResetSoft tag s
  | .hardReset => Sys2Proof.Machine.execHardReset s
  | .softReset => Sys2Proof.Machine.execSoftReset s
  | .upstreamFrame bytes => Sys2Proof.Machine.execUpstreamFrame bytes s
  | .upstreamByteTimeout => Sys2Proof.Machine.execUpstreamByteTimeout s
  | .rxFrameTaken => Sys2Proof.Machine.execRxFrameTaken s
  | .transmitStart => Sys2Proof.Machine.execTransmitStart s
  | .transmitDone => Sys2Proof.Machine.execTransmitDone s
  | .keepalive tag => Sys2Proof.Machine.execKeepalive tag s
  | .keepaliveCloseTime => Sys2Proof.Machine.execKeepaliveCloseTime s
  | .statusSummary tag part => Sys2Proof.Machine.execStatusSummary tag part s
  | .statusNode tag entry => Sys2Proof.Machine.execStatusNode tag entry s
  | .statusZone tag zone => Sys2Proof.Machine.execStatusZone tag zone s
  | .statusCapacity tag part => Sys2Proof.Machine.execStatusCapacity tag part s
  | .statusRide tag part => Sys2Proof.Machine.execStatusRide tag part s
  | .statusLeak tag part => Sys2Proof.Machine.execStatusLeak tag part s
  | .statusSequencer tag part => Sys2Proof.Machine.execStatusSequencer tag part s
  | .statusSegment tag segment => Sys2Proof.Machine.execStatusSegment tag segment s
  | .statusQueues tag part => Sys2Proof.Machine.execStatusQueues tag part s
  | .flagTake tag flags => Sys2Proof.Machine.execFlagTake tag flags s
  | .tableLoad tag table start count => Sys2Proof.Machine.execTableLoad tag table start count s
  | .tableData tag payload => Sys2Proof.Machine.execTableData tag payload s
  | .tableRead tag table start count => Sys2Proof.Machine.execTableRead tag table start count s
  | .zoneOn tag zone => Sys2Proof.Machine.execZoneOn tag zone s
  | .zoneOff tag zone => Sys2Proof.Machine.execZoneOff tag zone s
  | .zoneReset tag zone => Sys2Proof.Machine.execZoneReset tag zone s
  | .seqRun tag start count => Sys2Proof.Machine.execSeqRun tag start count s
  | .seqStop tag => Sys2Proof.Machine.execSeqStop tag s
  | .leakClear tag group => Sys2Proof.Machine.execLeakClear tag group s
  | .epoClear tag => Sys2Proof.Machine.execEpoClear tag s
  | .rideRelease tag => Sys2Proof.Machine.execRideRelease tag s
  | .nodeEnable tag entry => Sys2Proof.Machine.execNodeEnable tag entry s
  | .nodeDisable tag entry => Sys2Proof.Machine.execNodeDisable tag entry s
  | .imageSave tag => Sys2Proof.Machine.execImageSave tag s
  | .imageSaveComplete crcMatches => Sys2Proof.Machine.execImageSaveComplete crcMatches s
  | .imageErase tag => Sys2Proof.Machine.execImageErase tag s
  | .loadWindowExpiry => Sys2Proof.Machine.execLoadWindowExpiry s
  | .relayPoll tag dest payload => Sys2Proof.Machine.execRelayPoll tag dest payload s
  | .relayItemRead tag dest payload => Sys2Proof.Machine.execRelayItemRead tag dest payload s
  | .relayItemWrite tag dest payload => Sys2Proof.Machine.execRelayItemWrite tag dest payload s
  | .relayFeedSet tag dest payload => Sys2Proof.Machine.execRelayFeedSet tag dest payload s
  | .relayTimerExpiry slot => Sys2Proof.Machine.execRelayTimerExpiry slot s
  | .relayAnswerPlaced => Sys2Proof.Machine.execRelayAnswerPlaced s
  | .pollTimerExpiry segment => Sys2Proof.Machine.execPollTimerExpiry segment s
  | .sendComplete segment => Sys2Proof.Machine.execSendComplete segment s
  | .readbackMismatch segment index => Sys2Proof.Machine.execReadbackMismatch segment index s
  | .replyFirstByte segment => Sys2Proof.Machine.execReplyFirstByte segment s
  | .replyWindowExpiry segment => Sys2Proof.Machine.execReplyWindowExpiry segment s
  | .replyComplete segment bytes => Sys2Proof.Machine.execReplyComplete segment bytes s
  | .replySilence segment => Sys2Proof.Machine.execReplySilence segment s
  | .graceTimerExpiry => Sys2Proof.Machine.execGraceTimerExpiry s
  | .capacityShedTaken => Sys2Proof.Machine.execCapacityShedTaken s
  | .capacityShedCompletion => Sys2Proof.Machine.execCapacityShedCompletion s
  | .capacityDelivery receiver => Sys2Proof.Machine.execCapacityDelivery receiver s
  | .inrushTimerExpiry zone => Sys2Proof.Machine.execInrushTimerExpiry zone s
  | .retryTimerExpiry zone => Sys2Proof.Machine.execRetryTimerExpiry zone s
  | .seqZoneQueueRequest => Sys2Proof.Machine.execSeqZoneQueueRequest s
  | .seqZoneAnswer => Sys2Proof.Machine.execSeqZoneAnswer s
  | .zoneStateDelivery => Sys2Proof.Machine.execZoneStateDelivery s
  | .epoFailNotice => Sys2Proof.Machine.execEpoFailNotice s
  | .stepTimerExpiry => Sys2Proof.Machine.execStepTimerExpiry s
  | .autostart => Sys2Proof.Machine.execAutostart s
  | .sequencerRideNotice => Sys2Proof.Machine.execSequencerRideNotice s
  | .energyFigureDelivery receiver => Sys2Proof.Machine.execEnergyFigureDelivery receiver s
  | .capacityRideNotice => Sys2Proof.Machine.execCapacityRideNotice s
  | .rideDeliveryZone => Sys2Proof.Machine.execRideDeliveryZone s
  | .confirmTimerExpiry => Sys2Proof.Machine.execConfirmTimerExpiry s
  | .bridgingInrushShed => Sys2Proof.Machine.execBridgingInrushShed s
  | .settleTimerExpiry => Sys2Proof.Machine.execSettleTimerExpiry s
  | .recomputeTimerExpiry => Sys2Proof.Machine.execRecomputeTimerExpiry s
  | .planShedTaken => Sys2Proof.Machine.execPlanShedTaken s
  | .planShedCompletion => Sys2Proof.Machine.execPlanShedCompletion s
  | .episodeWindowExpiry => Sys2Proof.Machine.execEpisodeWindowExpiry s
  | .leakGroupDelivery => Sys2Proof.Machine.execLeakGroupDelivery s
  | .linkStateDelivery => Sys2Proof.Machine.execLinkStateDelivery s
  | .channelConfirmExpiry channel => Sys2Proof.Machine.execChannelConfirmExpiry channel s
  | .chatterTimerExpiry => Sys2Proof.Machine.execChatterTimerExpiry s
  | .beaconTimerExpiry => Sys2Proof.Machine.execBeaconTimerExpiry s
  | .lineSample line drive => Sys2Proof.Machine.execLineSample line drive s

end Sys2Proof.Machine
end

