-- ==== Sys2Proof/Safety.lean ====
section
/-! DEFINITION. The terms in which claims about the part are made: which blocks of the state a command
touches, what a served request leaves, and the laws that hold between two commands. -/

namespace Sys2Proof.Machine

/-! ## Frames -/

/-- The fields of `State`. -/
inductive Block where
  | now
  | free
  | pending
  | tables
  | image
  | loader
  | port
  | segs
  | nodes
  | cap
  | zc
  | seq
  | ride
  | leak
  | lines
  | mail
  deriving DecidableEq, Repr

/-- Two states agree on a block. -/
def SameBlock (s t : State) : Block → Prop
  | .now => t.now = s.now
  | .free => t.free = s.free
  | .pending => t.pending = s.pending
  | .tables => t.tables = s.tables
  | .image => t.image = s.image
  | .loader => t.loader = s.loader
  | .port => t.port = s.port
  | .segs => t.segs = s.segs
  | .nodes => t.nodes = s.nodes
  | .cap => t.cap = s.cap
  | .zc => t.zc = s.zc
  | .seq => t.seq = s.seq
  | .ride => t.ride = s.ride
  | .leak => t.leak = s.leak
  | .lines => t.lines = s.lines
  | .mail => t.mail = s.mail

/-- `t` differs from `s` at most in the blocks listed. -/
def Touches (blocks : List Block) (s t : State) : Prop := ∀ b, b ∉ blocks → SameBlock s t b

/-- The blocks that an operation of the Zone Controller may touch. -/
def zoneBlocks : List Block := [.port, .segs, .cap, .zc, .mail]

/-- The blocks that an inspected reply, a miss or a lost segment may touch. -/
def inspectBlocks : List Block := [.port, .segs, .nodes, .cap, .zc, .ride, .leak, .mail]

/-- The blocks that the owner of an entry in a TABLE_DATA may touch; the Sequencer's test of a changed
segment enable (R106) touches the Sequencer too. -/
def writeBlocks : List Block :=
  [.tables, .loader, .port, .segs, .nodes, .cap, .zc, .ride, .leak, .lines, .mail]

/-! ## Requests -/

/-- A request that arrives is taken at once: nothing waits in the receive buffer, the response queue
has a free place beside those that are kept, with no relay answer waiting for it (R147), and no reset
has been asked for (R159). -/
abbrev Ready (s : State) : Prop :=
  s.port.rx = [] ∧ s.port.responses.length + keptPlaces s < 8 ∧ s.port.answering = [] ∧
    s.port.reset = .none

/-- The response to a management request (R149, R173). -/
def answer (tag kind : Byte) (status : Status) (result : List Byte) : Response :=
  ⟨responseFrame supervisorByte kind tag status result, none⟩

/-- The state with one more response queued, and no place kept for one. -/
def respond (r : Response) (s : State) : State :=
  modPort (fun p => { p with responses := p.responses ++ [r], placeKept := false }) s

/-- The frame in which a request row, or a relay row, arrives from the RMC; none for the rows that do
not arrive on the upstream link. -/
def arrivingFrame : Instr → Option Frame
  | .resetHard tag => some (requestFrame tag (.reset true))
  | .resetSoft tag => some (requestFrame tag (.reset false))
  | .keepalive tag => some (requestFrame tag .keepalive)
  | .statusSummary tag n => some (requestFrame tag (.status .summary n))
  | .statusNode tag n => some (requestFrame tag (.status .node n))
  | .statusZone tag n => some (requestFrame tag (.status .zone n))
  | .statusCapacity tag n => some (requestFrame tag (.status .capacity n))
  | .statusRide tag n => some (requestFrame tag (.status .ride n))
  | .statusLeak tag n => some (requestFrame tag (.status .leak n))
  | .statusSequencer tag n => some (requestFrame tag (.status .sequencer n))
  | .statusSegment tag n => some (requestFrame tag (.status .segment n))
  | .statusQueues tag n => some (requestFrame tag (.status .queues n))
  | .flagTake tag flags => some (requestFrame tag (.flagTake flags))
  | .tableLoad tag table start count => some (requestFrame tag (.tableLoad table start count))
  | .tableData tag payload => some (requestFrame tag (.tableData payload))
  | .tableRead tag table start count => some (requestFrame tag (.tableRead table start count))
  | .zoneOn tag zone => some (requestFrame tag (.zone zone .on))
  | .zoneOff tag zone => some (requestFrame tag (.zone zone .off))
  | .zoneReset tag zone => some (requestFrame tag (.zone zone .reset))
  | .seqRun tag start count => some (requestFrame tag (.seqRun start count))
  | .seqStop tag => some (requestFrame tag .seqStop)
  | .leakClear tag group => some (requestFrame tag (.leakClear group))
  | .epoClear tag => some (requestFrame tag .epoClear)
  | .rideRelease tag => some (requestFrame tag .rideRelease)
  | .nodeEnable tag entry => some (requestFrame tag (.node entry false))
  | .nodeDisable tag entry => some (requestFrame tag (.node entry true))
  | .imageSave tag => some (requestFrame tag .imageSave)
  | .imageErase tag => some (requestFrame tag .imageErase)
  | .relayPoll tag dest payload => some (relayFrame .poll tag dest payload)
  | .relayItemRead tag dest payload => some (relayFrame .itemRead tag dest payload)
  | .relayItemWrite tag dest payload => some (relayFrame .itemWrite tag dest payload)
  | .relayFeedSet tag dest payload => some (relayFrame .feedSet tag dest payload)
  | .powerOnReset | .hardReset | .softReset | .upstreamFrame _ | .upstreamByteTimeout
  | .rxFrameTaken | .transmitStart | .transmitDone | .keepaliveCloseTime | .imageSaveComplete _
  | .loadWindowExpiry | .relayTimerExpiry _ | .relayAnswerPlaced | .pollTimerExpiry _
  | .sendComplete _ | .readbackMismatch _ _ | .replyFirstByte _ | .replyWindowExpiry _
  | .replyComplete _ _ | .replySilence _ | .graceTimerExpiry | .capacityShedTaken
  | .capacityShedCompletion | .capacityDelivery _ | .inrushTimerExpiry _ | .retryTimerExpiry _
  | .seqZoneQueueRequest | .seqZoneAnswer | .zoneStateDelivery | .epoFailNotice | .stepTimerExpiry
  | .autostart | .sequencerRideNotice | .energyFigureDelivery _ | .capacityRideNotice
  | .rideDeliveryZone | .confirmTimerExpiry | .bridgingInrushShed | .settleTimerExpiry
  | .recomputeTimerExpiry | .planShedTaken | .planShedCompletion | .episodeWindowExpiry
  | .leakGroupDelivery | .linkStateDelivery | .channelConfirmExpiry _ | .chatterTimerExpiry
  | .beaconTimerExpiry | .lineSample _ _ => none

/-- The response to a STATUS request for a subject (R149, R175). -/
def statusAnswer (tag : Byte) (subject : Subject) (n : Byte) (s : State) : Response :=
  answer tag 0x02#8 (statusRequest subject n.toNat s).1 (statusRequest subject n.toNat s).2

/-- The state at the expiry of a timer whose deadline is `d` (log entry 1). -/
def atTime (d : Nat) (s : State) : State := { s with now := max s.now d }

/-! ## Zones and exchanges -/

/-- The zone is INRUSH or ON. -/
def runs (s : State) (z : Nat) : Bool := countsAllotment (zoneAt s z).state

/-- The zone is QUEUED or INRUSH: it stands in the admission queue, or has just been granted. -/
abbrev Admitted (s : State) (z : Nat) : Prop :=
  (zoneAt s z).state = .queued ∨ (zoneAt s z).state = .inrush

/-- An exchange that meets `p` stands in the segment's queue or on its wire. -/
abbrev Carries (g : Segment) (p : Exchange → Bool) : Prop :=
  g.queue.any p = true ∨ g.current.toList.any (fun c => p c.ex) = true

/-- R53, R123: zones taken in order while the remainder is above the target: the shortest such run of
the order, or the whole order. -/
def WalksTo (order : List Nat) (load : Nat → Nat) (start target : Nat) (zones : List Nat)
    (remainder : Nat) : Prop :=
  ∃ n ≤ order.length, zones = order.take n ∧
    remainder = start - ((order.take n).map load).sum ∧
    (remainder ≤ target ∨ n = order.length) ∧
    ∀ m < n, target < start - ((order.take m).map load).sum

/-! ## The Upstream Port (R147, R148, R156) -/

/-- R147, R148: the buffer and the queues keep their bounds; R156: the ALERT line is driven from its
source's condition. -/
abbrev PortLaw (s : State) : Prop :=
  s.port.rx.length ≤ 4 ∧ s.port.responses.length ≤ 8 ∧ s.port.reports.length ≤ 16 ∧
    s.port.placeKept = false ∧ s.port.alert = alertCondition s

/-- R153: the slot is ANSWERING. -/
def holdsAnswer : Option RelaySlot → Bool
  | some slot =>
    match slot.state with
    | .waiting => false
    | .answering _ _ => true
    | .expired => false
  | none => false

/-- R147: every relay in WAITING has its place in the response queue: the frames queued and the kept
places are within its 8, and no answer waits for a place (log entry 49). -/
abbrev KeptPlaceLaw (s : State) : Prop :=
  s.port.responses.length + keptPlaces s ≤ 8 ∧ s.port.placeKept = false ∧ s.port.answering = [] ∧
    s.port.slots.toList.any holdsAnswer = false

/-! ## Segments (R1 to R6, R13) -/

/-- The class of an exchange is the class of what it sends (R2). -/
def classMatches (e : Exchange) : Bool :=
  match e.kind with
  | .poll => e.cls == .poll
  | .feedSet _ on => e.cls == if on then .control else .urgent
  | .relay _ _ _ => e.cls != .urgent

/-- Two queued exchanges that R4 and R5 keep from standing in one queue: two POLLs for an entry, or
two FEED_SETs for an (entry, output) pair. -/
def clashes (x y : Exchange) : Bool :=
  x.target == y.target &&
    match x.kind, y.kind with
    | .poll, .poll => true
    | .feedSet a _, .feedSet b _ => a == b
    | _, _ => false

/-- R2 to R6: what holds of a segment's queue. -/
abbrev QueueLaw (q : List Exchange) : Prop :=
  q.length ≤ 24 ∧ (q.filter (fun e => e.cls != .urgent)).length ≤ 20 ∧
    q.Pairwise (fun x y => classRank x.cls ≤ classRank y.cls) ∧
    q.Pairwise (fun x y => clashes x y = false) ∧ ∀ e ∈ q, classMatches e = true

/-- What holds of a segment in each of its states (R1, R6, R13, R16, R17). -/
abbrev SegmentStateLaw (g : Segment) : Prop :=
  (g.state = .exchange ↔ g.current.isSome = true) ∧ (g.state ≠ .exchange → g.queue = []) ∧
    (isRunning g.pollTimer = true ↔ g.state ≠ .disabled)

/-- The law of the four segments. -/
abbrev SegmentLaw (s : State) : Prop :=
  ∀ i < 4, QueueLaw (segAt s i).queue ∧ SegmentStateLaw (segAt s i) ∧
    ∀ c ∈ (segAt s i).current.toList, classMatches c.ex = true

/-- R151: the exchange is not a relay of a protected write. -/
def notProtected (e : Exchange) : Bool :=
  match e.kind with
  | .relay kind _ payload =>
    match relayKindOf kind with
    | some k => !protectedWrite k payload
    | none => true
  | .poll => true
  | .feedSet _ _ => true

/-- R151: no protected write from the RMC stands in a segment's queue or on its wire. -/
abbrev GateLaw (s : State) : Prop :=
  ∀ i < 4, (∀ e ∈ (segAt s i).queue, notProtected e = true) ∧
    ∀ c ∈ (segAt s i).current.toList, notProtected c.ex = true

/-- R1, R6, R8, R173: the exchange on the wire of segment `i`, as its arbiter has just taken it: its
frame goes to the node address byte of its target entry (section 11.2), from the supervisor address,
with the kind, tag and payload of what it sends, and its reply window is the segment's. -/
abbrev JustTaken (s : State) (i : Nat) (c : Current) : Prop :=
  c.phase = .sending ∧ c.timer = .stopped ∧ c.stale = false ∧ c.window = replyWindow s i ∧
    c.dest = BitVec.ofNat 8
      (128 + 32 * (nodeCfg s c.ex.target).segment + (nodeCfg s c.ex.target).address) ∧
    c.wire = frameBytes (match c.ex.kind with
      | .poll => ⟨c.dest, 0x00#8, 0x40#8, 0x00#8, []⟩
      | .feedSet output on => ⟨c.dest, 0x00#8, 0x43#8, 0x00#8,
          [BitVec.ofNat 8 output, if on then 0x01#8 else 0x00#8]⟩
      | .relay kind tag payload => ⟨c.dest, 0x00#8, kind, tag, payload⟩)

/-! ## Node records (R22, R25) -/

/-- R25: an entry in UNSEEN, LOST or DISABLED has cleared slots; R21, R31: it is DISABLED just when
its service field says so. -/
abbrev NodeLaw (s : State) : Prop :=
  ∀ k < 48, (nodeCfg s k).inUse = true →
    ((nodeAt s k).state = .disabled ↔ (nodeCfg s k).service = .disabled) ∧
    ((nodeAt s k).state = .unseen ∨ (nodeAt s k).state = .lost ∨ (nodeAt s k).state = .disabled →
      (nodeAt s k).slots = Vector.replicate 24 Slot.clear)

/-! ## The Capacity Unit (R49, R50, R52, R55) -/

/-- R49: committed power is the sum of the present allotments. R50: BALANCED and DEFICIT are the
comparison of the figures. R52, R55: the grace period and the short mark belong to DEFICIT. -/
abbrev CapacityLaw (s : State) : Prop :=
  s.cap.committed = committedSum s ∧
    (s.cap.state = .balanced → s.cap.committed ≤ s.cap.available) ∧
    (s.cap.state = .deficit → s.cap.available < s.cap.committed) ∧
    (s.cap.state = .deficit ↔ s.cap.grace ≠ .none) ∧
    (s.cap.grace = .running ↔ isRunning s.cap.graceTimer = true) ∧
    (s.cap.short = true → s.cap.state = .deficit)

/-! ## Zones (R61, R62, R78) -/

/-- R62, R78: the admission queue holds just the QUEUED zones, ordered by tier, and the re-admit list
just the SHED zones, each once. -/
abbrev ZoneListsLaw (s : State) : Prop :=
  s.zc.queue.Nodup ∧ s.zc.readmit.Nodup ∧ (∀ z ∈ s.zc.queue, z < 32) ∧ (∀ z ∈ s.zc.readmit, z < 32) ∧
    (∀ z < 32, z ∈ s.zc.queue ↔ (zoneAt s z).state = .queued) ∧
    (∀ z < 32, z ∈ s.zc.readmit ↔ (zoneAt s z).state = .shed) ∧
    s.zc.queue.Pairwise (fun x y => (zoneCfg s x).tier ≤ (zoneCfg s y).tier)

/-- R64: the six conditions of eligibility, as they are read. -/
abbrev MayBeGranted (s : State) (z : Nat) : Prop :=
  let k := (zoneCfg s z).feedEntry
  let g := segAt s (nodeCfg s k).segment
  ((nodeCfg s k).inUse = true ∧ (nodeCfg s k).kind = .feed ∧
      ((nodeAt s k).state = .active ∨ (nodeAt s k).state = .degraded)) ∧
    (∀ x < 8, groupHolds s x z = true → groupAt s x = .clear) ∧
    isRunning (zoneAt s z).retry = false ∧ (zoneAt s z).disablePending = false ∧
    (g.state ≠ .disabled ∧
      (g.queue.length < 20 ∨ g.queue.any (isFeedSet k (zoneCfg s z).output true) = true) ∧
      g.queue.any (isFeedSet k (zoneCfg s z).output false) = false) ∧
    ¬(s.zc.link = .autonomous ∧ s.zc.action = .shed ∧ s.zc.shedTier ≤ (zoneCfg s z).tier)

/-- R65: committed power, as the zones stand, leaves room for the zone's effective inrush. -/
abbrev LeavesRoom (s : State) (z : Nat) : Prop :=
  committedSum s + max (zoneCfg s z).inrush (zoneCfg s z).steady ≤ s.cap.available

/-- R65: a run of the arbiter ends here: admission is closed, no queued zone is eligible, or the first
eligible one does not fit. -/
abbrev ArbiterRests (s : State) : Prop :=
  admissionOpen s = false ∨ s.zc.queue.find? (eligible s) = none ∨
    ∃ z ∈ s.zc.queue, s.zc.queue.find? (eligible s) = some z ∧ ¬LeavesRoom s z

/-- The zone's output is switched off: a disable for it is owed, or its segment carries one (R68,
R69). -/
abbrev SwitchedOff (s : State) (z entry output : Nat) : Prop :=
  (zoneAt s z).disablePending = true ∨
    Carries (segAt s (nodeCfg s entry).segment) (isFeedSet entry output false)

/-- R69: zone `z` has left INRUSH or ON for the state `new`: its acknowledged flag and its inrush timer
are cleared, its output is switched off, and the rest of its record is kept; the disable may be owed. -/
abbrev LeftFor (s t : State) (z : Nat) (new : ZoneState) : Prop :=
  zoneAt t z = { zoneAt s z with
    state := new
    acked := false
    inrush := .stopped
    disablePending := (zoneAt t z).disablePending } ∧
  ((zoneAt s z).disablePending = true → (zoneAt t z).disablePending = true) ∧
  SwitchedOff t z (zoneCfg s z).feedEntry (zoneCfg s z).output

/-- R66, R75, R78: what a shed request for `zones` leaves while re-admission is closed: it sheds the zones
that run, and one that the arbiter grants to an earlier zone's slot before its turn; it passes over the
others; each zone it does not shed stays as it is, or is granted from QUEUED. -/
abbrev ShedWhileClosed (s t : State) (zones : List Nat) (done : ShedDone) : Prop :=
  done.shed.Sublist zones ∧ done.passed = zones.filter (fun z => !done.shed.contains z) ∧
    (∀ z ∈ zones, runs s z = true → z ∈ done.shed) ∧
    (∀ z ∈ done.shed, runs s z = true ∨ (zoneAt s z).state = .queued) ∧
    t.zc.readmit = s.zc.readmit ++ done.shed ∧
    t.zc.queue = s.zc.queue.filter (fun z => (zoneAt t z).state == .queued) ∧
    ∀ z < 32, if z ∈ done.shed then LeftFor s t z .shed
      else zoneAt t z = zoneAt s z ∨ ((zoneAt s z).state = .queued ∧
        zoneAt t z = { zoneAt s z with state := .inrush, acked := false })

/-- R74: the shed order, written out: the zones in INRUSH, then those in ON of tier 3, of tier 2 and of
tier 1, each by index descending. -/
abbrev shedSequence (s : State) : List Nat :=
  let down := (List.range 32).reverse
  let on (tier : Nat) := down.filter fun z =>
    decide ((zoneAt s z).state = .on ∧ (zoneCfg s z).tier = tier)
  down.filter (fun z => decide ((zoneAt s z).state = .inrush)) ++ on 3 ++ on 2 ++ on 1

/-- R126: a state that follows the changes of state in flight: RESTORING is only entered from BRIDGING,
and the last change names the state the sender stands in. -/
def rideFollows : RideState → List RideNews → RideState → Bool
  | x, [], y => x == y
  | x, .conserve _ :: rest, y => rideFollows x rest y
  | x, .state n :: rest, y => (n != .restoring || x == .bridging) && rideFollows n rest y

/-- R63: INRUSH within the slot count, and empty while BRIDGING or RESTORING is held. R71: the attempt
count stays below the lockout limit, and stands at it in LOCKOUT. R82: under the EPO latch no zone is
QUEUED, INRUSH, ON or SHED. The changes of state in flight follow each other (R126), and a lockout
limit is at least 1 (R59). -/
abbrev AdmissionLaw (s : State) : Prop :=
  inrushCount s ≤ slotCount s ∧
    (s.zc.ride = .bridging ∨ s.zc.ride = .restoring → inrushCount s = 0) ∧
    rideFollows s.zc.ride s.mail.rideToZone s.ride.state = true ∧
    (∀ z < 32, if (zoneAt s z).state = .lockout
      then (zoneAt s z).attempts = (zoneCfg s z).lockout
      else (zoneAt s z).attempts < (zoneCfg s z).lockout) ∧
    (∀ t ∈ s.tables :: s.image.tables :: s.image.saving.toList, ∀ z < 32,
      1 ≤ (nth t.zones z).lockout) ∧
    (s.zc.epoLatch = true → ∀ z < 32, (zoneAt s z).state = .off ∨ (zoneAt s z).state = .isolated ∨
      (zoneAt s z).state = .lockout)

/-- R142: a group state that follows the changes in flight: each starts where the one before it ended,
DRYING is entered only from ALARM, and no change in flight is a release. -/
def groupFollows : GroupState → List GroupNews → GroupState → Bool
  | x, [], y => x == y
  | x, n :: rest, y =>
    n.old == x && (n.new != .drying || n.old == .alarm) &&
      (!latchedGroup n.old || latchedGroup n.new) && groupFollows n.new rest y

/-- R80: no zone of a group held in ALARM or DRYING is QUEUED, INRUSH, ON or SHED; what the Zone
Controller holds of a group, with the changes in flight, is what the Leak Monitor holds (R142); a zone
that is not in use is OFF (R60). -/
abbrev IsolationLaw (s : State) : Prop :=
  (∀ z < 32, (zoneCfg s z).inUse = false → (zoneAt s z).state = .off) ∧
    (∀ g < 8, groupFollows (nth s.zc.groups g)
      (s.mail.leakToZone.filter (fun n => n.group == g)) (groupAt s g) = true) ∧
    ∀ z < 32, leakHeld s z = true → (zoneAt s z).state = .off ∨ (zoneAt s z).state = .isolated ∨
      (zoneAt s z).state = .lockout

/-! ## The Sequencer (R82, R94) -/

/-- R94: the pointer lies within the descriptor, which lies within the Sequence Table; only a RUNNING
program has a step phase or a step timer. R82, R105: under the EPO latch, with no failure notice in
flight, no program is RUNNING or HELD. -/
abbrev ProgramLaw (s : State) : Prop :=
  (∀ d ∈ s.seq.desc.toList, 1 ≤ d.count ∧ d.start + d.count ≤ 64 ∧ d.start ≤ s.seq.pointer ∧
      s.seq.pointer < d.start + d.count) ∧
    (s.seq.state ≠ .idle → s.seq.desc ≠ none) ∧
    (s.seq.state ≠ .running → s.seq.phase = .none ∧ s.seq.timer = .stopped) ∧
    (s.zc.epoLatch = true → s.mail.epoFail = 0 → s.seq.state ≠ .running ∧ s.seq.state ≠ .held)

/-- R95 to R101: a step that completes, or is skipped, in the handling that starts it. -/
abbrev EndsAtOnce (s : State) (x : StepCfg) : Prop :=
  match x.kind with
  | .zoneOn => 31 < x.operand
  | .waitOn => 31 < x.operand ∨ (zoneCfg s x.operand).inUse = false ∨
      (zoneAt s x.operand).state = .on ∨ (zoneAt s x.operand).state = .isolated ∨
      (zoneAt s x.operand).state = .lockout
  | .delay => x.operand = 0
  | .waitHeadroom => x.operand ≤ s.cap.available - s.cap.committed
  | .waitCharge => x.operand ≤ s.ride.energy
  | .mark => True

/-- R96, R97: a step that is skipped in the handling that starts it. -/
abbrev SkippedAtOnce (s : State) (x : StepCfg) : Prop :=
  match x.kind with
  | .zoneOn => 31 < x.operand
  | .waitOn => 31 < x.operand ∨ (zoneCfg s x.operand).inUse = false ∨
      (zoneAt s x.operand).state = .isolated ∨ (zoneAt s x.operand).state = .lockout
  | .delay => False
  | .waitHeadroom => False
  | .waitCharge => False
  | .mark => False

/-- R95 to R101: a program of `count` steps from `start` begins to run, in a state that held the
Sequencer `q` and the questions `asked` before: its first step, as the tables and the blocks of `t` give
it, starts by its kind, and a step that ends at once leaves the program further on, or DONE. -/
abbrev BeginsToRun (q : Sequencer) (asked : List SeqAsk) (start count : Nat) (t : State) : Prop :=
  let x := nth t.tables.steps start
  (¬EndsAtOnce t x → t.seq.state = .running ∧ t.seq.pointer = start ∧ t.seq.skips = 0 ∧
    t.seq.stepInst = q.stepInst + 1 ∧
    (x.kind = .zoneOn → t.seq.phase = .asking ∧ t.seq.timer = .stopped ∧
      t.mail.seqAsk = asked ++ [⟨q.stepInst + 1, x.operand⟩]) ∧
    (x.kind ≠ .zoneOn → t.seq.phase = .waiting ∧ t.mail.seqAsk = asked ∧
      t.seq.timer =
        (if x.kind = .delay then .running (t.now + x.operand)
         else if x.timeout = 0 then .stopped else .running (t.now + x.timeout)))) ∧
  (EndsAtOnce t x →
    (x.kind = .mark → inFlagSet t.port.flags .seqMark = true) ∧
    (SkippedAtOnce t x → inFlagSet t.port.flags .seqSkip = true) ∧
    (count ≠ 1 → start < t.seq.pointer) ∧
    (count = 1 → t.seq.state = .done ∧ t.seq.pointer = start ∧ t.seq.phase = .none ∧
      t.seq.timer = .stopped ∧ t.mail.seqAsk = asked ∧ inFlagSet t.port.flags .seqEnd = true ∧
      (SkippedAtOnce t x → t.seq.skips = 1) ∧ (¬SkippedAtOnce t x → t.seq.skips = 0)))

/-- R106: the start condition, as a Sequencer that stands in `q` tests it on the segments of `t`. -/
abbrev StartConditionMet (q : Sequencer) (t : State) : Prop :=
  q.autostart = .armed ∧ q.state = .idle ∧
    ∀ i < 4, segEnabled t i = true → (segAt t i).firstScan = .complete

/-- R106: what an autostart that comes due leaves in `t`, where the Sequencer stood in `q` and had the
questions `asked` in flight. What a program failed under the latch leaves as its descriptor is the
model's choice (log entry 46). -/
abbrev Autostarted (q : Sequencer) (asked : List SeqAsk) (start count : Nat) (t : State) : Prop :=
  t.seq.autostart = .started ∧ t.seq.desc = some ⟨start, count⟩ ∧ t.seq.rideNormal = q.rideNormal ∧
    (t.zc.epoLatch = true → t.seq.state = .failed ∧ t.seq.fail = some ⟨start, .epo⟩ ∧
      t.seq.pointer = start ∧ t.seq.stepInst = q.stepInst ∧ t.seq.phase = .none ∧
      t.seq.timer = .stopped ∧ t.seq.skips = 0 ∧ t.mail.seqAsk = asked ∧
      inFlagSet t.port.flags .seqEnd = true) ∧
    (t.zc.epoLatch = false → t.seq.fail = none ∧
      (q.rideNormal = false → t.seq.state = .held ∧ t.seq.pointer = start ∧ t.seq.skips = 0 ∧
        t.seq.stepInst = q.stepInst ∧ t.seq.phase = .none ∧ t.seq.timer = .stopped ∧
        t.mail.seqAsk = asked) ∧
      (q.rideNormal = true → (t.seq.state = .running ∨ t.seq.state = .done) ∧
        start ≤ t.seq.pointer ∧ BeginsToRun q asked start count t))

/-! ## Figures taken from the node records (R46, R47, R111, R119) -/

/-- The in-use entry of kind `k` stands in ACTIVE. -/
abbrev activeOf (s : State) (kind : NodeKind) (k : Nat) : Bool :=
  (nodeCfg s k).inUse && (nodeCfg s k).kind == kind && (nodeAt s k).state == .active

/-- R46, R47: available power is the sum of the contributions of the ACTIVE rectifiers whose input is
good, less the largest ones held in reserve. R111: the rectifiers counted as lost. R119: the copies of
the batteries and the figures they give. R111, R112: the indication, and the states it allows. -/
abbrev FiguresLaw (s : State) : Prop :=
  let contributing := (List.range 48).filter fun k =>
    activeOf s .rectifier k && reading (nodeAt s k) 0 0 == 0
  let active := s.ride.copies.toList.filter (fun c => c.active)
  s.cap.count = contributing.length ∧
    s.cap.available = availableOf (reserveCount s) (contributing.map fun k =>
      min (nodeCfg s k).rated (reading (nodeAt s k) 3 (nodeCfg s k).rated)) ∧
    (∀ k < 48, nth s.ride.lostInput k =
      (activeOf s .rectifier k && reading (nodeAt s k) 0 0 != 0)) ∧
    (∀ k < 48, nth s.ride.copies k =
      if activeOf s .battery k = true
      then ⟨true, reading (nodeAt s k) 6 0, reading (nodeAt s k) 7 0⟩ else ⟨false, 0, 0⟩) ∧
    s.ride.batteries = active.length ∧
    s.ride.eSum = (active.map (fun c => c.energy)).sum ∧
    s.ride.pCap = (active.map (fun c => c.limit)).sum ∧
    s.ride.energy = (s.ride.eSum - s.ride.eSum * reserveFraction s / 256) * efficiency s / 256 ∧
    s.ride.linePart = linePartOf s ∧ s.ride.rectPart = rectPartOf s ∧
    s.ride.indication = (s.ride.linePart || s.ride.rectPart) ∧
    (s.ride.indication = true ↔ s.ride.state = .suspect ∨ s.ride.state = .bridging)

/-! ## Plans and the entry into BRIDGING (R114, R122 to R125) -/

/-- R122 to R125: the figures of a plan evaluated in `s` with `elapsed` tenths of a second gone: the
load of the ON zones that no plan has taken yet, the time still needed, the target, and the shortest run
of the shed order that brings the load down to the target. -/
abbrev PlanFigures (s : State) (elapsed : Nat) (p : PlanRecord) : Prop :=
  p.elapsed = elapsed ∧ p.batteries = s.ride.batteries ∧ p.eSum = s.ride.eSum ∧
    p.eEff = s.ride.energy ∧ p.cap = s.ride.pCap ∧
    p.loadBefore = (((List.range 32).filter fun z =>
      (zoneAt s z).state == .on && !s.ride.pendingSet.contains z).map (zoneLoad s)).sum ∧
    p.holdBefore = holdUp s.ride.energy p.loadBefore ∧
    p.need = max (bridgeTime s - elapsed) (bridgeFloor s) ∧
    p.target = min s.ride.pCap (100 * s.ride.energy / p.need) ∧
    WalksTo ((onOfTier s 3 ++ onOfTier s 2 ++ onOfTier s 1).filter
        fun z => !s.ride.pendingSet.contains z)
      (zoneLoad s) p.loadBefore p.target p.shed p.loadAfter ∧
    p.holdAfter = holdUp s.ride.energy p.loadAfter ∧
    (p.outcome = .none ↔ p.loadBefore ≤ p.target) ∧
    (p.outcome = .exhausted ↔ p.target < p.loadAfter)

/-- R114 to R118, R121, R124, R126: what an entry into BRIDGING from `s` leaves in `t`, but for what
leaving NORMAL tells the Capacity Unit and the Sequencer. -/
abbrev EntersBridging (s t : State) : Prop :=
  t.ride.state = .bridging ∧ t.ride.bridgeLine = true ∧ t.leak.bridging = true ∧
    t.port.bridging = true ∧ t.ride.confirm = .stopped ∧ t.ride.settle = .stopped ∧
    t.ride.elapsed = .counting t.now ∧
    t.ride.recompute = .running (t.now + recomputePeriod s) ∧
    t.ride.episodes = min 255 (s.ride.episodes + 1) ∧
    t.ride.window = .running (t.now + 1000 * episodeWindow s) ∧
    t.ride.conserve = (s.ride.conserve || decide (episodeLimit s ≤ t.ride.episodes)) ∧
    t.mail.rideToZone = s.mail.rideToZone ++
      (if s.ride.conserve = false ∧ episodeLimit s ≤ t.ride.episodes then [.conserve true] else []) ++
      [.state .bridging] ∧
    inFlagSet t.port.flags .rideChange = true ∧
    ∃ p ∈ t.ride.lastPlan.toList, p.occasion = .entry ∧ p.episode = t.ride.episodes ∧
      PlanFigures s 0 p ∧ t.ride.short = (p.outcome == .exhausted) ∧
      t.ride.pendingSet = s.ride.pendingSet ++ p.shed ∧
      t.mail.planShed = s.mail.planShed ++ (if p.shed = [] then [] else [p.shed]) ∧
      (p.shed ≠ [] → inFlagSet t.port.flags .rideShed = true) ∧
      (p.outcome = .exhausted → inFlagSet t.port.flags .rideShort = true)

/-- R113, R115: what a return to NORMAL from `s` leaves in `t`. -/
abbrev EntersNormal (s t : State) : Prop :=
  t.ride.state = .normal ∧ t.ride.confirm = .stopped ∧ t.ride.settle = .stopped ∧
    t.mail = { s.mail with
      rideToZone := s.mail.rideToZone ++ [.state .normal]
      rideToCap := s.mail.rideToCap ++ [true]
      rideToSeq := s.mail.rideToSeq ++ [true] } ∧
    inFlagSet t.port.flags .rideChange = true

/-! ## Leak channels (R132 to R136) -/

/-- R133, R136: where an indication taken at time `now` leaves a channel in use. -/
def indicated (c : ChannelCfg) (now : Nat) (r : ChannelRun) (x : Indication) : ChannelRun :=
  match r.state, x with
  | .fault, _ => r
  | _, .opened => ⟨.fault, 0, .stopped⟩
  | .dry, .wet =>
    if c.confirm = 0 then ⟨.wet, r.glitches, .stopped⟩
    else ⟨.pending, r.glitches, .running (now + c.confirm)⟩
  | .dry, .dry => r
  | .pending, .wet => r
  | .pending, .dry =>
    if r.glitches + 1 = c.chatter then ⟨.fault, 0, .stopped⟩ else ⟨.dry, r.glitches + 1, .stopped⟩
  | .wet, .wet => r
  | .wet, .dry => ⟨.dry, r.glitches, .stopped⟩

/-- R138, R142, R144: each group is placed by the counts its channels now give, and a group that
changes is told to the Zone Controller and raises LEAK_ALARM. -/
abbrev GroupsFollow (s t : State) : Prop :=
  (∀ g < 8, groupAt t g = groupPlace (groupAt s g) (wetCount t g) (pendingCount t g) (voteOf s g)) ∧
    t.mail.leakToZone = s.mail.leakToZone ++
      ((List.range 8).filter fun g => groupAt t g != groupAt s g).map
        (fun g => ⟨g, groupAt s g, groupAt t g⟩) ∧
    ((∃ g < 8, groupAt t g ≠ groupAt s g) → inFlagSet t.port.flags .leakAlarm = true)

/-! ## The Ride-Through Unit and the Leak Monitor (R116, R126, R138, R143) -/

/-- R116: the BRIDGE line is asserted exactly while the Ride-Through Unit is in BRIDGING. -/
abbrev BridgeLaw (s : State) : Prop := s.ride.bridgeLine = (s.ride.state == .bridging)

/-- R126: the Leak Monitor and the Upstream Port hold of BRIDGING what the Ride-Through Unit's state
is (log entry 7). -/
abbrev BridgingToldLaw (s : State) : Prop :=
  s.leak.bridging = (s.ride.state == .bridging) ∧ s.port.bridging = (s.ride.state == .bridging)

/-- R138: every group stands where its counts place it; R143: the beacon has the pattern that the
groups choose; R156: the port knows whether a group is in ALARM. -/
abbrev LeakLaw (s : State) : Prop :=
  (∀ g < 8, groupPlace (groupAt s g) (wetCount s g) (pendingCount s g) (voteOf s g) = groupAt s g) ∧
    s.leak.pattern = beaconChoice s.leak ∧ s.port.leakAlarm = anyAlarm s

/-- R42, R136: the sense points of entry `k` no longer speak: the channels in use that follow them
stand in FAULT. -/
abbrev SourceLost (s t : State) (k : Nat) : Prop :=
  (∀ c < 32, channelAt t c =
      if 8 ≤ c ∧ (channelCfg s c).inUse = true ∧ (channelCfg s c).source = k ∧
        (channelAt s c).state ≠ .fault
      then ⟨.fault, 0, .stopped⟩ else channelAt s c) ∧
    ((∃ c < 32, (channelAt t c).state = .fault ∧ (channelAt s c).state ≠ .fault) →
      inFlagSet t.port.flags .leakFault = true) ∧
    (LeakLaw s → GroupsFollow s t)

/-! ## Table entries offered (R162) -/

/-- R162: the entries of a payload offered in turn while the count lasts: for each its index and
whether its owner took it, and the state after the last. -/
def offers (table : TableId) : Nat → Nat → List (List Byte) → State → List (Nat × Bool) × State
  | _, 0, _, s => ([], s)
  | _, _ + 1, [], s => ([], s)
  | k, n + 1, bytes :: rest, s =>
    let x := offerEntry table k bytes s
    let r := offers table (k + 1) n rest x.1
    ((k, x.2) :: r.1, r.2)

/-- The offers of a TABLE_DATA payload against a load record. -/
def offersFrom (r : LoadRecord) (payload : List Byte) (s : State) : List (Nat × Bool) × State :=
  offers r.table r.next r.remaining
    (entriesOf (entrySize r.table) (payload.length / entrySize r.table) payload) s

/-! ## Settings (R164) -/

/-- R164: the settings of one set of tables lie in their ranges, and the pairs hold. -/
abbrev SettingsFit (v : Vector Nat 41) : Prop :=
  (∀ k < 41, fitSetting k (nth v k) = nth v k) ∧ nth v 19 + nth v 20 ≤ 64 ∧ nth v 35 < nth v 36

/-- R164, R166: the live settings, the image's and those being saved all fit. -/
abbrev SettingsLaw (s : State) : Prop :=
  SettingsFit s.tables.settings ∧ SettingsFit s.image.tables.settings ∧
    ∀ t ∈ s.image.saving.toList, SettingsFit t.settings

end Sys2Proof.Machine
end

