-- ==== Sys2Proof/Certificates/Slice0/Obligations.lean ====
section
/-! DEFINITION. The statements for the provers. Each docstring names the rules of spec/ it rests on, or
the log entry of a model's choice. -/

open Sys2Proof Sys2Proof.Machine

/-! ## The queue of commands and the reset state -/

/-- A step runs the command at the front of the queue, with the queue's rest; with none waiting, 1 ms
passes (the model's choice, log entry 1). -/
def Obligations.StepTakesTheFrontCommand : Prop :=
  ∀ (s : State) (c : Instr) (rest : List Instr),
    (s.pending = c :: rest → step s = exec c { s with pending := rest }) ∧
    (s.pending = [] → step s = .next { s with now := s.now + 1 })

/-- The laws below hold in the state after reset. -/
def Obligations.LawsHoldAtReset : Prop :=
  PortLaw State.reset ∧ KeptPlaceLaw State.reset ∧
    SegmentLaw State.reset ∧ GateLaw State.reset ∧ NodeLaw State.reset ∧
    CapacityLaw State.reset ∧ ZoneListsLaw State.reset ∧ BridgeLaw State.reset ∧
    BridgingToldLaw State.reset ∧ LeakLaw State.reset ∧ SettingsLaw State.reset ∧ AdmissionLaw State.reset ∧
    IsolationLaw State.reset ∧ ProgramLaw State.reset ∧ FiguresLaw State.reset

/-! ## What every step keeps -/

/-- R147, R148: the receive buffer holds at most 4 frames, the response queue 8 and the report queue
16; R156: ALERT is asserted just while its source's condition holds. R126: what the Leak Monitor and the
Upstream Port hold of BRIDGING follows the Ride-Through Unit's state; that they are told in the handling
that changes it is the model's reading (log entry 7). R147: the place kept for the later answer of each
accepted relay stays within the response queue's 8; that a kept place is not free for another frame, so
that no answer waits for one, is the model's reading (log entry 49). -/
def Obligations.StepKeepsPortBoundsAndAlert : Prop :=
  (∀ s t : State, PortLaw s → BridgingToldLaw s → step s = .next t →
    PortLaw t ∧ BridgingToldLaw t) ∧
  ∀ s t : State, KeptPlaceLaw s → step s = .next t → KeptPlaceLaw t

/-- R2 to R6: a segment's queue stays in service order, within its bounds, with one POLL for an entry
and one FEED_SET for an output; a segment that is not in EXCHANGE has nothing queued; the poll timer
runs just while the segment is not DISABLED (R13, R16, R17). -/
def Obligations.StepKeepsSegmentQueues : Prop :=
  ∀ s t : State, SegmentLaw s → step s = .next t → SegmentLaw t

/-- R151: no step brings a protected write of the RMC into a segment's queue or onto its wire. -/
def Obligations.StepKeepsProtectedWritesOut : Prop :=
  ∀ s t : State, GateLaw s → step s = .next t → GateLaw t

/-- R25, R31: an entry in UNSEEN, LOST or DISABLED has cleared slots, and an entry is DISABLED just
when its service field says so. -/
def Obligations.StepKeepsNodeRecords : Prop :=
  ∀ s t : State, NodeLaw s → step s = .next t → NodeLaw t

/-- R49, R50, R52, R55: committed power is the sum of the allotments as the zones stand, BALANCED and
DEFICIT are the comparison of the figures, and the grace period belongs to DEFICIT (the
premise is the law of the zone lists). That the Capacity Unit takes a zone's change in the handling that
makes it is the model's reading (log entry 7). -/
def Obligations.StepKeepsCapacityLaw : Prop :=
  ∀ s t : State, ZoneListsLaw s → CapacityLaw s → step s = .next t → CapacityLaw t

/-- R62, R78: the admission queue holds each QUEUED zone once, in tier order, and nothing else; the
re-admit list holds each SHED zone once, and nothing else. -/
def Obligations.StepKeepsZoneLists : Prop :=
  ∀ s t : State, ZoneListsLaw s → step s = .next t → ZoneListsLaw t

/-- R116: the BRIDGE line is asserted exactly while the Ride-Through Unit is in BRIDGING: after a reset,
and after every step, be it an entry into BRIDGING, a departure from it, a reset or any other. -/
def Obligations.StepKeepsBridgeLine : Prop :=
  BridgeLaw State.reset ∧ ∀ s t : State, BridgeLaw s → step s = .next t → BridgeLaw t

/-- R138, R143: every leak group stands where its counts place it, and the beacon shows the pattern
its groups choose. -/
def Obligations.StepKeepsLeakGroups : Prop :=
  ∀ s t : State, LeakLaw s → step s = .next t → LeakLaw t

/-- R164: every setting, of the part and of the stored image, stays within its range and its pair. -/
def Obligations.StepKeepsSettingsInRange : Prop :=
  ∀ s t : State, SettingsLaw s → step s = .next t → SettingsLaw t

/-- R63: the zones in INRUSH stay within the slot count, and none is in INRUSH while the Zone Controller
holds BRIDGING or RESTORING; R71: an attempt count stays below the lockout limit outside LOCKOUT; R82:
under the EPO latch no zone is QUEUED, INRUSH, ON or SHED. That the changes of state in flight follow
each other (R126) is carried along; the premise is the law of the zone lists. Model's choices: log entry
7. -/
def Obligations.StepKeepsAdmissionLaw : Prop :=
  ∀ s t : State, ZoneListsLaw s → AdmissionLaw s → step s = .next t → AdmissionLaw t

/-- R80: no zone of a group that the Zone Controller holds in ALARM or DRYING is QUEUED, INRUSH or ON (nor
SHED). That the group states held and in flight end where the Leak Monitor stands (R142), and that a
zone not in use is OFF (R60), are carried along; the premise is the law of the zone lists. Model's
choices: log entries 7, 17, 30. -/
def Obligations.StepKeepsIsolation : Prop :=
  ∀ s t : State, ZoneListsLaw s → IsolationLaw s → step s = .next t → IsolationLaw t

/-- R94: the step pointer lies within the descriptor, and a step phase and a step timer belong to a
RUNNING program; R82, R105: under the EPO latch, once its failure notice is taken, no program is RUNNING
or HELD. The premise, the law of the settings, keeps the autostart descriptor within the table. Model's
choices: log entry 7. -/
def Obligations.StepKeepsTheProgramPointer : Prop :=
  ∀ s t : State, SettingsLaw s → ProgramLaw s → step s = .next t → ProgramLaw t

/-- R46, R47, R48: available power is the sum over the ACTIVE rectifiers with good input less the reserve,
as the node records stand; R111, R112: the lost inputs and the AC loss indication; R39, R40, R119: the
battery copies follow the node records, and the energy figure follows the copies. The premise is the law
of the settings. Model's choices: log entry 7. -/
def Obligations.StepKeepsNodeFigures : Prop :=
  ∀ s t : State, SettingsLaw s → FiguresLaw s → step s = .next t → FiguresLaw t

/-! ## Resets -/

/-- R168, R160 and the reset rule of each block (R19, R23, R45, R61, R94, R106, R109, R141, R170): a
power-on reset, or a hard reset that is due, takes the tables from a VALID image and starts every block
from them: the segments, nodes, zones, units, lines and the Leak Monitor with its settled channels, the
port with its flags, counts and notices, and nothing in flight but the group changes of R141 (the state
u). R106: a program armed by that reset starts at once where all four segments are disabled, from the
descriptor of settings that keep their law (R164), and otherwise waits; that this test comes last is the
model's choice (log entry 21). POWER_ON_RESET, HARD_RESET. Model's choices: log entries 2, 7, 21, 22,
33, 46, 67, 72. -/
def Obligations.ColdResetStartsEveryBlock : Prop :=
  ∀ (s : State) (c : Instr) (kind : ResetKind),
    (c = .powerOnReset ∧ kind = .powerOn) ∨
      (c = .hardReset ∧ kind = .hard ∧ s.port.reset = .due .hard) →
    let restored : Bool := s.image.status == .valid && imageCrc s.image.tables == s.image.crc
    ∃ u t, exec c s = .next t ∧
      (StartConditionMet u.seq u ↔
        autostartFlag u = true ∧ ∀ i < 4, segEnabled u i = false) ∧
      (¬StartConditionMet u.seq u → t = u) ∧
      (StartConditionMet u.seq u → Touches [.port, .seq, .mail] u t ∧
        t.mail = { u.mail with seqAsk := t.mail.seqAsk } ∧
        (SettingsLaw s → Autostarted u.seq u.mail.seqAsk (setting u 19) (setting u 20) t)) ∧
      u.now = s.now ∧ u.free = s.free ∧ u.pending = s.pending ∧
      u.tables = (if restored = true then s.image.tables else Tables.empty) ∧
      u.image.tables = s.image.tables ∧ u.image.saving = none ∧
      u.image.status =
        (if s.image.saving.isSome = true then .invalid
         else if s.image.status = .valid ∧ restored = false then .invalid
         else s.image.status) ∧
      u.loader = ⟨none, .stopped⟩ ∧
      (∀ i < 4, segAt u i =
        if segEnabled u i = true then Segment.idleAfterReset (s.now + pollPeriod u i)
        else { Segment.idleAfterReset 0 with state := .disabled, pollTimer := .stopped }) ∧
      (∀ k < 48, nodeAt u k =
        ⟨if (nodeCfg u k).inUse = true ∧ (nodeCfg u k).service = .disabled then .disabled else .unseen,
          0, Vector.replicate 24 Slot.clear⟩) ∧
      u.cap = Capacity.initial ∧ u.ride = Ride.initial ∧
      (∀ z < 32, zoneAt u z = { ZoneRun.off with adoptPending := (zoneCfg u z).inUse }) ∧
      u.zc = { ZoneCtl.initial with zones := u.zc.zones } ∧
      u.seq = { Sequencer.initial with
        autostart := if autostartFlag u = true then .armed else .none } ∧
      (∀ i < 11, lineAt u i = ⟨none, none,
        if (lineCfg u i).enable = true then .running (s.now + (lineCfg u i).interval)
        else .stopped⟩) ∧
      (∀ c < 32, channelAt u c =
        if (channelCfg u c).inUse = true ∧ speaks u c = false then ⟨.fault, 0, .stopped⟩
        else ⟨.dry, 0, .stopped⟩) ∧
      (∀ g < 8, groupAt u g = groupPlace .clear (wetCount u g) (pendingCount u g) (voteOf u g)) ∧
      u.leak.chatter = .running (s.now + chatterWindow u) ∧ u.leak.bridging = false ∧
      u.leak.pattern = beaconChoice u.leak ∧ u.leak.beaconLine = (u.leak.pattern != .dark) ∧
      u.leak.beaconTimer = (if toggleTime u.leak.pattern = 0 then .stopped
        else .running (s.now + toggleTime u.leak.pattern)) ∧
      u.mail = { Mail.empty with
        leakToZone := ((List.range 8).filter fun g => groupAt u g != .clear).map
          fun g => ⟨g, .clear, groupAt u g⟩ } ∧
      u.port = { Port.initial with
        flags := u.port.flags
        reports := u.port.reports
        noticeOrder := u.port.noticeOrder
        lost := u.port.lost
        leakAlarm := anyAlarm u
        alert := alertCondition u } ∧
      (∀ f : EventFlag, inFlagSet u.port.flags f = true ↔
        (f = .restart ∨ (f = .image ∧ restored = false) ∨ (f = .noticeLost ∧ u.port.lost ≠ 0) ∨
          (f = .leakFault ∧ ∃ c < 32, (channelCfg u c).inUse = true ∧ speaks u c = false) ∨
          (f = .leakAlarm ∧ ∃ g < 8, groupAt u g ≠ .clear))) ∧
      (inFlagSet u.port.flags .leakFault = false → inFlagSet u.port.flags .leakAlarm = false →
        u.port.reports =
          (if inFlagSet (noticeMask u) .restart = true
            then [noticeFrame 0 0 (be1 kind.ctorIdx ++ beBool restored)] else []) ++
          (if restored = false then
            [noticeFrame 5 1 [if s.image.status = .erased then 0x04#8 else 0x05#8]] else []) ∧
        u.port.noticeOrder = u.port.reports.length ∧ u.port.lost = 0)

/-- R159, R160, R109, R141, R166 and the reset rule of each block (R19, R23, R45, R61, R94, R170): a soft
reset that is due keeps the tables and settings, the episode count and CONSERVE, keeps a group that was
in ALARM or DRYING latched, abandons a save, and starts everything else afresh: the segments, nodes,
zones, units and lines, the leak channels settled again, the port with its flags, counts and notices,
and nothing in flight but the group changes of R141. HARD_RESET and SOFT_RESET do nothing where they are
not due (log entry 9). SOFT_RESET. Model's choices: log entries 2, 7, 9, 22, 33, 67, 72. -/
def Obligations.SoftResetKeepsTables : Prop :=
  ∀ s : State,
    (s.port.reset = .due .soft → ∃ t, exec .softReset s = .next t ∧
      t.now = s.now ∧ t.free = s.free ∧ t.pending = s.pending ∧ t.tables = s.tables ∧
      t.image = { s.image with
        status := if s.image.saving.isSome = true then .invalid else s.image.status
        saving := none } ∧
      t.loader = ⟨none, .stopped⟩ ∧
      (∀ i < 4, segAt t i =
        if segEnabled s i = true then Segment.idleAfterReset (s.now + pollPeriod s i)
        else { Segment.idleAfterReset 0 with state := .disabled, pollTimer := .stopped }) ∧
      (∀ k < 48, nodeAt t k =
        ⟨if (nodeCfg s k).inUse = true ∧ (nodeCfg s k).service = .disabled then .disabled else .unseen,
          0, Vector.replicate 24 Slot.clear⟩) ∧
      t.cap = Capacity.initial ∧
      t.ride = { Ride.initial with
        episodes := s.ride.episodes
        conserve := s.ride.conserve
        window := if s.ride.episodes = 0 then .stopped
          else .running (s.now + 1000 * episodeWindow s) } ∧
      (∀ z < 32, zoneAt t z = { ZoneRun.off with adoptPending := (zoneCfg s z).inUse }) ∧
      t.zc = { ZoneCtl.initial with
        zones := t.zc.zones, conserve := s.ride.conserve, groups := t.zc.groups } ∧
      (∀ g < 8, nth t.zc.groups g =
        if groupAt s g = .alarm ∨ groupAt s g = .drying then .drying else .clear) ∧
      t.seq = Sequencer.initial ∧
      (∀ i < 11, lineAt t i = ⟨none, none,
        if (lineCfg s i).enable = true then .running (s.now + (lineCfg s i).interval)
        else .stopped⟩) ∧
      (∀ c < 32, channelAt t c =
        if (channelCfg s c).inUse = true ∧ speaks t c = false then ⟨.fault, 0, .stopped⟩
        else ⟨.dry, 0, .stopped⟩) ∧
      (∀ g < 8, groupAt t g =
        groupPlace (nth t.zc.groups g) (wetCount t g) (pendingCount t g) (voteOf s g)) ∧
      t.leak.chatter = .running (s.now + chatterWindow s) ∧ t.leak.bridging = false ∧
      t.leak.pattern = beaconChoice t.leak ∧ t.leak.beaconLine = (t.leak.pattern != .dark) ∧
      t.leak.beaconTimer = (if toggleTime t.leak.pattern = 0 then .stopped
        else .running (s.now + toggleTime t.leak.pattern)) ∧
      t.mail = { Mail.empty with
        leakToZone := ((List.range 8).filter fun g => groupAt t g != nth t.zc.groups g).map
          fun g => ⟨g, nth t.zc.groups g, groupAt t g⟩ } ∧
      t.port = { Port.initial with
        flags := t.port.flags
        reports := t.port.reports
        noticeOrder := t.port.noticeOrder
        lost := t.port.lost
        leakAlarm := anyAlarm t
        alert := alertCondition t } ∧
      (∀ f : EventFlag, inFlagSet t.port.flags f = true ↔
        (f = .restart ∨ (f = .image ∧ s.image.saving.isSome = true) ∨
          (f = .noticeLost ∧ t.port.lost ≠ 0) ∨
          (f = .leakFault ∧ ∃ c < 32, (channelCfg s c).inUse = true ∧ speaks t c = false) ∨
          (f = .leakAlarm ∧ ∃ g < 8, groupAt t g ≠ nth t.zc.groups g))) ∧
      (inFlagSet t.port.flags .leakFault = false → inFlagSet t.port.flags .leakAlarm = false →
        t.port.reports =
          (if inFlagSet (noticeMask s) .restart = true then [noticeFrame 0 0 [0x02#8]] else []) ++
          (if s.image.saving.isSome = true ∧ inFlagSet (noticeMask s) .image = true then
            [noticeFrame 5 (if inFlagSet (noticeMask s) .restart = true then 1 else 0) [0x03#8]]
           else []) ∧
        t.port.noticeOrder = t.port.reports.length ∧ t.port.lost = 0)) ∧
    (s.port.reset ≠ .due .soft → exec .softReset s = .next s) ∧
    (s.port.reset ≠ .due .hard → exec .hardReset s = .next s)

/-! ## Receiving and sending -/

/-- R146, R147: a complete frame from the RMC joins the receive buffer, or is dropped with RX_OVERRUN
when it holds four; a misaddressed one is counted; bytes that are no frame of the envelope, and a
frame broken off for 10 ms, are counted as broken. A request or a relay that arrives when it cannot
be taken at once does what its frame does, and has no other effect (log entries 8 and 49). That a frame
with a wrong CRC is counted as broken alone, also where its source or destination is wrong, is the
model's choice (log entry 53). UPSTREAM_FRAME, UPSTREAM_BYTE_TIMEOUT, and every request and relay
row. -/
def Obligations.ReceivedFramesAreJudged : Prop :=
  (∀ (f : Frame) (s : State), f.payload.length ≤ 240 →
    exec (.upstreamFrame (frameBytes f)) s = .next (
      if f.src = rmcByte ∧ (f.dst = supervisorByte ∨ isNodeByte f.dst = true) then
        if s.port.rx.length < 4 then modPort (fun p => { p with rx := p.rx ++ [f] }) s
        else raiseFlag .rxOverrun [f.tag, f.kind] s
      else modPort (fun p => { p with misaddressed := min 65535 (p.misaddressed + 1) }) s)) ∧
  (∀ (bytes : List Byte) (s : State),
    (∀ f : Frame, f.payload.length ≤ 240 → frameBytes f ≠ bytes) →
    exec (.upstreamFrame bytes) s =
      .next (modPort (fun p => { p with broken := min 65535 (p.broken + 1) }) s)) ∧
  (∀ s : State, exec .upstreamByteTimeout s =
    .next (modPort (fun p => { p with broken := min 65535 (p.broken + 1) }) s)) ∧
  ∀ (c : Instr) (f : Frame) (s : State), arrivingFrame c = some f → f.payload.length ≤ 240 →
    (f.dst = supervisorByte ∨ isNodeByte f.dst = true) →
    (s.port.rx ≠ [] ∨ 8 ≤ s.port.responses.length + keptPlaces s ∨ s.port.answering ≠ [] ∨
      s.port.reset ≠ .none) →
    exec c s = .next (
      if s.port.rx.length < 4 then modPort (fun p => { p with rx := p.rx ++ [f] }) s
      else raiseFlag .rxOverrun [f.tag, f.kind] s)

/-- R147, R149, R174: the head of the receive buffer is served as the command whose frame it is, the
decoding being the inverse of section 11.3's encoding; a frame that decodes to no request is
answered MALFORMED with no effect; nothing is taken while R147 or R159 forbids it (a place kept for
another response is not free, log entry 49). That the
request's own row serves it in one step is the model's choice (log entry 8); so is that
RX_FRAME_TAKEN changes nothing on an empty buffer (log entry 9). The equality with the request's row
is stated for a buffer of that one frame; of a longer one, that its head is taken, and answered
where it is MALFORMED. RX_FRAME_TAKEN. -/
def Obligations.BufferedFrameIsServedAsItsCommand : Prop :=
  (∀ (c : Instr) (f : Frame) (s : State), arrivingFrame c = some f → f.payload.length ≤ 240 →
    (f.dst = supervisorByte ∨ isNodeByte f.dst = true) → s.port.rx = [f] →
    s.port.responses.length + keptPlaces s < 8 → s.port.answering = [] → s.port.reset = .none →
    exec .rxFrameTaken s = exec c (modPort (fun p => { p with rx := [] }) s)) ∧
  (∀ (f : Frame) (rest : List Frame) (s : State), s.port.rx = f :: rest →
    s.port.responses.length + keptPlaces s < 8 → s.port.answering = [] → s.port.reset = .none →
    (∃ t, exec .rxFrameTaken s = .next t ∧ t.port.rx = rest) ∧
    (f.dst = supervisorByte → parseRequest f.kind f.payload = none →
      exec .rxFrameTaken s = .next (modPort (fun p => { p with
        rx := rest
        responses := p.responses ++ [answer f.tag f.kind .malformed []] }) s))) ∧
  ∀ s : State,
    (s.port.rx = [] ∨ 8 ≤ s.port.responses.length + keptPlaces s ∨ s.port.answering ≠ [] ∨
      s.port.reset ≠ .none) →
    exec .rxFrameTaken s = .next s

/-- R148: the free transmitter takes the head of the response queue, else the head of the report
queue, and finishes the frame it is sending before it takes another. R159: a RESET request is answered
OK and its reset waits: from then on no frame is taken, and the end of the sending of that response
makes the reset due. TRANSMIT_START, TRANSMIT_DONE, RESET_HARD, RESET_SOFT. Model's choices: log entries
8, 9, 73. -/
def Obligations.ResponsesAreSentBeforeReports : Prop :=
  (∀ (s : State) (tag : Byte) (bytes : List Byte) (kind : ResetKind),
    (Ready s →
      exec (.resetHard tag) s = .next (modPort (fun p => { p with reset := .asked .hard })
        (respond ⟨responseFrame supervisorByte 0x10#8 tag .ok [], some .hard⟩ s)) ∧
      exec (.resetSoft tag) s = .next (modPort (fun p => { p with reset := .asked .soft })
        (respond ⟨responseFrame supervisorByte 0x10#8 tag .ok [], some .soft⟩ s))) ∧
    (s.port.reset ≠ .none → exec .rxFrameTaken s = .next s) ∧
    (s.port.sending = some ⟨bytes, some kind⟩ → exec .transmitDone s =
      .next (modPort (fun p => { p with sending := none, reset := .due kind }) s))) ∧
  (∀ (s : State) (x : Sending), s.port.sending = some x → exec .transmitStart s = .next s) ∧
  (∀ (s : State) (r : Response) (rest : List Response),
    s.port.sending = none → s.port.responses = r :: rest →
    exec .transmitStart s = .next (modPort (fun p => { p with
      responses := rest, sending := some ⟨frameBytes r.frame, r.reset⟩ }) s)) ∧
  (∀ (s : State) (f : Frame) (rest : List Frame),
    s.port.sending = none → s.port.responses = [] → s.port.reports = f :: rest →
    exec .transmitStart s = .next (modPort (fun p => { p with
      reports := rest, sending := some ⟨frameBytes f, none⟩ }) s)) ∧
  (∀ s : State, s.port.sending = none → s.port.responses = [] → s.port.reports = [] →
    exec .transmitStart s = .next s) ∧
  ∀ (s : State) (bytes : List Byte), s.port.sending = some ⟨bytes, none⟩ →
    exec .transmitDone s = .next (modPort (fun p => { p with sending := none }) s)

/-! ## Link supervision, flags and notices -/

/-- R157, R158: a keep-alive that is taken arms the supervision, or is counted as good, early or late;
the counts move the link between SUPERVISED and AUTONOMOUS, and every move is told to the Zone
Controller and raises LINK_CHANGE. The close time of the running window passes: a late error, which
restarts the window. KEEPALIVE, KEEPALIVE_CLOSE_TIME. Model's choices: log entries 1, 8, 9. -/
def Obligations.KeepaliveIsCounted : Prop :=
  (∀ (tag : Byte) (s : State), Ready s → ∃ t, exec (.keepalive tag) s = .next t ∧
    Touches [.port, .mail] s t ∧
    t.port.responses = s.port.responses ++ [answer tag 0x01#8 .ok
      (be1 t.port.link.ctorIdx ++ be1 t.port.errors ++ be1 t.port.goodRun)] ∧
    t.port.window = some ⟨s.now, openTime s, closeTime s⟩ ∧
    (t.port.link ≠ s.port.link → inFlagSet t.port.flags .linkChange = true ∧
      t.mail = { s.mail with
        linkToZone := s.mail.linkToZone ++ [⟨t.port.link, linkAction s, shedTier s⟩] }) ∧
    (t.port.link = s.port.link → t.port.flags = s.port.flags ∧ t.mail = s.mail) ∧
    (s.port.link = .unarmed → t.port.link = .supervised ∧ t.port.errors = 0 ∧ t.port.goodRun = 0) ∧
    ∀ w, s.port.window = some w →
      (s.port.link = .supervised →
        (w.openTime ≤ s.now - w.start ∧ s.now - w.start < w.closeTime →
          t.port.link = .supervised ∧ t.port.errors = s.port.errors - 1) ∧
        (s.now - w.start < w.openTime ∨ w.closeTime ≤ s.now - w.start →
          if errorThreshold s ≤ s.port.errors + 1 then
            t.port.link = .autonomous ∧ t.port.errors = 0 ∧ t.port.goodRun = 0
          else t.port.link = .supervised ∧ t.port.errors = s.port.errors + 1)) ∧
      (s.port.link = .autonomous →
        (w.openTime ≤ s.now - w.start ∧ s.now - w.start < w.closeTime →
          if 3 ≤ s.port.goodRun + 1 then
            t.port.link = .supervised ∧ t.port.errors = 0 ∧ t.port.goodRun = 0
          else t.port.link = .autonomous ∧ t.port.goodRun = s.port.goodRun + 1) ∧
        (s.now - w.start < w.openTime ∨ w.closeTime ≤ s.now - w.start →
          t.port.link = .autonomous ∧ t.port.goodRun = 0))) ∧
  ∀ (s : State),
    (s.port.window = none → exec .keepaliveCloseTime s = .next s) ∧
    ∀ w, s.port.window = some w → ∃ t, exec .keepaliveCloseTime s = .next t ∧
      Touches [.now, .port, .mail] s t ∧ t.now = max s.now (w.start + w.closeTime) ∧
      (s.port.link = .unarmed → t = atTime (w.start + w.closeTime) s) ∧
      (s.port.link ≠ .unarmed → t.port.window = some ⟨t.now, openTime s, closeTime s⟩) ∧
      (s.port.link = .supervised →
        if errorThreshold s ≤ s.port.errors + 1 then
          t.port.link = .autonomous ∧ t.port.errors = 0 ∧ t.port.goodRun = 0 ∧
            inFlagSet t.port.flags .linkChange = true ∧
            t.mail.linkToZone = s.mail.linkToZone ++ [⟨.autonomous, linkAction s, shedTier s⟩]
        else t.port.link = .supervised ∧ t.port.errors = s.port.errors + 1 ∧ t.mail = s.mail) ∧
      (s.port.link = .autonomous →
        t.port.link = .autonomous ∧ t.port.goodRun = 0 ∧ t.port.errors = s.port.errors ∧
          t.mail = s.mail)

/-- R154, R155: a raising of any flag but NOTICE_LOST sets its flag; under the notice mask it builds a
notice with the flag number, its place in the running order and the particulars, which joins the
report queue, or is dropped and counted with NOTICE_LOST where the queue is full, the notice of
NOTICE_LOST then being attempted and counted too; without the mask it sets the flag alone. R155:
NOTICE_LOST is raised by a dropped notice or report alone: the lost count rises by one, the flag is
set, and under the mask its notice, which carries the count, is attempted: the count returns to 0
where it joins, and rises by one more, without a further raising, where it finds the queue full.
R38, R148: a report joins the report queue, or is dropped so. R154, R156: a FLAG_TAKE reports the
named flags that are set, clears just those, and ALERT is driven again; a set that names a number
above 23 is answered RANGE with no effect. FLAG_TAKE, and UPSTREAM_FRAME for a raising of
RX_OVERRUN. Model's choices: log entry 8. -/
def Obligations.FlagsAreNoticedAndTaken : Prop :=
  (∀ (f : EventFlag) (particulars : List Byte) (s t : State), f ≠ .noticeLost →
    t = raiseFlag f particulars s →
    Touches [.port] s t ∧ t.port.alert = alertCondition t ∧
    (∀ g : EventFlag, inFlagSet t.port.flags g = (inFlagSet s.port.flags g || g == f ||
      (g == .noticeLost && inFlagSet (noticeMask s) f && decide (16 ≤ s.port.reports.length)))) ∧
    (inFlagSet (noticeMask s) f = false →
      t.port = { s.port with flags := t.port.flags, alert := t.port.alert }) ∧
    (inFlagSet (noticeMask s) f = true → s.port.reports.length < 16 →
      t.port = { s.port with
        flags := t.port.flags
        alert := t.port.alert
        noticeOrder := (s.port.noticeOrder + 1) % 65536
        reports := s.port.reports ++ [⟨rmcByte, supervisorByte, 0x21#8, 0x00#8,
          be1 (flagNumber f) ++ be2 s.port.noticeOrder ++ particulars⟩] }) ∧
    (inFlagSet (noticeMask s) f = true → 16 ≤ s.port.reports.length →
      t.port = { s.port with
        flags := t.port.flags
        alert := t.port.alert
        noticeOrder :=
          if inFlagSet (noticeMask s) .noticeLost = true then
            ((s.port.noticeOrder + 1) % 65536 + 1) % 65536
          else (s.port.noticeOrder + 1) % 65536
        lost :=
          if inFlagSet (noticeMask s) .noticeLost = true then
            min 65535 (min 65535 (s.port.lost + 1) + 1)
          else min 65535 (s.port.lost + 1) })) ∧
  (∀ s t : State, t = countLost s →
    Touches [.port] s t ∧
    (∀ g : EventFlag, inFlagSet t.port.flags g = (inFlagSet s.port.flags g || g == .noticeLost)) ∧
    (inFlagSet (noticeMask s) .noticeLost = false →
      t.port = { s.port with flags := t.port.flags, lost := min 65535 (s.port.lost + 1) }) ∧
    (inFlagSet (noticeMask s) .noticeLost = true → s.port.reports.length < 16 →
      t.port = { s.port with
        flags := t.port.flags
        noticeOrder := (s.port.noticeOrder + 1) % 65536
        lost := 0
        reports := s.port.reports ++ [⟨rmcByte, supervisorByte, 0x21#8, 0x00#8,
          be1 2 ++ be2 s.port.noticeOrder ++ be2 (min 65535 (s.port.lost + 1))⟩] }) ∧
    (inFlagSet (noticeMask s) .noticeLost = true → 16 ≤ s.port.reports.length →
      t.port = { s.port with
        flags := t.port.flags
        noticeOrder := (s.port.noticeOrder + 1) % 65536
        lost := min 65535 (min 65535 (s.port.lost + 1) + 1) })) ∧
  (∀ (frame : Frame) (s : State),
    (s.port.reports.length < 16 → queueReport frame s =
      (modPort (fun p => { p with reports := p.reports ++ [frame] }) s, true)) ∧
    (16 ≤ s.port.reports.length → queueReport frame s = (driveAlert (countLost s), false))) ∧
  (∀ (f : Frame) (s : State), f.payload.length ≤ 240 → f.src = rmcByte → f.dst = supervisorByte →
    4 ≤ s.port.rx.length →
    ∃ t, exec (.upstreamFrame (frameBytes f)) s = .next t ∧ t = raiseFlag .rxOverrun [f.tag, f.kind] s) ∧
  ∀ (tag : Byte) (named : BitVec 32) (s : State), Ready s →
    (named >>> 24 ≠ 0#32 →
      exec (.flagTake tag named) s = .next (respond (answer tag 0x03#8 .range []) s)) ∧
    (named >>> 24 = 0#32 → ∃ t, exec (.flagTake tag named) s = .next t ∧ Touches [.port] s t ∧
      t.port.responses = s.port.responses ++
        [answer tag 0x03#8 .ok (be4 (s.port.flags &&& named.setWidth 24).toNat)] ∧
      (∀ f : EventFlag, inFlagSet t.port.flags f =
        (inFlagSet s.port.flags f && !named.getLsbD (flagNumber f))) ∧
      t.port.alert = alertCondition t ∧ t.port.reports = s.port.reports)

/-! ## Reading out -/

/-- R20, R44, R58, R91, R108, R128, R145, R150, R175: each STATUS request is answered with its
subject, the part number, the part count and the part, or RANGE for an index outside the table or a
part that does not exist, and changes nothing else; the parts hold the subject's fields in order, no
field split, within 235 bytes (that a part takes as many fields as fit is the model's, log entry 24).
The nine STATUS rows. Model's choices: log entry 8, and in the bytes of the fields log entries 10, 44,
47, 52, 54, 55, 62, 67, 68, 69, 70. -/
def Obligations.StatusRequestsOnlyAnswer : Prop :=
  (∀ fields : List (List Byte), (∀ f ∈ fields, f.length ≤ 235) →
    (∃ groups : List (List (List Byte)),
      groups.flatten = fields ∧ groups.map List.flatten = partsOf fields) ∧
    ∀ p ∈ partsOf fields, p.length ≤ 235) ∧
  ∀ (tag n : Byte) (s : State), Ready s →
    let inParts (subject : Subject) (fields : List (List Byte)) : Prop :=
      (∀ part, (partsOf fields)[n.toNat]? = some part → statusAnswer tag subject n s =
        answer tag 0x02#8 .ok (be1 subject.ctorIdx ++ [n] ++ be1 (partsOf fields).length ++ part)) ∧
      ((partsOf fields).length ≤ n.toNat →
        statusAnswer tag subject n s = answer tag 0x02#8 .range [])
    inParts .summary (summaryFields s) ∧ inParts .capacity (capacityFields s) ∧
    inParts .ride (rideFields s) ∧ inParts .leak (leakFields s) ∧
    inParts .sequencer (sequencerFields s) ∧ inParts .queues (queuesFields s) ∧
    exec (.statusSummary tag n) s = .next (respond (statusAnswer tag .summary n s) s) ∧
    exec (.statusNode tag n) s = .next (respond (statusAnswer tag .node n s) s) ∧
    exec (.statusZone tag n) s = .next (respond (statusAnswer tag .zone n s) s) ∧
    exec (.statusCapacity tag n) s = .next (respond (statusAnswer tag .capacity n s) s) ∧
    exec (.statusRide tag n) s = .next (respond (statusAnswer tag .ride n s) s) ∧
    exec (.statusLeak tag n) s = .next (respond (statusAnswer tag .leak n s) s) ∧
    exec (.statusSequencer tag n) s = .next (respond (statusAnswer tag .sequencer n s) s) ∧
    exec (.statusSegment tag n) s = .next (respond (statusAnswer tag .segment n s) s) ∧
    exec (.statusQueues tag n) s = .next (respond (statusAnswer tag .queues n s) s) ∧
    statusAnswer tag .node n s =
      (if n.toNat < 48 then
        answer tag 0x02#8 .ok ([0x01#8, 0x00#8, 0x01#8] ++ nodeFields s n.toNat)
       else answer tag 0x02#8 .range []) ∧
    statusAnswer tag .zone n s =
      (if n.toNat < 32 then
        answer tag 0x02#8 .ok ([0x02#8, 0x00#8, 0x01#8] ++ zoneFields s n.toNat)
       else answer tag 0x02#8 .range []) ∧
    statusAnswer tag .segment n s =
      (if n.toNat < 4 then
        answer tag 0x02#8 .ok ([0x07#8, 0x00#8, 0x01#8] ++ segmentFields s n.toNat)
       else answer tag 0x02#8 .range [])

/-! ## Tables, settings and the image -/

/-- R161, R163: a TABLE_LOAD opens the load record and starts its window, replacing an open one with
LOAD_EVENT; a window that expires closes it with LOAD_EVENT. R162: a TABLE_DATA is BUSY during a save,
STATE with no load open, MALFORMED when it does not carry whole entries; otherwise its entries are
offered in turn to the owner, each by the record's next index while its count lasts, and refused past
it; the answer counts what the owner took and refused and names the first refused index (255 for none,
section 11.3), the record moves past the entries within its count, and it closes when its count reaches
0; no response that waited is lost. TABLE_LOAD, TABLE_DATA, LOAD_WINDOW_EXPIRY. Model's choices: log
entries 1, 8, 9, 35. -/
def Obligations.TableDataIsCounted : Prop :=
  ((∀ (tag : Byte) (table : TableId) (start count : Byte) (s : State), Ready s →
    (s.image.saving.isSome = true →
      exec (.tableLoad tag table start count) s =
        .next (respond (answer tag 0x04#8 .busy []) s)) ∧
    (s.image.saving = none →
      (count = 0#8 ∨ tableSize table ≤ start.toNat ∨
        tableSize table < start.toNat + count.toNat) →
      exec (.tableLoad tag table start count) s =
        .next (respond (answer tag 0x04#8 .range []) s)) ∧
    (s.image.saving = none → count ≠ 0#8 → start.toNat + count.toNat ≤ tableSize table →
      ∃ t, exec (.tableLoad tag table start count) s = .next t ∧ Touches [.loader, .port] s t ∧
        t.loader =
          ⟨some ⟨table, start.toNat, count.toNat⟩, .running (s.now + loadWindow s)⟩ ∧
        t.port.responses = s.port.responses ++
          [answer tag 0x04#8 .ok [BitVec.ofNat 8 table.ctorIdx, start, count]] ∧
        (s.loader.record.isSome = true → inFlagSet t.port.flags .loadEvent = true) ∧
        (s.loader.record = none → t.port.flags = s.port.flags ∧ t.port.reports = s.port.reports))) ∧
  (∀ (s : State) (r : LoadRecord) (d : Nat), s.loader = ⟨some r, .running d⟩ →
    ∃ t, exec .loadWindowExpiry s = .next t ∧ Touches [.now, .loader, .port] s t ∧
      t.now = max s.now d ∧ t.loader = ⟨none, .stopped⟩ ∧
      inFlagSet t.port.flags .loadEvent = true) ∧
  ∀ s : State, s.loader.timer = .stopped → exec .loadWindowExpiry s = .next s) ∧
  ∀ (tag : Byte) (payload : List Byte) (s : State), Ready s → payload.length ≤ 240 →
    (s.image.saving.isSome = true →
      exec (.tableData tag payload) s = .next (respond (answer tag 0x05#8 .busy []) s)) ∧
    (s.image.saving = none → s.loader.record = none →
      exec (.tableData tag payload) s = .next (respond (answer tag 0x05#8 .state []) s)) ∧
    ∀ r, s.image.saving = none → s.loader.record = some r →
      (payload.length % entrySize r.table ≠ 0 →
        exec (.tableData tag payload) s = .next (respond (answer tag 0x05#8 .malformed []) s)) ∧
      (payload.length % entrySize r.table = 0 →
        let carried := payload.length / entrySize r.table
        let offered := (offersFrom r payload (keepPlace true s)).1
        let taken := (offered.filter fun x => x.2).length
        let last := (offersFrom r payload (keepPlace true s)).2
        ∃ t, exec (.tableData tag payload) s = .next t ∧ Touches (.seq :: writeBlocks) s t ∧
          offered.map (fun x => x.1) = (List.range (min r.remaining carried)).map (r.next + ·) ∧
          (∃ earlier, last.port.responses = s.port.responses ++ earlier) ∧
          t.port = { last.port with
            placeKept := false
            responses := last.port.responses ++ [answer tag 0x05#8 .ok
              (be1 r.table.ctorIdx ++ be1 taken ++ be1 (carried - taken) ++
                be1 (((offered.filter fun x => !x.2).map (fun x => x.1) ++
                  (if r.remaining < carried then [r.next + r.remaining] else [])).headD 255) ++
                be1 (r.remaining - carried))] } ∧
          t.loader = (if r.remaining ≤ carried then ⟨none, .stopped⟩
            else ⟨some ⟨r.table, r.next + carried, r.remaining - carried⟩,
              .running (s.now + loadWindow t)⟩) ∧
          t.tables = last.tables ∧ t.segs = last.segs ∧ t.nodes = last.nodes ∧ t.cap = last.cap ∧
          t.zc = last.zc ∧ t.seq = last.seq ∧ t.ride = last.ride ∧ t.leak = last.leak ∧
          t.lines = last.lines ∧ t.mail = last.mail)

/-- R164: a SETTINGS entry is always written, a number to the nearer end of its range, a flag set
without the numbers above 23, and its partner is held against it; no other setting changes. R63, R75: a
slot count lowered below the number of INRUSH zones sheds the surplus, by zone index descending, each
switched off and in the re-admit list, or queued again where re-admission is open; any other change of it
runs the arbiter. R16, R17, R18, R32: an enable setting that is cleared disables its segment, whose queue
and exchange on the wire are dropped, their owners told (R153: a waiting relay is answered LINE, in the
place kept for it, log entry 49), and whose entries enter LOST; one that is set enables the segment
afresh. R106: a changed enable makes the autostart test, after the segment has acted
(log entry 21), and starts the descriptor as it then stands, one of settings that keep their law.
TABLE_DATA. Model's choices: log entries 8, 13, 21, 27, 45, 46, 49. -/
def Obligations.SettingIsWrittenWithinItsRange : Prop :=
  (∀ (tag : Byte) (k v n : Nat) (s : State), Ready s → s.image.saving = none → k < 41 →
    v < 4294967296 → s.loader.record = some ⟨.settings, k, n + 1⟩ →
    ∃ t, exec (.tableData tag (be4 v)) s = .next t ∧
      (∀ j < 41, j ≠ k → ¬(k = 19 ∧ j = 20) → ¬(k = 35 ∧ j = 36) →
        setting t j = setting s j) ∧
      (k = 32 ∨ k = 34 → setting t k = v % 16777216) ∧
      (k ≠ 20 → k ≠ 32 → k ≠ 34 → k ≠ 36 →
        setting t k = max (settingRange k).1 (min (settingRange k).2 v)) ∧
      (k = 20 → setting t 20 = min (max 1 (min 64 v)) (64 - setting s 19)) ∧
      (k = 19 → setting t 20 = min (setting s 20) (64 - min 63 v)) ∧
      (k = 36 → setting t 36 =
        if max 100 (min 60000 v) ≤ setting s 35 then setting s 35 + 100
        else max 100 (min 60000 v)) ∧
      (k = 35 → setting t 36 =
        if setting s 36 ≤ min 30000 v then min 30000 v + 100 else setting s 36) ∧
      t.tables.nodes = s.tables.nodes ∧ t.tables.zones = s.tables.zones ∧
      t.tables.limits = s.tables.limits ∧ t.tables.channels = s.tables.channels ∧
      t.tables.leakMap = s.tables.leakMap ∧ t.tables.steps = s.tables.steps ∧
      t.tables.lines = s.tables.lines) ∧
  (∀ (tag : Byte) (v n : Nat) (s : State), Ready s → s.image.saving = none → v < 4294967296 →
    s.loader.record = some ⟨.settings, 15, n + 1⟩ → ZoneListsLaw s →
    inrushCount s ≤ slotCount s → max 1 (min 4 v) ≠ slotCount s →
    let inrush := (List.range 32).reverse.filter fun z => (zoneAt s z).state == .inrush
    let surplus := inrush.take (inrush.length - max 1 (min 4 v))
    ∃ t, exec (.tableData tag (be4 v)) s = .next t ∧ slotCount t = max 1 (min 4 v) ∧
      inrushCount t ≤ slotCount t ∧
      (surplus = [] → ArbiterRests t ∧ t.zc.readmit = s.zc.readmit ∧
        ∀ z < 32, z ∉ s.zc.queue → zoneAt t z = zoneAt s z) ∧
      (surplus ≠ [] → inrushCount t = slotCount t ∧
        (∀ z < 32, (zoneAt s z).state ≠ .shed → z ∉ surplus → zoneAt t z = zoneAt s z) ∧
        (readmitOpen s = false → t.zc.readmit = s.zc.readmit ++ surplus ∧
          t.zc.queue = s.zc.queue) ∧
        (readmitOpen s = true → t.zc.readmit = []) ∧
        ∀ z ∈ surplus, (zoneAt t z).attempts = (zoneAt s z).attempts ∧
          (zoneAt t z).acked = false ∧ (zoneAt t z).inrush = .stopped ∧
          (zoneAt t z).state = (if readmitOpen s = true then .queued else .shed) ∧
          SwitchedOff t z (zoneCfg s z).feedEntry (zoneCfg s z).output)) ∧
  (∀ (tag : Byte) (i n v : Nat) (s : State), Ready s → s.image.saving = none → i < 4 →
    v < 4294967296 → v ≠ 0 → s.loader.record = some ⟨.settings, 3 * i, n + 1⟩ →
    segEnabled s i = false → (segAt s i).state = .disabled →
    ∃ t, exec (.tableData tag (be4 v)) s = .next t ∧
      Touches [.tables, .loader, .port, .segs, .seq, .mail] s t ∧ segEnabled t i = true ∧
      t.mail = { s.mail with seqAsk := t.mail.seqAsk } ∧
      (¬StartConditionMet s.seq t → t.port.flags = s.port.flags ∧ t.seq = s.seq ∧ t.mail = s.mail) ∧
      (StartConditionMet s.seq t → SettingsLaw s →
        Autostarted s.seq s.mail.seqAsk (setting s 19) (setting s 20) t) ∧
      t.segs = put s.segs i { segAt s i with
        state := .idle, queue := [], pollTimer := .running (s.now + pollPeriod s i) }) ∧
  ∀ (tag : Byte) (i n : Nat) (s : State), Ready s → s.image.saving = none → i < 4 →
    s.loader.record = some ⟨.settings, 3 * i, n + 1⟩ → segEnabled s i = true →
    (segAt s i).state ≠ .disabled →
    let dropped := (segAt s i).current.toList.map (fun c => c.ex) ++ (segAt s i).queue
    ∃ t, exec (.tableData tag (be4 0)) s = .next t ∧ segEnabled t i = false ∧
      (¬StartConditionMet s.seq t → t.seq = s.seq ∧ t.mail.seqAsk = s.mail.seqAsk) ∧
      (StartConditionMet s.seq t → SettingsLaw s →
        Autostarted s.seq s.mail.seqAsk (setting s 19) (setting s 20) t) ∧
      segAt t i = { segAt s i with
        state := .disabled, queue := [], current := none, pollTimer := .stopped } ∧
      (∀ k < 48, (nodeCfg s k).inUse = true → (nodeCfg s k).segment = i →
        (nodeAt s k).state ≠ .disabled → (nodeAt s k).state ≠ .lost →
        nodeAt t k = ⟨.lost, (nodeAt s k).misses, Vector.replicate 24 Slot.clear⟩ ∧
        inFlagSet t.port.flags .nodeChange = true) ∧
      (∀ k < 48, (nodeCfg s k).inUse = false ∨ (nodeCfg s k).segment ≠ i ∨
        (nodeAt s k).state = .disabled ∨ (nodeAt s k).state = .lost → nodeAt t k = nodeAt s k) ∧
      (∀ e ∈ dropped, ∀ n x, e.owner = .relaySlot n → (∃ a b p, e.kind = .relay a b p) → n < 8 →
        slotAt s n = some x → x.state = .waiting →
        slotAt t n = none ∧
          ⟨responseFrame x.dest x.kind x.tag .line [], none⟩ ∈ t.port.responses) ∧
      (∀ e ∈ dropped, ∀ output z, ZoneListsLaw s → e.target < 48 →
        (nodeCfg s e.target).segment = i → zoneOfPair s e.target output = some z →
        (e.kind = .feedSet output false → runs s z = false →
          (zoneAt t z).disablePending = true) ∧
        (e.kind = .feedSet output true → (zoneAt s z).state = .inrush →
          (zoneAt s z).acked = false →
          (zoneAt t z).attempts = (zoneAt s z).attempts + 1 ∧
          ((zoneAt t z).state = .lockout ∨ (zoneAt t z).state = .queued)))

/-- R22, R33, R60, R93, R130, R137, R169: an entry offered within its owner's condition is stored, with
each field corrected to its range, and has the effects of its table: a node record starts afresh, its
polled marks clear, its queued exchanges leave and the one on the wire turns stale; a zone's attempts
start at 0 and an in-use zone awaits adoption; a leak channel is settled and its groups are placed; a
leak map entry places its group; a line is sampled afresh, or no longer. The answer counts it as
accepted. The record given to a NODE entry or a LEAK_CHANNEL written not in use, UNSEEN with cleared slots
or DRY with a stopped timer, is the model's choice (log entry 2). TABLE_DATA. Model's choices: log
entries 2, 8, 38. -/
def Obligations.AcceptedEntriesAreStored : Prop :=
  ∀ (tag : Byte) (bytes : List Byte) (s : State) (r : LoadRecord), Ready s →
    s.image.saving = none → s.loader.record = some r → r.remaining ≠ 0 →
    r.next < tableSize r.table → bytes.length = entrySize r.table →
    let k := r.next
    let reply := answer tag 0x05#8 .ok
      (be1 r.table.ctorIdx ++ be1 1 ++ be1 0 ++ be1 255 ++ be1 (r.remaining - 1))
    (r.table = .node → ∀ c, decodeNode bytes = some c →
      ((nodeCfg s k).inUse = false ∨ (nodeAt s k).state = .disabled) →
      (c.inUse = true → c.segment ≤ 3 ∧ 1 ≤ c.address ∧ c.address ≤ 30 ∧
        ∀ j < 48, j ≠ k → (nodeCfg s j).inUse = true →
          (nodeCfg s j).segment ≠ c.segment ∨ (nodeCfg s j).address ≠ c.address) →
      (∀ i < 4, (segAt s i).queue.any (isDisableFor k) = false ∧
        (segAt s i).current.toList.any (fun x => isDisableFor k x.ex) = false) →
      (∀ z < 32, (zoneCfg s z).inUse = true → (zoneCfg s z).feedEntry = k →
        (zoneAt s z).disablePending = false) →
      ∃ t, exec (.tableData tag bytes) s = .next t ∧ Touches writeBlocks s t ∧
        (∃ earlier, t.port.responses = s.port.responses ++ earlier) ∧
        t.port.responses.getLast? = some reply ∧
        t.tables = { s.tables with nodes := (put s.tables.nodes k c) } ∧
        nodeAt t k = ⟨if c.inUse = true ∧ c.service = .disabled then .disabled else .unseen, 0,
          Vector.replicate 24 Slot.clear⟩ ∧
        (∀ j < 48, j ≠ k → nodeAt t j = nodeAt s j) ∧
        (∀ i < 4, nth (segAt t i).polled k = false ∧
          ∀ x, (segAt s i).current = some x → (segAt s i).state = .exchange →
            (segAt t i).current =
              some (if x.ex.target = k then { x with stale := true } else x)) ∧
        ((nodeCfg s k).inUse = true →
          ∀ e ∈ (segAt t (nodeCfg s k).segment).queue, e.target = k → isDisableFor k e = true) ∧
        (nodeState? t k ≠ nodeState? s k → inFlagSet t.port.flags .nodeChange = true)) ∧
    (r.table = .limit → ∀ c, decodeLimit bytes = some c →
      ∃ t, exec (.tableData tag bytes) s = .next t ∧ Touches [.tables, .loader, .port] s t ∧
        t.port.responses = s.port.responses ++ [reply] ∧ t.port.flags = s.port.flags ∧
        t.tables = { s.tables with
          limits := (put s.tables.limits k { c with confirm := max 1 (min 15 c.confirm) }) }) ∧
    (r.table = .zone → ∀ c, decodeZone bytes = some c →
      (zoneAt s k).state = .off → (zoneAt s k).disablePending = false →
      (c.inUse = true → c.feedEntry ≤ 47 ∧ c.output ≤ 3 ∧ c.tier ≤ 3 ∧
        ∀ y < 32, y ≠ k → (zoneCfg s y).inUse = true →
          (zoneCfg s y).feedEntry ≠ c.feedEntry ∨ (zoneCfg s y).output ≠ c.output) →
      ∃ t, exec (.tableData tag bytes) s = .next t ∧ Touches [.tables, .loader, .port, .zc] s t ∧
        t.port.responses = s.port.responses ++ [reply] ∧ t.port.flags = s.port.flags ∧
        t.tables = { s.tables with zones := (put s.tables.zones k { c with
          window := max 50 (min 10000 c.window), lockout := max 1 (min 7 c.lockout) }) } ∧
        t.zc = { s.zc with zones := (put s.zc.zones k
          { zoneAt s k with attempts := 0, adoptPending := c.inUse }) }) ∧
    (r.table = .leakChannel → ∀ c, decodeChannel bytes = some c →
      ((channelCfg s k).inUse = true →
        ((channelAt s k).state = .dry ∨ (channelAt s k).state = .fault) ∧
        groupAt s (channelCfg s k).group ≠ .alarm ∧ groupAt s (channelCfg s k).group ≠ .drying) →
      (c.inUse = true → c.group ≤ 7 ∧ groupAt s c.group ≠ .alarm ∧ groupAt s c.group ≠ .drying ∧
        (k < 8 ∨ (c.source ≤ 47 ∧ c.sense ≤ 3))) →
      ∃ t, exec (.tableData tag bytes) s = .next t ∧
        Touches [.tables, .loader, .port, .leak, .mail] s t ∧
        t.port.responses = s.port.responses ++ [reply] ∧
        t.tables = { s.tables with channels := (put s.tables.channels k { c with
          confirm := min 10000 c.confirm, chatter := max 1 (min 15 c.chatter) }) } ∧
        channelAt t k = (if c.inUse = true then settledRun t k else ⟨.dry, 0, .stopped⟩) ∧
        (∀ j < 32, j ≠ k → channelAt t j = channelAt s j) ∧
        (∀ g < 8, groupAt t g =
          if ((channelCfg s k).inUse = true ∧ (channelCfg s k).group = g) ∨
            (c.inUse = true ∧ c.group = g)
          then groupPlace (groupAt s g) (wetCount t g) (pendingCount t g) (voteOf s g)
          else groupAt s g) ∧
        ((channelAt t k).state = .fault → inFlagSet t.port.flags .leakFault = true)) ∧
    (r.table = .leakMap → ∀ c, decodeLeakMap bytes = some c → groupAt s k = .clear →
      ∃ t, exec (.tableData tag bytes) s = .next t ∧
        Touches [.tables, .loader, .port, .leak, .mail] s t ∧
        t.port.responses = s.port.responses ++ [reply] ∧
        t.tables = { s.tables with
          leakMap := (put s.tables.leakMap k { c with vote := max 1 (min 4 c.vote) }) } ∧
        (∀ g < 8, groupAt t g =
          if g = k then groupPlace .clear (wetCount s k) (pendingCount s k) (max 1 (min 4 c.vote))
          else groupAt s g)) ∧
    (r.table = .sequence → ∀ c, decodeStep bytes = some c →
      (s.seq.state ≠ .running ∧ s.seq.state ≠ .held ∨
        ∃ d, s.seq.desc = some d ∧ (k < d.start ∨ d.start + d.count ≤ k)) →
      ∃ t, exec (.tableData tag bytes) s = .next t ∧ Touches [.tables, .loader, .port] s t ∧
        t.port.responses = s.port.responses ++ [reply] ∧ t.port.flags = s.port.flags ∧
        t.tables = { s.tables with steps := (put s.tables.steps k
          (if c.kind = .mark then { c with operand := min 255 c.operand } else c)) }) ∧
    (r.table = .line → ∀ c, decodeLine bytes = some c →
      let new : LineCfg := { c with
        enable := c.enable || k == 2
        filter := if k = 2 then max 10 (min 1000 c.filter) else min 1000 c.filter
        interval := max 1 (min 100 c.interval) }
      ∃ t, exec (.tableData tag bytes) s = .next t ∧ Touches writeBlocks s t ∧
        t.port.responses = s.port.responses ++ [reply] ∧
        t.tables = { s.tables with lines := (put s.tables.lines k new) } ∧
        lineAt t k = (if (lineCfg s k).enable = new.enable then lineAt s k
          else ⟨none, none, if new.enable = true then .running (s.now + new.interval)
            else .stopped⟩) ∧
        (∀ j < 11, j ≠ k → lineAt t j = lineAt s j) ∧
        (k < 2 → (lineCfg s k).enable = true → (lineAt s k).accepted ≠ none →
          t.ride.linePart = linePartOf t) ∧
        (∀ level, k = 2 → (lineCfg s k).enable = true → (lineAt s k).accepted = some level →
          t.zc.epoLine = (level == new.active)))

/-- R22, R60, R93, R130, R137: an entry offered against its owner's condition is refused, changes no
table and no block but the port and the load record, and is reported in the answer: a NODE entry in use
and not DISABLED, of an undefined choice, of a segment and address taken or out of range, or whose
disable stands or is owed; a ZONE that is not OFF or owes a disable, or of a pair taken or a field out
of range; a LEAK_CHANNEL that is PENDING or WET, of a latched group or into one, or out of range; a
LEAK_MAP entry whose group is not CLEAR; a SEQUENCE step of the program, or of an undefined kind.
TABLE_DATA. Model's choices: log entry 8. -/
def Obligations.RefusedEntriesChangeNoTable : Prop :=
  ∀ (tag : Byte) (bytes : List Byte) (s : State) (r : LoadRecord), Ready s →
    s.image.saving = none → s.loader.record = some r → r.remaining ≠ 0 →
    bytes.length = entrySize r.table →
    ((r.table = .node ∧ (nodeCfg s r.next).inUse = true ∧ (nodeAt s r.next).state ≠ .disabled) ∨
      (r.table = .node ∧ decodeNode bytes = none) ∨
      (r.table = .node ∧ ∃ c, decodeNode bytes = some c ∧ c.inUse = true ∧
        (3 < c.segment ∨ c.address = 0 ∨ 30 < c.address ∨
          ∃ j < 48, j ≠ r.next ∧ (nodeCfg s j).inUse = true ∧
            (nodeCfg s j).segment = c.segment ∧ (nodeCfg s j).address = c.address)) ∨
      (r.table = .node ∧ ∃ i < 4, (segAt s i).queue.any (isDisableFor r.next) = true ∨
        (segAt s i).current.toList.any (fun x => isDisableFor r.next x.ex) = true) ∨
      (r.table = .node ∧ ∃ z < 32, (zoneCfg s z).inUse = true ∧
        (zoneCfg s z).feedEntry = r.next ∧ (zoneAt s z).disablePending = true) ∨
      (r.table = .zone ∧ ((zoneAt s r.next).state ≠ .off ∨
        (zoneAt s r.next).disablePending = true)) ∨
      (r.table = .zone ∧ ∃ c, decodeZone bytes = some c ∧ c.inUse = true ∧
        (47 < c.feedEntry ∨ 3 < c.output ∨ 3 < c.tier ∨
          ∃ y < 32, y ≠ r.next ∧ (zoneCfg s y).inUse = true ∧
            (zoneCfg s y).feedEntry = c.feedEntry ∧ (zoneCfg s y).output = c.output)) ∨
      (r.table = .leakChannel ∧ (channelCfg s r.next).inUse = true ∧
        (groupAt s (channelCfg s r.next).group = .alarm ∨
          groupAt s (channelCfg s r.next).group = .drying)) ∨
      (r.table = .leakChannel ∧ ∃ c, decodeChannel bytes = some c ∧ c.inUse = true ∧
        (7 < c.group ∨ groupAt s c.group = .alarm ∨ groupAt s c.group = .drying ∨
          (8 ≤ r.next ∧ (47 < c.source ∨ 3 < c.sense)))) ∨
      (r.table = .sequence ∧ decodeStep bytes = none) ∨
      (r.table = .leakChannel ∧ (channelCfg s r.next).inUse = true ∧
        ((channelAt s r.next).state = .pending ∨ (channelAt s r.next).state = .wet)) ∨
      (r.table = .leakMap ∧ groupAt s r.next ≠ .clear) ∨
      (r.table = .sequence ∧ (s.seq.state = .running ∨ s.seq.state = .held) ∧
        ∃ d, s.seq.desc = some d ∧ d.start ≤ r.next ∧ r.next < d.start + d.count)) →
    ∃ t, exec (.tableData tag bytes) s = .next t ∧ Touches [.loader, .port] s t ∧
      t.port.flags = s.port.flags ∧
      t.port.responses = s.port.responses ++ [answer tag 0x05#8 .ok
        (be1 r.table.ctorIdx ++ be1 0 ++ be1 1 ++ be1 r.next ++ be1 (r.remaining - 1))]

/-- R165: a TABLE_READ outside the table is answered RANGE; any other is answered OK with as many of
the entries from the start as fit whole in a frame, as the tables hold them, and changes nothing else,
a save in flight or a load open or not. The answer's leading bytes are those of sections 11.5 and 11.6.
That the request row is answered in its own step under Ready is the model's choice (log entry 8).
TABLE_READ. -/
def Obligations.TableReadReturnsWholeEntries : Prop :=
  ∀ (tag : Byte) (table : TableId) (start count : Byte) (s : State), Ready s →
    (count = 0#8 ∨ tableSize table ≤ start.toNat ∨ tableSize table < start.toNat + count.toNat →
      exec (.tableRead tag table start count) s =
        .next (respond (answer tag 0x06#8 .range []) s)) ∧
    (count ≠ 0#8 → start.toNat < tableSize table →
      start.toNat + count.toNat ≤ tableSize table →
      ∃ n ≤ count.toNat,
        exec (.tableRead tag table start count) s = .next (respond (answer tag 0x06#8 .ok
          ([BitVec.ofNat 8 table.ctorIdx, start, BitVec.ofNat 8 n] ++
            (List.range n).flatMap fun k => entryBytes s.tables table (start.toNat + k))) s) ∧
        5 + n * entrySize table ≤ 240 ∧ (n < count.toNat → 240 < 5 + (n + 1) * entrySize table) ∧
        (∀ k, (entryBytes s.tables table k).length = entrySize table))

/-- Section 11.6: an entry that a table can hold is read back as it was written: the decoding of each
table's entry undoes its encoding, with every field at every value its width admits. -/
def Obligations.TableEntriesDecodeAsEncoded : Prop :=
  (∀ c : NodeCfg, c.segment < 256 → c.address < 256 → c.rated < 65536 →
    decodeNode (encodeNode c) = some c) ∧
  (∀ c : LimitCfg, c.low < 65536 → c.high < 65536 → c.hysteresis < 65536 → c.confirm < 256 →
    c.deadband < 65536 → decodeLimit (encodeLimit c) = some c) ∧
  (∀ c : ZoneCfg, c.feedEntry < 256 → c.output < 256 → c.tier < 256 → c.inrush < 65536 →
    c.steady < 65536 → c.window < 65536 → c.lockout < 256 → decodeZone (encodeZone c) = some c) ∧
  (∀ c : ChannelCfg, c.source < 256 → c.sense < 256 → c.group < 256 → c.confirm < 65536 →
    c.chatter < 256 → decodeChannel (encodeChannel c) = some c) ∧
  (∀ c : LeakMapCfg, c.vote < 256 → decodeLeakMap (encodeLeakMap c) = some c) ∧
  (∀ c : StepCfg, c.operand < 65536 → c.timeout < 65536 → decodeStep (encodeStep c) = some c) ∧
  (∀ c : LineCfg, c.filter < 65536 → c.interval < 256 → decodeLine (encodeLine c) = some c) ∧
  ∀ v < 4294967296, decodeSetting (be4 v) = some v

/-- R166, R168: a save is BUSY during a save, and otherwise copies the eight tables and marks the
image INVALID; a save that completes with its CRC matching makes the image VALID, and the power-on
reset that follows restores the tables that were copied; one that does not match leaves it INVALID.
R167: an IMAGE_ERASE is BUSY during a save; otherwise it is answered OK, marks the image ERASED whatever
its status, raises IMAGE with result ERASED, and leaves the tables in use. IMAGE_SAVE,
IMAGE_SAVE_COMPLETE, IMAGE_ERASE, POWER_ON_RESET. Model's choices: log entries 8, 9, 22, 23. -/
def Obligations.SavedTablesAreRestored : Prop :=
  (∀ (tag : Byte) (s : State), Ready s →
    (s.image.saving.isSome = true →
      exec (.imageErase tag) s = .next (respond (answer tag 0x0F#8 .busy []) s)) ∧
    (s.image.saving = none →
      exec (.imageErase tag) s = .next (respond (answer tag 0x0F#8 .ok [])
        (raiseFlag .image [0x02#8] { s with image := { s.image with status := .erased } })))) ∧
  (∀ (tag : Byte) (s : State), Ready s →
    (s.image.saving.isSome = true →
      exec (.imageSave tag) s = .next (respond (answer tag 0x0E#8 .busy []) s)) ∧
    (s.image.saving = none →
      exec (.imageSave tag) s = .next (respond (answer tag 0x0E#8 .ok [])
        { s with image := { s.image with status := .invalid, saving := some s.tables } }))) ∧
  (∀ (s : State) (copy : Tables), s.image.saving = some copy →
    (∃ t u, exec (.imageSaveComplete true) s = .next t ∧ Touches [.image, .port] s t ∧
      t.image.status = .valid ∧ t.image.saving = none ∧ inFlagSet t.port.flags .image = true ∧
      exec .powerOnReset t = .next u ∧ u.tables = copy ∧ u.image = t.image) ∧
    (∃ t, exec (.imageSaveComplete false) s = .next t ∧ Touches [.image, .port] s t ∧
      t.image.status = .invalid ∧ t.image.saving = none ∧
      inFlagSet t.port.flags .image = true)) ∧
  ∀ (s : State) (b : Bool), s.image.saving = none → exec (.imageSaveComplete b) s = .next s

/-! ## Zones -/

/-- R84: ZONE ON is answered by the latch, the zone's entry, its state and its groups as they stand (R142);
an OFF zone that may be queued enters QUEUED at the tail of its tier, or is granted at once (R65); in
every other case nothing changes but the response. R85: the Sequencer's request to queue a zone is
answered by the first row that holds, with the step instance it came from, and only an OFF zone that may
be queued is queued. ZONE_ON, SEQ_ZONE_QUEUE_REQUEST. Model's choices: log entries 7, 8. -/
def Obligations.ZoneIsQueuedOnRequest : Prop :=
  (∀ (tag zone : Byte) (s : State), Ready s →
    (31 < zone.toNat →
      exec (.zoneOn tag zone) s = .next (respond (answer tag 0x07#8 .range []) s)) ∧
    (zone.toNat ≤ 31 → s.zc.epoLatch = true →
      exec (.zoneOn tag zone) s = .next (respond (answer tag 0x07#8 .epo []) s)) ∧
    (zone.toNat ≤ 31 → s.zc.epoLatch = false →
      ((zoneCfg s zone.toNat).inUse = false ∨ (zoneAt s zone.toNat).state = .isolated ∨
        (zoneAt s zone.toNat).state = .lockout ∨
        ((zoneAt s zone.toNat).state = .off ∧ leakHolds s zone.toNat = true)) →
      exec (.zoneOn tag zone) s = .next (respond (answer tag 0x07#8 .state []) s)) ∧
    (zone.toNat ≤ 31 → s.zc.epoLatch = false → (zoneCfg s zone.toNat).inUse = true →
      ((zoneAt s zone.toNat).state = .queued ∨ (zoneAt s zone.toNat).state = .shed ∨
        runs s zone.toNat = true) →
      exec (.zoneOn tag zone) s = .next (respond (answer tag 0x07#8 .ok []) s)) ∧
    (zone.toNat ≤ 31 → s.zc.epoLatch = false → (zoneCfg s zone.toNat).inUse = true →
      (zoneAt s zone.toNat).state = .off → leakHolds s zone.toNat = false →
      ∃ t, exec (.zoneOn tag zone) s = .next t ∧ Touches zoneBlocks s t ∧
        t.port.responses = s.port.responses ++ [answer tag 0x07#8 .ok []] ∧
        Admitted t zone.toNat ∧ (zoneAt t zone.toNat).adoptPending = false ∧
        (admissionOpen s = false → (zoneAt t zone.toNat).state = .queued ∧
          t.zc.queue =
            s.zc.queue.takeWhile (fun y =>
              decide ((zoneCfg s y).tier ≤ (zoneCfg s zone.toNat).tier)) ++
            zone.toNat :: s.zc.queue.dropWhile (fun y =>
              decide ((zoneCfg s y).tier ≤ (zoneCfg s zone.toNat).tier))))) ∧
  ∀ (s : State) (ask : SeqAsk) (rest : List SeqAsk), s.mail.seqAsk = ask :: rest →
    ask.zone < 32 →
    ∃ t reply, exec .seqZoneQueueRequest s = .next t ∧ Touches zoneBlocks s t ∧
      t.mail.seqAsk = rest ∧ t.mail.seqAnswer = s.mail.seqAnswer ++ [⟨ask.stepInst, reply⟩] ∧
      (s.zc.epoLatch = true → reply = .refusedEpo) ∧
      (s.zc.epoLatch = false →
        ((zoneCfg s ask.zone).inUse = false ∨ (zoneAt s ask.zone).state = .isolated ∨
          (zoneAt s ask.zone).state = .lockout ∨
          ((zoneAt s ask.zone).state = .off ∧ leakHolds s ask.zone = true)) → reply = .refused) ∧
      (s.zc.epoLatch = false → (zoneCfg s ask.zone).inUse = true →
        (zoneAt s ask.zone).state = .off → leakHolds s ask.zone = false →
        reply = .queued ∧ Admitted t ask.zone) ∧
      (s.zc.epoLatch = false → (zoneCfg s ask.zone).inUse = true →
        ((zoneAt s ask.zone).state = .queued ∨ (zoneAt s ask.zone).state = .shed ∨
          runs s ask.zone = true) → reply = .present) ∧
      (reply ≠ .queued → t.zc = s.zc ∧ t.cap = s.cap ∧ t.segs = s.segs ∧ t.port = s.port)

/-- R69, R72, R78, R84: ZONE OFF is answered OK; it takes a QUEUED, INRUSH, ON or SHED zone to OFF and
out of the list that held it, and switches an INRUSH or ON zone's output off with a disable that its
segment carries or that is owed. R83, R84: ZONE RESET takes a LOCKOUT zone to OFF with its attempts
at 0 and is answered STATE otherwise; EPO_CLEAR is refused EPO while the line is asserted, and
otherwise clears the latch. ZONE_OFF, ZONE_RESET, EPO_CLEAR. Model's choices: log entry 8, and log
entry 13 for a zone whose feed entry is not in use, whose disable is then owed. -/
def Obligations.ZonesAreTakenOffAndCleared : Prop :=
  (∀ (tag zone : Byte) (s : State), Ready s → ZoneListsLaw s →
    (31 < zone.toNat →
      exec (.zoneOff tag zone) s = .next (respond (answer tag 0x07#8 .range []) s)) ∧
    (zone.toNat ≤ 31 →
      ((zoneAt s zone.toNat).state = .off ∨ (zoneAt s zone.toNat).state = .isolated ∨
        (zoneAt s zone.toNat).state = .lockout) →
      exec (.zoneOff tag zone) s = .next (respond (answer tag 0x07#8 .ok []) s)) ∧
    (zone.toNat ≤ 31 →
      ((zoneAt s zone.toNat).state = .queued ∨ (zoneAt s zone.toNat).state = .shed ∨
        runs s zone.toNat = true) →
      ∃ t, exec (.zoneOff tag zone) s = .next t ∧ Touches zoneBlocks s t ∧
        t.port.responses = s.port.responses ++ [answer tag 0x07#8 .ok []] ∧
        (zoneAt t zone.toNat).state = .off ∧ zone.toNat ∉ t.zc.queue ∧
        zone.toNat ∉ t.zc.readmit ∧
        ((zoneAt s zone.toNat).state = .queued → (zoneAt t zone.toNat).retry = .stopped) ∧
        (runs s zone.toNat = true → (zoneAt t zone.toNat).acked = false ∧
          (zoneAt t zone.toNat).inrush = .stopped ∧
          ((zoneAt t zone.toNat).disablePending = true ∨
            Carries (segAt t (nodeCfg s (zoneCfg s zone.toNat).feedEntry).segment)
              (isFeedSet (zoneCfg s zone.toNat).feedEntry (zoneCfg s zone.toNat).output false))))) ∧
  (∀ (tag zone : Byte) (s : State), Ready s →
    (31 < zone.toNat →
      exec (.zoneReset tag zone) s = .next (respond (answer tag 0x07#8 .range []) s)) ∧
    (zone.toNat ≤ 31 → (zoneAt s zone.toNat).state ≠ .lockout →
      exec (.zoneReset tag zone) s = .next (respond (answer tag 0x07#8 .state []) s)) ∧
    (zone.toNat ≤ 31 → (zoneAt s zone.toNat).state = .lockout →
      exec (.zoneReset tag zone) s = .next (respond (answer tag 0x07#8 .ok [])
        (modMail (fun m => { m with
            zoneToSeq := m.zoneToSeq ++ [⟨zone.toNat, .lockout, .off⟩] })
          (modZone zone.toNat (fun r => { r with state := .off, attempts := 0 }) s))))) ∧
  ∀ (tag : Byte) (s : State), Ready s →
    (s.zc.epoLatch = true → s.zc.epoLine = true →
      exec (.epoClear tag) s = .next (respond (answer tag 0x0B#8 .epo []) s)) ∧
    (s.zc.epoLatch = false →
      exec (.epoClear tag) s = .next (respond (answer tag 0x0B#8 .ok []) s)) ∧
    (s.zc.epoLatch = true → s.zc.epoLine = false →
      ∃ t, exec (.epoClear tag) s = .next t ∧ Touches zoneBlocks s t ∧ t.zc.epoLatch = false ∧
        t.zc.epoLine = false ∧
        t.port.responses = s.port.responses ++ [answer tag 0x0B#8 .ok []] ∧
        (∀ z < 32, (zoneAt s z).state ≠ .queued → ZoneListsLaw s → zoneAt t z = zoneAt s z) ∧
        (s.zc.queue = [] → t.zc = { s.zc with epoLatch := false }))

/-- R63, R64, R65, R72: a queued zone is eligible by R64's six conditions. A run of the arbiter, here the
one a retry timer's expiry starts, grants the first eligible zone of the queue if it fits, passes over
the ineligible ones before it, and goes on until admission is closed, no zone is eligible or the first
eligible one does not fit; a granted zone leaves the queue for INRUSH with its enable on its segment,
and the grants stay within the slot count and available power. RETRY_TIMER_EXPIRY. Model's choices: log
entries 1, 30. -/
def Obligations.ArbiterGrantsTheFirstThatFits : Prop :=
  (∀ (s : State) (z : Nat), eligible s z = true ↔ MayBeGranted s z) ∧
  ∀ (z : Fin 32) (d : Nat) (s u : State), ZoneListsLaw s → SegmentLaw s →
    (zoneAt s z).retry = .running d →
    u = modZone z (fun r => { r with retry := .stopped }) (atTime d s) →
    (ArbiterRests u → exec (.retryTimerExpiry z) s = .next u) ∧
    (¬ArbiterRests u → ∀ y, u.zc.queue.find? (eligible u) = some y →
      ∃ t, exec (.retryTimerExpiry z) s = .next t ∧ Touches (.now :: zoneBlocks) s t ∧
        ArbiterRests t ∧ zoneAt t y = { zoneAt u y with state := .inrush, acked := false } ∧
        y ∉ t.zc.queue ∧
        Carries (segAt t (nodeCfg s (zoneCfg s y).feedEntry).segment)
          (isFeedSet (zoneCfg s y).feedEntry (zoneCfg s y).output true) ∧
        inrushCount t ≤ slotCount t ∧ committedSum t ≤ t.cap.available ∧
        t.cap.committed = committedSum t ∧ t.cap.available = s.cap.available ∧
        (∀ x ∈ u.zc.queue.takeWhile (fun x => x != y), x ∈ t.zc.queue ∧ zoneAt t x = zoneAt u x) ∧
        (∀ x < 32, x ∉ u.zc.queue → zoneAt t x = zoneAt u x) ∧
        (slotCount s = inrushCount u + 1 → t.zc.queue = u.zc.queue.filter (fun x => x != y) ∧
          ∀ x < 32, x ≠ y → zoneAt t x = zoneAt u x))

/-- R69, R71, R72: an inrush window that runs out fails the attempt: the zone's output is switched off
by a disable that its segment carries or that is owed, the count rises, and the zone is locked out
at its lockout limit, or queued again behind its retry delay; a retry timer that runs out frees the
zone for a grant. INRUSH_TIMER_EXPIRY, RETRY_TIMER_EXPIRY. Model's choices: log entries 1, 9, 13
(13: the disable of a zone whose feed entry is not in use is owed). -/
def Obligations.FailedAttemptRetriesOrLocksOut : Prop :=
  (∀ (z : Fin 32) (d : Nat) (s : State), ZoneListsLaw s →
    (zoneAt s z).state = .inrush → (zoneAt s z).inrush = .running d →
    ∃ t, exec (.inrushTimerExpiry z) s = .next t ∧ Touches (.now :: zoneBlocks) s t ∧
      t.now = max s.now d ∧ (zoneAt t z).attempts = (zoneAt s z).attempts + 1 ∧
      (zoneAt t z).inrush = .stopped ∧ (zoneAt t z).acked = false ∧
      SwitchedOff t z (zoneCfg s z).feedEntry (zoneCfg s z).output ∧
      ((zoneAt s z).attempts + 1 = (zoneCfg s z).lockout →
        (zoneAt t z).state = .lockout ∧ (zoneAt t z).retry = .stopped ∧
          inFlagSet t.port.flags .zoneLockout = true) ∧
      ((zoneAt s z).attempts + 1 ≠ (zoneCfg s z).lockout → retryDelay s ≠ 0 →
        (zoneAt t z).state = .queued ∧ (zoneAt t z).retry = .running (t.now + retryDelay s) ∧
          z.val ∈ t.zc.queue) ∧
      ((zoneAt s z).attempts + 1 ≠ (zoneCfg s z).lockout → retryDelay s = 0 → Admitted t z)) ∧
  (∀ (z : Fin 32) (d : Nat) (s : State), ZoneListsLaw s →
    (zoneAt s z).state = .queued → (zoneAt s z).retry = .running d →
    ∃ t, exec (.retryTimerExpiry z) s = .next t ∧ Touches (.now :: zoneBlocks) s t ∧
      t.now = max s.now d ∧ (zoneAt t z).retry = .stopped ∧ Admitted t z ∧
      (zoneAt t z).attempts = (zoneAt s z).attempts) ∧
  ∀ (z : Fin 32) (s : State),
    ((zoneAt s z).inrush = .stopped → exec (.inrushTimerExpiry z) s = .next s) ∧
    ((zoneAt s z).retry = .stopped → exec (.retryTimerExpiry z) s = .next s)

/-- R69, R70, R71, R73, R86, R87: the Z_STATE reading that a FEED entry's TELEMETRY reply gives for a
zone's output acts by the zone's state. INRUSH and acknowledged: good brings it ON, tripped fails
the attempt and switches it off; ON: off or tripped trips it to OFF and switches it off; OFF and
awaiting adoption: off ends the wait, good adopts it ON, or switches it off into ISOLATED, OFF or
SHED by its groups, the latch and the link, tripped switches it off. In every other state the
reading changes nothing of the zone; a QUEUED zone stays queued as it was, unless the arbiter's runs
in that handling grant it (R66). The premises are the laws of the zone lists and of the segments.
REPLY_COMPLETE. That the acknowledged flag clears on entering ON is the model's choice (log entry
43); log entries 13, 19, 30. -/
def Obligations.FeedReportMovesTheZone : Prop :=
  ∀ (i : Fin 4) (s : State) (c : Current) (bytes : List Byte) (f : Frame) (output z : Nat) (x : Item),
    (segAt s i).current = some c → c.phase = .receiving → goodReply c bytes = some f →
    f.kind = telemetryByte → c.stale = false → c.ex.target < 48 → ZoneListsLaw s → SegmentLaw s →
    (nodeCfg s c.ex.target).inUse = true → (nodeCfg s c.ex.target).kind = .feed →
    (nodeAt s c.ex.target).state ≠ .disabled → output ≤ 3 →
    zoneOfPair s c.ex.target output = some z → x ∈ itemsTaken .feed f.payload →
    x.code = 16 + output →
    let r := zoneAt s z
    ∃ t, exec (.replyComplete i bytes) s = .next t ∧ Touches inspectBlocks s t ∧
      (r.state = .inrush → r.acked = true →
        (x.value = 0 → zoneAt t z = r) ∧
        (x.value = 1 → zoneAt t z =
          { r with state := .on, attempts := 0, acked := false, inrush := .stopped }) ∧
        (2 ≤ x.value → (zoneAt t z).attempts = r.attempts + 1 ∧ (zoneAt t z).acked = false ∧
          (zoneAt t z).inrush = .stopped ∧ SwitchedOff t z c.ex.target output ∧
          (r.attempts + 1 = (zoneCfg s z).lockout → (zoneAt t z).state = .lockout ∧
            inFlagSet t.port.flags .zoneLockout = true) ∧
          (r.attempts + 1 ≠ (zoneCfg s z).lockout → Admitted t z))) ∧
      (r.state = .on →
        (x.value = 1 → zoneAt t z = r) ∧
        (x.value ≠ 1 → (zoneAt t z).state = .off ∧ (zoneAt t z).attempts = r.attempts ∧
          inFlagSet t.port.flags .zoneTrip = true ∧ SwitchedOff t z c.ex.target output)) ∧
      (r.state = .off → r.adoptPending = true → (zoneAt t z).adoptPending = false ∧
        (x.value = 0 → zoneAt t z = { r with adoptPending := false }) ∧
        (x.value = 1 → leakHolds s z = true →
          (zoneAt t z).state = .isolated ∧ SwitchedOff t z c.ex.target output) ∧
        (x.value = 1 → leakHolds s z = false → s.zc.epoLatch = true →
          (zoneAt t z).state = .off ∧ SwitchedOff t z c.ex.target output) ∧
        (x.value = 1 → leakHolds s z = false → s.zc.epoLatch = false → linkBars s z = true →
          (zoneAt t z).state = .shed ∧ z ∈ t.zc.readmit ∧ SwitchedOff t z c.ex.target output) ∧
        (x.value = 1 → leakHolds s z = false → s.zc.epoLatch = false → linkBars s z = false →
          zoneAt t z = { r with state := .on, attempts := 0, adoptPending := false }) ∧
        (2 ≤ x.value → (zoneAt t z).state = .off ∧ SwitchedOff t z c.ex.target output)) ∧
      (r.state = .queued → (zoneAt t z = r ∧ z ∈ t.zc.queue) ∨
        (zoneAt t z = { r with state := .inrush, acked := false } ∧ z ∉ t.zc.queue ∧
          Carries (segAt t (nodeCfg s c.ex.target).segment)
            (isFeedSet c.ex.target output true))) ∧
      ((r.state = .inrush ∧ r.acked = false) ∨ (r.state = .off ∧ r.adoptPending = false) ∨
        r.state = .shed ∨ r.state = .isolated ∨ r.state = .lockout → zoneAt t z = r)

/-- R54, R69, R75, R78, R124: a shed request is carried out in its order: every zone of it that is INRUSH or
ON enters SHED and joins the tail of the re-admit list, its acknowledged flag and inrush timer are
cleared, its attempts kept, and its output switched off by a disable that its segment carries or that is
owed; every other is passed over, and the completion names both; where the capacity state is not
BALANCED or the ride-through state not NORMAL no other zone changes. R66, R79: where re-admission is
closed by CONSERVE, the link or the energy figure alone, a slot or a place in a queue that a shed frees
may be granted to a QUEUED zone, and no other zone changes (that such a grant comes before the next zone
of the request, which may then be that zone, is the model's choice, log entry 64); with re-admission
open the list drains at once, so that the zones shed are QUEUED or granted again, their outputs having
been switched off. R76: when BRIDGING reaches the Zone Controller every INRUSH zone is shed likewise,
and the completion names them to the Ride-Through Unit. That BRIDGING is taken as the oldest change of
state in flight, with the CONSERVE changes before it left in place, is the model's choice (log entry
32); where it is not the oldest, nothing happens (log entry 9). CAPACITY_SHED_TAKEN, PLAN_SHED_TAKEN,
BRIDGING_INRUSH_SHED. Model's choices: log entries 7, 9, 13, 28, 32, 64. -/
def Obligations.ShedRequestsAreCarriedOut : Prop :=
  (∀ (s : State) (zones : List Nat), zones.Nodup → (∀ z ∈ zones, z < 32) →
    (s.zc.cap ≠ .balanced ∨ s.zc.ride ≠ .normal) →
    (∀ rest, s.mail.capShed = zones :: rest →
      ∃ t, exec .capacityShedTaken s = .next t ∧ Touches zoneBlocks s t ∧
        (∃ later, t.mail.capShed = rest ++ later) ∧
        t.mail.capShedDone = s.mail.capShedDone ++
          [⟨zones.filter (runs s), zones.filter (fun z => !runs s z)⟩] ∧
        t.zc.readmit = s.zc.readmit ++ zones.filter (runs s) ∧ t.zc.queue = s.zc.queue ∧
        ∀ z < 32, if z ∈ zones ∧ runs s z = true then LeftFor s t z .shed
          else zoneAt t z = zoneAt s z) ∧
    (∀ rest, s.mail.planShed = zones :: rest →
      ∃ t, exec .planShedTaken s = .next t ∧ Touches zoneBlocks s t ∧ t.mail.planShed = rest ∧
        t.mail.planShedDone = s.mail.planShedDone ++
          [⟨zones.filter (runs s), zones.filter (fun z => !runs s z)⟩] ∧
        t.zc.readmit = s.zc.readmit ++ zones.filter (runs s) ∧ t.zc.queue = s.zc.queue ∧
        ∀ z < 32, if z ∈ zones ∧ runs s z = true then LeftFor s t z .shed
          else zoneAt t z = zoneAt s z)) ∧
  (∀ (s : State) (zones : List Nat), zones.Nodup → (∀ z ∈ zones, z < 32) → ZoneListsLaw s →
    readmitOpen s = false →
    (∀ rest, s.mail.capShed = zones :: rest →
      ∃ t done, exec .capacityShedTaken s = .next t ∧ Touches zoneBlocks s t ∧
        (∃ later, t.mail.capShed = rest ++ later) ∧
        t.mail.capShedDone = s.mail.capShedDone ++ [done] ∧ ShedWhileClosed s t zones done) ∧
    (∀ rest, s.mail.planShed = zones :: rest →
      ∃ t done, exec .planShedTaken s = .next t ∧ Touches zoneBlocks s t ∧ t.mail.planShed = rest ∧
        t.mail.planShedDone = s.mail.planShedDone ++ [done] ∧ ShedWhileClosed s t zones done)) ∧
  (∀ (s : State) (zones : List Nat), zones.Nodup → (∀ z ∈ zones, z < 32) → ZoneListsLaw s →
    readmitOpen s = true → (∃ z ∈ zones, runs s z = true) →
    (∀ rest, s.mail.capShed = zones :: rest →
      ∃ t, exec .capacityShedTaken s = .next t ∧ Touches zoneBlocks s t ∧ t.zc.readmit = [] ∧
        (∀ z ∈ zones, runs s z = true → Admitted t z ∧ (zoneAt t z).attempts = (zoneAt s z).attempts ∧
          (zoneAt t z).acked = false ∧ (zoneAt t z).inrush = .stopped ∧
          SwitchedOff t z (zoneCfg s z).feedEntry (zoneCfg s z).output) ∧
        ∃ done, t.mail.capShedDone = s.mail.capShedDone ++ [done] ∧
          ∀ z, (z ∈ zones ↔ z ∈ done.shed ∨ z ∈ done.passed) ∧
            (z ∈ zones → runs s z = true → z ∈ done.shed)) ∧
    (∀ rest, s.mail.planShed = zones :: rest →
      ∃ t, exec .planShedTaken s = .next t ∧ Touches zoneBlocks s t ∧ t.zc.readmit = [] ∧
        (∀ z ∈ zones, runs s z = true → Admitted t z ∧ (zoneAt t z).attempts = (zoneAt s z).attempts ∧
          (zoneAt t z).acked = false ∧ (zoneAt t z).inrush = .stopped ∧
          SwitchedOff t z (zoneCfg s z).feedEntry (zoneCfg s z).output) ∧
        ∃ done, t.mail.planShedDone = s.mail.planShedDone ++ [done] ∧
          ∀ z, (z ∈ zones ↔ z ∈ done.shed ∨ z ∈ done.passed) ∧
            (z ∈ zones → runs s z = true → z ∈ done.shed))) ∧
  ∀ s : State,
    (s.mail.rideToZone.find? (fun x => !isConserve x) = some (.state .bridging) →
      ∃ t, exec .bridgingInrushShed s = .next t ∧ Touches (.ride :: zoneBlocks) s t ∧
        t.zc.ride = .bridging ∧ t.ride = { s.ride with inrushShed := some (inrushZones s) } ∧
        (∃ before after, s.mail.rideToZone = before ++ .state .bridging :: after ∧
          t.mail.rideToZone = before ++ after) ∧
        t.zc.readmit = s.zc.readmit ++ inrushZones s ∧
        ∀ z < 32, if (zoneAt s z).state = .inrush then LeftFor s t z .shed
          else zoneAt t z = zoneAt s z) ∧
    (s.mail.rideToZone.find? (fun x => !isConserve x) ≠ some (.state .bridging) →
      exec .bridgingInrushShed s = .next s)

/-- R69, R80, R81: a group that enters ALARM isolates every in-use zone of its set that is not locked
out: an INRUSH or ON zone is switched off by a disable that its segment carries or that is owed,
with its acknowledged flag and inrush timer cleared; an OFF zone with adopt-pending set is given a
disable too and the flag clears; a QUEUED zone leaves the queue with its retry timer stopped, a SHED
one the re-admit list; attempt counts are kept. A group that leaves DRYING releases those that no
other group, as the Zone Controller was last told, holds. No other zone changes, but a QUEUED one
that the arbiter's runs may grant. LEAK_GROUP_DELIVERY. Model's choices: log entries 7, 13, 30. -/
def Obligations.LeakNewsIsolatesAndReleases : Prop :=
  ∀ (s : State) (news : GroupNews) (rest : List GroupNews), ZoneListsLaw s → news.group < 8 →
    s.mail.leakToZone = news :: rest →
    ∃ t, exec .leakGroupDelivery s = .next t ∧ Touches zoneBlocks s t ∧
      t.mail.leakToZone = rest ∧ t.zc.groups = put s.zc.groups news.group news.new ∧
      (news.new = .alarm → ∀ z < 32, groupHolds s news.group z = true →
        (zoneCfg s z).inUse = true →
        ((zoneAt t z).state = if (zoneAt s z).state = .lockout then .lockout else .isolated) ∧
        (zoneAt t z).attempts = (zoneAt s z).attempts ∧ z ∉ t.zc.queue ∧ z ∉ t.zc.readmit ∧
        ((zoneAt s z).state = .lockout ∨ (zoneAt s z).state = .isolated →
          zoneAt t z = zoneAt s z) ∧
        (runs s z = true → LeftFor s t z .isolated) ∧
        ((zoneAt s z).state = .queued → (zoneAt t z).retry = .stopped) ∧
        ((zoneAt s z).state = .shed → zoneAt t z = { zoneAt s z with state := .isolated }) ∧
        ((zoneAt s z).state = .off → (zoneAt s z).adoptPending = false →
          zoneAt t z = { zoneAt s z with state := .isolated }) ∧
        ((zoneAt s z).state = .off → (zoneAt s z).adoptPending = true →
          zoneAt t z = { zoneAt s z with
            state := .isolated, adoptPending := false
            disablePending := (zoneAt t z).disablePending } ∧
          SwitchedOff t z (zoneCfg s z).feedEntry (zoneCfg s z).output)) ∧
      (news.new ≠ .alarm → news.old = .drying → ∀ z < 32, groupHolds s news.group z = true →
        (zoneAt s z).state = .isolated →
        zoneAt t z = { zoneAt s z with
          state := if leakHeld t z = true then .isolated else .off }) ∧
      ∀ z < 32, (zoneAt s z).state ≠ .queued →
        ¬(news.new = .alarm ∧ groupHolds s news.group z = true ∧ (zoneCfg s z).inUse = true) →
        ¬(news.new ≠ .alarm ∧ news.old = .drying ∧ groupHolds s news.group z = true ∧
          (zoneAt s z).state = .isolated) →
        zoneAt t z = zoneAt s z

/-- R69, R74, R75, R77: a link that enters AUTONOMOUS with action SHED sheds every INRUSH and ON zone of the
shed tier and above, in shed order: each joins the tail of the re-admit list, its acknowledged flag and
inrush timer are cleared, and its output is switched off by a disable that its segment carries or that
is owed; any other change sheds none, and drains the re-admit list whole where re-admission is then open
(R79); the arbiter has run on either (R66), and the Zone Controller holds what it was told. R56, R66,
R79: the Zone Controller takes the capacity state, the energy figure, the ride-through state or CONSERVE
it is told of; the re-admit list then drains whole when re-admission is open, and stays as it is when it
is not. That a CONSERVE change is taken past a BRIDGING that waits for its own command (the last clause)
is the model's choice (log entry 32). LINK_STATE_DELIVERY, CAPACITY_DELIVERY and ENERGY_FIGURE_DELIVERY
at the Zone Controller, RIDE_DELIVERY_ZONE. Model's choices: log entries 7, 13, 16, 32. -/
def Obligations.NewsShedsAndReadmits : Prop :=
  (∀ (s : State) (news : LinkNews) (rest : List LinkNews), ZoneListsLaw s →
    1 ≤ news.shedTier → s.mail.linkToZone = news :: rest →
    ∃ t, exec .linkStateDelivery s = .next t ∧ Touches zoneBlocks s t ∧
      t.mail.linkToZone = rest ∧ t.zc.link = news.state ∧ t.zc.action = news.action ∧
      t.zc.shedTier = news.shedTier ∧ ArbiterRests t ∧
      (news.state = .autonomous → news.action = .shed →
        t.zc.readmit = s.zc.readmit ++
          (shedSequence s).filter (fun z => decide (news.shedTier ≤ (zoneCfg s z).tier)) ∧
        (∀ z < 32, news.shedTier ≤ (zoneCfg s z).tier → (zoneCfg s z).tier ≤ 3 →
          runs t z = false ∧ (runs s z = true → LeftFor s t z .shed)) ∧
        ∀ z < 32, (zoneCfg s z).tier < news.shedTier → (zoneAt s z).state ≠ .queued →
          zoneAt t z = zoneAt s z) ∧
      (news.state ≠ .autonomous ∨ news.action ≠ .shed →
        (t.zc.readmit = if readmitOpen (modZc (fun c => { c with
            link := news.state, action := news.action, shedTier := news.shedTier }) s) = true
          then [] else s.zc.readmit) ∧
        (t.zc.readmit = [] → ∀ z ∈ s.zc.readmit, Admitted t z) ∧
        ∀ z < 32, runs s z = true → zoneAt t z = zoneAt s z)) ∧
  (∀ (s : State) (news : CapNews) (rest : List CapNews), s.mail.capToZone = news :: rest →
    ∃ t, exec (.capacityDelivery .zoneController) s = .next t ∧ Touches zoneBlocks s t ∧
      t.zc.cap = news.state ∧ (∃ later, t.mail.capToZone = rest ++ later) ∧
      t.zc.readmit = if readmitOpen (modZc (fun c => { c with cap := news.state }) s) = true
        then [] else s.zc.readmit) ∧
  (∀ (s : State) (figure : Nat) (rest : List Nat), s.mail.energyToZone = figure :: rest →
    ∃ t, exec (.energyFigureDelivery .zoneController) s = .next t ∧ Touches zoneBlocks s t ∧
      t.zc.energy = figure ∧ t.mail.energyToZone = rest ∧
      t.zc.readmit = if readmitOpen (modZc (fun c => { c with energy := figure }) s) = true
        then [] else s.zc.readmit) ∧
  (∀ (s : State) (x : RideState) (rest : List RideNews), x ≠ .bridging →
    s.mail.rideToZone = .state x :: rest →
    ∃ t, exec .rideDeliveryZone s = .next t ∧ Touches zoneBlocks s t ∧ t.zc.ride = x ∧
      t.mail.rideToZone = rest ∧
      t.zc.readmit = if readmitOpen (modZc (fun c => { c with ride := x }) s) = true
        then [] else s.zc.readmit) ∧
  (∀ (s : State) (x : Bool) (rest : List RideNews), s.mail.rideToZone = .conserve x :: rest →
    ∃ t, exec .rideDeliveryZone s = .next t ∧ Touches zoneBlocks s t ∧ t.zc.conserve = x ∧
      t.mail.rideToZone = rest ∧
      t.zc.readmit = if readmitOpen (modZc (fun c => { c with conserve := x }) s) = true
        then [] else s.zc.readmit) ∧
  ∀ (s : State) (x : Bool) (rest : List RideNews),
    s.mail.rideToZone = .state .bridging :: .conserve x :: rest →
    ∃ t, exec .rideDeliveryZone s = .next t ∧ t.zc.conserve = x ∧
      t.mail.rideToZone = .state .bridging :: rest

/-! ## The Capacity Unit -/

/-- R46: a recomputation of available power counts the contributing rectifiers: the in-use RECTIFIER
entries in ACTIVE whose IN_STATE reads 0, an absent one reading 0 and any nonzero value 1; each
contributes the lesser of its rated power and its RATING reading, an absent one reading as the rated
power, and one that contributes 0 is still counted. -/
def Obligations.ContributingRectifiersAreCounted : Prop :=
  ∀ s : State, ∃ l : List Nat, l.Nodup ∧
    (∀ k, k ∈ l ↔ k < 48 ∧ (nodeCfg s k).inUse = true ∧ (nodeCfg s k).kind = .rectifier ∧
      (nodeAt s k).state = .active ∧
      ((nth (nodeAt s k).slots 0).present = true → (nth (nodeAt s k).slots 0).value = 0)) ∧
    (recomputeAvailable s).cap.count = l.length ∧
    (recomputeAvailable s).cap.available = availableOf (reserveCount s) (l.map fun k =>
      if (nth (nodeAt s k).slots 3).present = true
      then min (nodeCfg s k).rated (nth (nodeAt s k).slots 3).value else (nodeCfg s k).rated)

/-- R47: the reserve count k is a setting from 0 to 3 with default 1. With n contributions, available
power is 0 where n is at most k, and otherwise their sum less the sum of the k largest; which of equal
ones count among the largest makes no difference, with k = 0 it is the whole sum, and the loss of any k
rectifiers leaves at least the available power in service. -/
def Obligations.AvailablePowerHoldsTheReserve : Prop :=
  (reserveCount State.reset = 1 ∧
    ∀ s : State, SettingsFit s.tables.settings → reserveCount s ≤ 3) ∧
  ∀ s : State,
    let k := reserveCount s
    let given := (contributors s).map (contribution s)
    let power := (recomputeAvailable s).cap.available
    (given.length ≤ k → power = 0) ∧
    (k < given.length →
      (∃ big rest, given.Perm (big ++ rest) ∧ big.length = k) ∧
      ∀ big rest, given.Perm (big ++ rest) → big.length = k →
        ((∀ x ∈ big, ∀ y ∈ rest, y ≤ x) → power + big.sum = given.sum) ∧
        power ≤ rest.sum) ∧
    (k = 0 → power = given.sum)

/-- R51: leaving NORMAL suspends the unit and cancels a grace period; the return to NORMAL evaluates the
figures as from BALANCED. R52 to R55, R74: at the expiry of the grace timer, unless a shed is
outstanding, the shortest run of the shed order (INRUSH zones, then ON zones of tier 3, 2 and 1,
each by index descending) that brings committed power down to available power is recorded and handed
over, with CAPACITY_SHORT where the whole order does not reach it. R54, R55, R124: a completion
clears the mark it answers; a deficit whose grace has expired is then evaluated once more.
CAPACITY_RIDE_NOTICE, GRACE_TIMER_EXPIRY, CAPACITY_SHED_COMPLETION, PLAN_SHED_COMPLETION. Model's
choices: log entries 1, 7, 9. -/
def Obligations.CapacityIsSuspendedAndSheds : Prop :=
  (∀ (s : State) (normal : Bool) (rest : List Bool), s.mail.rideToCap = normal :: rest →
    ∃ t, exec .capacityRideNotice s = .next t ∧ Touches [.port, .cap, .mail] s t ∧
      t.mail.rideToCap = rest ∧ t.cap.available = s.cap.available ∧
      t.cap.committed = s.cap.committed ∧ t.cap.count = s.cap.count ∧
      (normal = false → t.cap = { s.cap with
          state := .suspended, grace := .none, graceTimer := .stopped, short := false } ∧
        t.port = s.port) ∧
      (normal = true → s.cap.committed ≤ s.cap.available → t.cap = { s.cap with
          state := .balanced, grace := .none, graceTimer := .stopped, short := false } ∧
        t.port = s.port) ∧
      (normal = true → s.cap.available < s.cap.committed → t.cap.state = .deficit ∧
        t.cap.deficits = min 65535 (s.cap.deficits + 1) ∧
        inFlagSet t.port.flags .deficit = true ∧
        (graceTime s ≠ 0 → t.cap.grace = .running ∧
          t.cap.graceTimer = .running (s.now + graceTime s) ∧ t.cap.lastShed = s.cap.lastShed) ∧
        (graceTime s = 0 → t.cap.grace = .expired ∧ t.cap.graceTimer = .stopped))) ∧
  (∀ (s : State) (d : Nat),
    (s.cap.graceTimer = .stopped → exec .graceTimerExpiry s = .next s) ∧
    (s.cap.graceTimer = .running d →
      ∃ t, exec .graceTimerExpiry s = .next t ∧ Touches [.now, .port, .cap, .mail] s t ∧
        t.now = max s.now d ∧ t.cap.grace = .expired ∧ t.cap.graceTimer = .stopped ∧
        t.cap.state = s.cap.state ∧ t.cap.available = s.cap.available ∧
        t.cap.committed = s.cap.committed ∧
        (s.cap.outstanding = true → t.cap.lastShed = s.cap.lastShed ∧ t.mail = s.mail ∧
          t.port = s.port ∧ t.cap.outstanding = true) ∧
        (s.cap.outstanding = false → ∃ r, t.cap.lastShed = some r ∧
          r.available = s.cap.available ∧ r.committed = s.cap.committed ∧
          WalksTo (shedSequence s) (allotment s) s.cap.committed s.cap.available r.zones
            r.remainder ∧
          r.exhausted = decide (s.cap.available < r.remainder) ∧
          (r.zones ≠ [] → t.cap.outstanding = true ∧
            t.cap.sheds = min 65535 (s.cap.sheds + 1) ∧
            t.mail = { s.mail with capShed := s.mail.capShed ++ [r.zones] } ∧
            inFlagSet t.port.flags .deficit = true) ∧
          (r.zones = [] → t.cap.outstanding = false ∧ t.mail = s.mail) ∧
          (r.exhausted = true → t.cap.short = true ∧
            (s.cap.short = false → inFlagSet t.port.flags .capacityShort = true))))) ∧
  (∀ (s : State) (d : ShedDone) (rest : List ShedDone), s.mail.capShedDone = d :: rest →
    ((s.cap.state ≠ .deficit ∨ s.cap.grace ≠ .expired) →
      exec .capacityShedCompletion s = .next (modCap (fun c => { c with outstanding := false })
        (modMail (fun m => { m with capShedDone := rest }) s))) ∧
    (s.cap.state = .deficit → s.cap.grace = .expired →
      ∃ t, exec .capacityShedCompletion s = .next t ∧ Touches [.port, .cap, .mail] s t ∧
        t.mail.capShedDone = rest ∧ t.cap.available = s.cap.available ∧
        t.cap.committed = s.cap.committed ∧
        (s.cap.committed ≤ s.cap.available →
          t.cap.state = .balanced ∧ t.cap.grace = .none ∧ t.cap.outstanding = false) ∧
        (s.cap.available < s.cap.committed → t.cap.state = .deficit ∧
          ∃ r, t.cap.lastShed = some r ∧
            WalksTo (shedSequence s) (allotment s) s.cap.committed s.cap.available r.zones
              r.remainder ∧
            (t.cap.outstanding = true ↔ r.zones ≠ [])))) ∧
  ∀ (s : State) (d : ShedDone) (rest : List ShedDone), s.mail.planShedDone = d :: rest →
    exec .planShedCompletion s = .next (modRide (fun r => { r with
        pendingSet := r.pendingSet.filter fun z => !(d.shed.contains z || d.passed.contains z) })
      (modMail (fun m => { m with planShedDone := rest }) s))

/-! ## The Sequencer -/

/-- R102: a SEQ_RUN outside the table is answered RANGE, one under the EPO latch EPO, with no effect;
any other is accepted: the program runs from its first step, or is held while the Ride-Through Unit is
not NORMAL, and an armed autostart is cancelled. R95 to R101: the first step starts by its kind: a
ZONE_ON asks for its zone, a DELAY and a wait whose condition is not met wait with their time, and every
other step completes or is skipped at once, a MARK with SEQ_MARK, and the program goes on to its next
step or is DONE. SEQ_RUN. Model's choices: log entry 8. -/
def Obligations.SeqRunStartsAProgram : Prop :=
  ∀ (tag start count : Byte) (s : State), Ready s →
    (63 < start.toNat ∨ count = 0#8 ∨ 64 < start.toNat + count.toNat →
      exec (.seqRun tag start count) s = .next (respond (answer tag 0x08#8 .range []) s)) ∧
    (start.toNat ≤ 63 → count ≠ 0#8 → start.toNat + count.toNat ≤ 64 → s.zc.epoLatch = true →
      exec (.seqRun tag start count) s = .next (respond (answer tag 0x08#8 .epo []) s)) ∧
    (start.toNat ≤ 63 → count ≠ 0#8 → start.toNat + count.toNat ≤ 64 → s.zc.epoLatch = false →
      ∃ t, exec (.seqRun tag start count) s = .next t ∧ Touches [.port, .seq, .mail] s t ∧
        t.port.responses = s.port.responses ++ [answer tag 0x08#8 .ok []] ∧
        t.seq.desc = some ⟨start.toNat, count.toNat⟩ ∧
        start.toNat ≤ t.seq.pointer ∧ t.seq.pointer < start.toNat + count.toNat ∧
        t.seq.autostart =
          (if s.seq.autostart = .armed then .cancelled else s.seq.autostart) ∧
        (s.seq.state = .idle ∨ s.seq.state = .done ∨ s.seq.state = .failed →
          t.seq.fail = none ∧
          (s.seq.rideNormal = true → t.seq.state = .running ∨ t.seq.state = .done) ∧
          (s.seq.rideNormal = false → t.seq.state = .held ∧ t.seq.pointer = start.toNat ∧
            t.seq.skips = 0 ∧ t.seq.phase = .none ∧ t.seq.timer = .stopped)) ∧
        (s.seq.state = .running → t.seq.state = .running ∨ t.seq.state = .done) ∧
        (s.seq.state = .held → t.seq.state = .held ∧ t.seq.pointer = start.toNat ∧
          t.seq.skips = 0 ∧ t.seq.phase = .none ∧ t.seq.timer = .stopped) ∧
        (s.seq.state = .running ∨ (s.seq.state ≠ .held ∧ s.seq.rideNormal = true) →
          ∀ x, x = nth s.tables.steps start.toNat →
          (¬EndsAtOnce s x → t.seq.state = .running ∧ t.seq.pointer = start.toNat ∧
            t.seq.skips = 0 ∧ t.seq.stepInst = s.seq.stepInst + 1 ∧
            (x.kind = .zoneOn → t.seq.phase = .asking ∧ t.seq.timer = .stopped ∧
              t.mail = { s.mail with
                seqAsk := s.mail.seqAsk ++ [⟨s.seq.stepInst + 1, x.operand⟩] }) ∧
            (x.kind ≠ .zoneOn → t.seq.phase = .waiting ∧ t.mail = s.mail ∧
              t.seq.timer =
                (if x.kind = .delay then .running (s.now + x.operand)
                 else if x.timeout = 0 then .stopped else .running (s.now + x.timeout)))) ∧
          (EndsAtOnce s x →
            (x.kind = .mark → inFlagSet t.port.flags .seqMark = true) ∧
            (SkippedAtOnce s x → inFlagSet t.port.flags .seqSkip = true) ∧
            (count ≠ 1#8 → start.toNat < t.seq.pointer) ∧
            (count = 1#8 → t.seq.state = .done ∧ t.seq.pointer = start.toNat ∧
              t.seq.phase = .none ∧ t.seq.timer = .stopped ∧ t.mail = s.mail ∧
              inFlagSet t.port.flags .seqEnd = true ∧
              (SkippedAtOnce s x → t.seq.skips = 1) ∧
              (¬SkippedAtOnce s x → t.seq.skips = 0)))))

/-- R95, R96, R98, R105: an answer of another step instance is discarded; QUEUED and PRESENT complete
the current step, REFUSED skips it, REFUSED_EPO fails the program; a step timer that expires completes
a DELAY and fails a wait with reason TIMEOUT. The last step's end ends the program. SEQ_ZONE_ANSWER,
STEP_TIMER_EXPIRY. Model's choices: log entries 1, 7. -/
def Obligations.StepEndsByAnswerOrTimer : Prop :=
  (∀ (s : State) (a : SeqAnswer) (rest : List SeqAnswer), s.mail.seqAnswer = a :: rest →
    (s.seq.state ≠ .running ∨ s.seq.phase ≠ .asking ∨ s.seq.stepInst ≠ a.stepInst →
      exec .seqZoneAnswer s = .next (modMail (fun m => { m with seqAnswer := rest }) s)) ∧
    (s.seq.state = .running → s.seq.phase = .asking → s.seq.stepInst = a.stepInst →
      ∃ t, exec .seqZoneAnswer s = .next t ∧ Touches [.port, .seq, .mail] s t ∧
        t.mail.seqAnswer = rest ∧
        (a.answer = .refusedEpo → t.seq.state = .failed ∧
          t.seq.fail = some ⟨s.seq.pointer, .epo⟩ ∧ inFlagSet t.port.flags .seqEnd = true) ∧
        (a.answer = .refused → inFlagSet t.port.flags .seqSkip = true) ∧
        (a.answer ≠ .refusedEpo → s.seq.pointer = lastStep (descOf s) →
          t.seq.state = .done ∧ t.seq.pointer = s.seq.pointer ∧
            t.seq.skips = s.seq.skips + (if a.answer = .refused then 1 else 0) ∧
            inFlagSet t.port.flags .seqEnd = true) ∧
        (a.answer ≠ .refusedEpo → s.seq.pointer ≠ lastStep (descOf s) →
          s.seq.pointer < t.seq.pointer))) ∧
  ∀ (s : State) (d : Nat), s.seq.timer = .running d → s.seq.state = .running →
    s.seq.phase = .waiting →
    ∃ t, exec .stepTimerExpiry s = .next t ∧ Touches [.now, .port, .seq, .mail] s t ∧
      t.now = max s.now d ∧
      ((currentStep s).kind ≠ .delay → t.seq.state = .failed ∧
        t.seq.fail = some ⟨s.seq.pointer, .timeout⟩ ∧ t.seq.timer = .stopped ∧
        inFlagSet t.port.flags .seqEnd = true) ∧
      ((currentStep s).kind = .delay → s.seq.pointer = lastStep (descOf s) →
        t.seq.state = .done ∧ inFlagSet t.port.flags .seqEnd = true) ∧
      ((currentStep s).kind = .delay → s.seq.pointer ≠ lastStep (descOf s) →
        s.seq.pointer < t.seq.pointer)

/-- R97, R99, R100: a delivery ends a wait step whose condition it meets, and is otherwise only taken:
WAIT_ON by its zone's ON, ISOLATED or LOCKOUT, WAIT_HEADROOM by the headroom, WAIT_CHARGE by the
energy figure. ZONE_STATE_DELIVERY, CAPACITY_DELIVERY and ENERGY_FIGURE_DELIVERY at the Sequencer.
Model's choices: log entry 7. -/
def Obligations.WaitStepEndsByDelivery : Prop :=
  (∀ (s : State) (news : ZoneNews) (rest : List ZoneNews), s.mail.zoneToSeq = news :: rest →
    ∃ t, exec .zoneStateDelivery s = .next t ∧ Touches [.port, .seq, .mail] s t ∧
      t.mail.zoneToSeq = rest ∧
      (waitsFor .waitOn s = true → (currentStep s).operand = news.zone →
        news.new = .on ∨ news.new = .isolated ∨ news.new = .lockout →
        (s.seq.pointer = lastStep (descOf s) → t.seq.state = .done) ∧
        (s.seq.pointer ≠ lastStep (descOf s) → s.seq.pointer < t.seq.pointer) ∧
        (news.new ≠ .on → inFlagSet t.port.flags .seqSkip = true)) ∧
      (waitsFor .waitOn s = false ∨ (currentStep s).operand ≠ news.zone ∨
        (news.new ≠ .on ∧ news.new ≠ .isolated ∧ news.new ≠ .lockout) →
        t.seq = s.seq ∧ t.port = s.port)) ∧
  (∀ (s : State) (news : CapNews) (rest : List CapNews), s.mail.capToSeq = news :: rest →
    ∃ t, exec (.capacityDelivery .sequencer) s = .next t ∧ Touches [.port, .seq, .mail] s t ∧
      t.mail.capToSeq = rest ∧
      (waitsFor .waitHeadroom s = true →
        (currentStep s).operand ≤ news.available - news.committed →
        (s.seq.pointer = lastStep (descOf s) → t.seq.state = .done) ∧
        (s.seq.pointer ≠ lastStep (descOf s) → s.seq.pointer < t.seq.pointer)) ∧
      (waitsFor .waitHeadroom s = false ∨
        news.available - news.committed < (currentStep s).operand →
        t.seq = s.seq ∧ t.port = s.port)) ∧
  ∀ (s : State) (figure : Nat) (rest : List Nat), s.mail.energyToSeq = figure :: rest →
    ∃ t, exec (.energyFigureDelivery .sequencer) s = .next t ∧ Touches [.port, .seq, .mail] s t ∧
      t.mail.energyToSeq = rest ∧
      (waitsFor .waitCharge s = true → (currentStep s).operand ≤ figure →
        (s.seq.pointer = lastStep (descOf s) → t.seq.state = .done) ∧
        (s.seq.pointer ≠ lastStep (descOf s) → s.seq.pointer < t.seq.pointer)) ∧
      (waitsFor .waitCharge s = false ∨ figure < (currentStep s).operand →
        t.seq = s.seq ∧ t.port = s.port)

/-- R103: a SEQ_STOP is always answered OK: it takes a RUNNING or HELD program to IDLE with reason STOPPED,
cancels an armed autostart in IDLE, and has no other effect; that the request row is served in its own
step under Ready is the model's choice (log entry 8). R104, R105: leaving NORMAL holds a running program
at its step, which starts afresh at the return; the notice of the EPO latch fails a RUNNING or HELD
program. R106: a report of a completed first scan is taken, and an armed autostart starts its
descriptor, of settings that keep their law (R164), where the first scan of every enabled segment is
COMPLETE, and fails it under the EPO latch (that the report waits for a command of its own is the
model's choice, log entry 21, and so is the descriptor that a program failed under the latch leaves, log
entry 46). SEQ_STOP, SEQUENCER_RIDE_NOTICE, EPO_FAIL_NOTICE, AUTOSTART. Model's choices: log entries 7,
8, 9. -/
def Obligations.ProgramIsHeldFailedAndAutostarted : Prop :=
  (∀ (tag : Byte) (s : State), Ready s →
    exec (.seqStop tag) s = .next (respond (answer tag 0x09#8 .ok []) (modSeq (fun q =>
      if s.seq.state = .running ∨ s.seq.state = .held then
        { q with state := .idle, fail := some ⟨q.pointer, .stopped⟩, timer := .stopped,
                 phase := .none }
      else if s.seq.state = .idle ∧ s.seq.autostart = .armed then { q with autostart := .cancelled }
      else q) s))) ∧
  (∀ s : State, s.mail.firstScans = 0 → exec .autostart s = .next s) ∧
  (∀ (s : State) (n : Nat), s.mail.firstScans = n + 1 →
    (¬StartConditionMet s.seq s →
      exec .autostart s = .next (modMail (fun m => { m with firstScans := n }) s)) ∧
    (StartConditionMet s.seq s →
      ∃ t, exec .autostart s = .next t ∧ Touches [.port, .seq, .mail] s t ∧
        t.mail = { s.mail with firstScans := n, seqAsk := t.mail.seqAsk } ∧
        (SettingsLaw s → Autostarted s.seq s.mail.seqAsk (setting s 19) (setting s 20) t))) ∧
  (∀ (s : State) (rest : List Bool), s.mail.rideToSeq = false :: rest →
    exec .sequencerRideNotice s = .next (modSeq (fun q =>
        if s.seq.state = .running then
          { q with rideNormal := false, state := .held, timer := .stopped, phase := .none }
        else { q with rideNormal := false })
      (modMail (fun m => { m with rideToSeq := rest }) s))) ∧
  (∀ (s : State) (rest : List Bool), s.mail.rideToSeq = true :: rest →
    (s.seq.state ≠ .held →
      exec .sequencerRideNotice s = .next (modSeq (fun q => { q with rideNormal := true })
        (modMail (fun m => { m with rideToSeq := rest }) s))) ∧
    (s.seq.state = .held →
      ∃ t, exec .sequencerRideNotice s = .next t ∧ Touches [.port, .seq, .mail] s t ∧
        t.mail.rideToSeq = rest ∧ t.seq.rideNormal = true ∧
        (t.seq.state = .running ∨ t.seq.state = .done) ∧ s.seq.pointer ≤ t.seq.pointer ∧
        s.seq.stepInst < t.seq.stepInst ∧
        ((currentStep s).kind = .delay → (currentStep s).operand ≠ 0 →
          t.seq = { s.seq with
            state := .running, rideNormal := true, stepInst := s.seq.stepInst + 1,
            phase := .waiting, timer := .running (s.now + (currentStep s).operand) }))) ∧
  (∀ s : State, s.mail.epoFail = 0 → exec .epoFailNotice s = .next s) ∧
  ∀ (s : State) (n : Nat), s.mail.epoFail = n + 1 →
    ∃ t, exec .epoFailNotice s = .next t ∧ Touches [.port, .seq, .mail] s t ∧
      t.mail = { s.mail with epoFail := n } ∧
      (s.seq.state = .running ∨ s.seq.state = .held →
        t.seq = { s.seq with
          state := .failed, fail := some ⟨s.seq.pointer, .epo⟩, timer := .stopped,
          phase := .none } ∧
        inFlagSet t.port.flags .seqEnd = true) ∧
      (s.seq.state ≠ .running → s.seq.state ≠ .held → t.seq = s.seq ∧ t.port = s.port)

/-! ## The Ride-Through Unit -/

/-- R117, R118: RIDE_RELEASE is answered OK, clears CONSERVE and the episode count and stops the
window, and a CONSERVE it clears is lifted at the Zone Controller in the same handling (R149, log
entry 17); the window's own expiry clears the count alone. RIDE_RELEASE, EPISODE_WINDOW_EXPIRY.
Model's choices: log entries 1, 8, 9. -/
def Obligations.RideReleaseLiftsConserve : Prop :=
  (∀ (tag : Byte) (s : State), Ready s →
    ∃ t, exec (.rideRelease tag) s = .next t ∧ Touches (.ride :: zoneBlocks) s t ∧
      t.port.responses = s.port.responses ++ [answer tag 0x0C#8 .ok []] ∧
      t.ride = { s.ride with conserve := false, episodes := 0, window := .stopped } ∧
      (s.ride.conserve = true → t.zc.conserve = false ∧
        inFlagSet t.port.flags .rideChange = true) ∧
      (s.ride.conserve = false → t.zc = s.zc ∧ t.port.flags = s.port.flags ∧ t.mail = s.mail)) ∧
  ∀ (s : State) (d : Nat),
    (s.ride.window = .running d → exec .episodeWindowExpiry s = .next (atTime d
      { s with ride := { s.ride with episodes := 0, window := .stopped } })) ∧
    (s.ride.window = .stopped → exec .episodeWindowExpiry s = .next s)

/-- R111 to R118, R126: a level accepted on an AC-sense line, as a sample of it, makes the line part and the
indication. A rise takes NORMAL to SUSPECT with the confirm timer, or to BRIDGING where the confirm time
is 0, and tells the Capacity Unit and the Sequencer; it takes RESTORING back to BRIDGING. A fall takes
SUSPECT back to NORMAL, and BRIDGING to RESTORING with the settle timer, or to NORMAL where the settle
time is 0. An indication that stays moves nothing. LINE_SAMPLE. Model's choices: log entries 1, 7, 9. -/
def Obligations.IndicationMovesTheRideState : Prop :=
  ∀ (i : Fin 11) (drive : PinDrive) (s : State) (d : Nat), i.val < 2 →
    (lineAt s i).timer = .running d →
    ∃ t, exec (.lineSample i drive) s = .next t ∧
      Touches [.now, .free, .port, .ride, .leak, .lines, .mail] s t ∧
      ((lineAt t i).accepted = (lineAt s i).accepted → t.ride = s.ride) ∧
      ((lineAt t i).accepted ≠ (lineAt s i).accepted →
        t.ride.linePart = linePartOf t ∧ t.ride.rectPart = rectPartOf s ∧
        t.ride.indication = (t.ride.linePart || t.ride.rectPart)) ∧
      (t.ride.indication = s.ride.indication → t.mail = s.mail ∧ t.port = s.port ∧
        t.leak = s.leak ∧
        t.ride = { s.ride with linePart := t.ride.linePart, rectPart := t.ride.rectPart }) ∧
      (s.ride.indication = false → t.ride.indication = true →
        (s.ride.state = .normal →
          t.mail.rideToCap = s.mail.rideToCap ++ [false] ∧
          t.mail.rideToSeq = s.mail.rideToSeq ++ [false] ∧
          inFlagSet t.port.flags .rideChange = true ∧
          (confirmTime s ≠ 0 → t.ride.state = .suspect ∧
            t.ride.confirm = .running (t.now + confirmTime s) ∧
            t.mail.rideToZone = s.mail.rideToZone ++ [.state .suspect]) ∧
          (confirmTime s = 0 → EntersBridging s t)) ∧
        (s.ride.state = .restoring → EntersBridging s t ∧
          t.mail.rideToCap = s.mail.rideToCap ∧ t.mail.rideToSeq = s.mail.rideToSeq) ∧
        (s.ride.state = .suspect ∨ s.ride.state = .bridging →
          t.ride.state = s.ride.state ∧ t.mail = s.mail)) ∧
      (s.ride.indication = true → t.ride.indication = false →
        (s.ride.state = .suspect → EntersNormal s t) ∧
        (s.ride.state = .bridging → t.ride.bridgeLine = false ∧ t.leak.bridging = false ∧
          t.port.bridging = false ∧ t.ride.recompute = .stopped ∧
          t.ride.elapsed = .stopped (elapsedOf { s with now := t.now }) ∧
          (settleTime s = 0 → EntersNormal s t) ∧
          (settleTime s ≠ 0 → t.ride.state = .restoring ∧
            t.ride.settle = .running (t.now + 100 * settleTime s) ∧
            t.mail = { s.mail with rideToZone := s.mail.rideToZone ++ [.state .restoring] } ∧
            inFlagSet t.port.flags .rideChange = true)) ∧
        (s.ride.state = .normal ∨ s.ride.state = .restoring →
          t.ride.state = s.ride.state ∧ t.mail = s.mail))

/-- R113 to R118, R121 to R126: a loss that is confirmed enters BRIDGING, which drives BRIDGE, counts
the episode and sets CONSERVE at its limit, starts the elapsed time and the recompute timer, and tells
the Zone Controller; it evaluates a plan with no time gone, from the figures and the zones as they stand,
and hands its shed list over; a settle time that runs out enters NORMAL and tells every block.
CONFIRM_TIMER_EXPIRY, SETTLE_TIMER_EXPIRY. Model's choices: log entries 1, 7, 9. -/
def Obligations.RideTimersEnterBridgingAndNormal : Prop :=
  (∀ (s : State) (d : Nat), s.ride.confirm = .running d → s.ride.state = .suspect →
    ∃ t, exec .confirmTimerExpiry s = .next t ∧
      Touches [.now, .port, .ride, .leak, .mail] s t ∧ t.now = max s.now d ∧
      EntersBridging s t ∧
      t.mail.rideToCap = s.mail.rideToCap ∧ t.mail.rideToSeq = s.mail.rideToSeq) ∧
  (∀ (s : State) (d : Nat), s.ride.settle = .running d → s.ride.state = .restoring →
    ∃ t, exec .settleTimerExpiry s = .next t ∧ Touches [.now, .port, .ride, .mail] s t ∧
      t.now = max s.now d ∧
      t.ride = { s.ride with state := .normal, confirm := .stopped, settle := .stopped } ∧
      EntersNormal s t) ∧
  ∀ s : State,
    (s.ride.confirm = .stopped → exec .confirmTimerExpiry s = .next s) ∧
    (s.ride.settle = .stopped → exec .settleTimerExpiry s = .next s)

/-- R121 to R125: at the expiry of the recompute timer in BRIDGING the timer starts again and a plan
is evaluated: the load of the ON zones that no plan has yet taken, the time still needed, the target,
and the shortest run of the shed order that brings the load down to the target, which is handed over
and joins the pending set. R119 to R121: a BATTERY entry that a reply, a miss or NODE_DISABLE takes into
ACTIVE or out of it changes its copy and the four figures, tells a changed energy figure, and in BRIDGING
has a plan evaluated in the same handling with the figures so left, the recompute timer running on; outside
BRIDGING, or where the copy stays ACTIVE or not, no plan is evaluated. RECOMPUTE_TIMER_EXPIRY,
REPLY_COMPLETE, REPLY_WINDOW_EXPIRY, REPLY_SILENCE, READBACK_MISMATCH, NODE_DISABLE. Model's choices: log
entries 1, 7, 8, 9, 20. -/
def Obligations.RecomputeEvaluatesAPlan : Prop :=
  (∀ (s : State) (d : Nat),
    (s.ride.recompute = .stopped → exec .recomputeTimerExpiry s = .next s) ∧
    (s.ride.recompute = .running d → s.ride.state = .bridging →
      ∃ t p, exec .recomputeTimerExpiry s = .next t ∧
        Touches [.now, .port, .ride, .mail] s t ∧ t.now = max s.now d ∧
        t.ride = { s.ride with
          recompute := .running (t.now + recomputePeriod s)
          lastPlan := some p
          short := s.ride.short || p.outcome == .exhausted
          pendingSet := s.ride.pendingSet ++ p.shed } ∧
        p.occasion = .recompute ∧ p.episode = s.ride.episodes ∧ PlanFigures s (elapsedOf t) p ∧
        t.mail = (if p.shed = [] then s.mail
          else { s.mail with planShed := s.mail.planShed ++ [p.shed] }) ∧
        (p.shed ≠ [] → inFlagSet t.port.flags .rideShed = true) ∧
        (p.outcome = .exhausted → s.ride.short = false →
          inFlagSet t.port.flags .rideShort = true))) ∧
  ∀ (s : State) (command : Instr) (k : Nat), k < 48 → (nodeCfg s k).inUse = true →
    (nodeCfg s k).kind = .battery →
    ((nth s.ride.copies k).active = true ↔ (nodeAt s k).state = .active) →
    ((∃ i : Fin 4, ∃ c, (segAt s i).current = some c ∧ c.ex.target = k ∧ c.stale = false ∧
        ((∃ bytes f, command = .replyComplete i bytes ∧ c.phase = .receiving ∧
            goodReply c bytes = some f) ∨
          (c.ex.kind = .poll ∧ c.ex.cls = .poll ∧
            ((command = .replyWindowExpiry i ∧ c.phase = .waiting ∧ c.timer ≠ .stopped) ∨
              (command = .replySilence i ∧ c.phase = .receiving) ∨
              (∃ index, command = .readbackMismatch i index ∧ c.phase = .sending))))) ∨
      (∃ tag entry : Byte, command = .nodeDisable tag entry ∧ entry.toNat = k ∧ Ready s)) →
    ∃ t, exec command s = .next t ∧
      (((nodeAt t k).state = .active ↔ (nodeAt s k).state = .active) →
        t.ride.lastPlan = s.ride.lastPlan ∧ t.ride.pendingSet = s.ride.pendingSet ∧
        t.mail.planShed = s.mail.planShed) ∧
      (¬((nodeAt t k).state = .active ↔ (nodeAt s k).state = .active) →
        let copies := put s.ride.copies k (if (nodeAt t k).state = .active
          then ⟨true, reading (nodeAt t k) 6 0, reading (nodeAt t k) 7 0⟩ else ⟨false, 0, 0⟩)
        let active := copies.toList.filter (fun c => c.active)
        let eSum := (active.map (fun c => c.energy)).sum
        let u : State := { s with
          ride := { s.ride with
            copies := copies
            batteries := active.length
            eSum := eSum
            pCap := (active.map (fun c => c.limit)).sum
            energy := (eSum - eSum * reserveFraction s / 256) * efficiency s / 256 } }
        t.mail.energyToZone = s.mail.energyToZone ++
          (if u.ride.energy = s.ride.energy then [] else [u.ride.energy]) ∧
        t.mail.energyToSeq = s.mail.energyToSeq ++
          (if u.ride.energy = s.ride.energy then [] else [u.ride.energy]) ∧
        (s.ride.state ≠ .bridging → t.ride = u.ride ∧ t.mail.planShed = s.mail.planShed) ∧
        (s.ride.state = .bridging → ∃ p,
          p.occasion = .battery ∧ p.episode = s.ride.episodes ∧
          PlanFigures u (elapsedOf { s with now := t.now }) p ∧
          t.ride = { u.ride with
            lastPlan := some p
            short := s.ride.short || p.outcome == .exhausted
            pendingSet := s.ride.pendingSet ++ p.shed } ∧
          t.mail.planShed = s.mail.planShed ++ (if p.shed = [] then [] else [p.shed]) ∧
          (p.shed ≠ [] → inFlagSet t.port.flags .rideShed = true) ∧
          (p.outcome = .exhausted → s.ride.short = false →
            inFlagSet t.port.flags .rideShort = true)))

/-! ## The Leak Monitor -/

/-- R42, R131, R133, R136, R138, R142, R144: a channel in use follows its source: an accepted level of
its leak line, or the SENSE item of a TELEMETRY reply of its LEAK entry, moves it by R133's table
(wet: DRY to PENDING or WET; dry: WET to DRY, PENDING back to DRY with a glitch counted, or to FAULT
at the chatter limit; open: to FAULT), and each group is placed by the counts its channels then
give. A source that no longer speaks, by a disabled leak line, or an entry disabled or lost, takes
its channels to FAULT. LINE_SAMPLE, REPLY_COMPLETE, TABLE_DATA, NODE_DISABLE, REPLY_WINDOW_EXPIRY.
Model's choices: log entries 1, 7, 8, 20, 37, 60 (60: a line write that turns a line off delivers no
level). -/
def Obligations.LeakChannelsFollowTheirSources : Prop :=
  (∀ (i : Fin 11) (drive : PinDrive) (s : State) (d : Nat), 3 ≤ i.val →
    (lineAt s i).timer = .running d →
    ∃ t, exec (.lineSample i drive) s = .next t ∧
      Touches [.now, .free, .port, .leak, .lines, .mail] s t ∧
      ((lineAt t i).accepted = (lineAt s i).accepted → t.leak = s.leak ∧ t.mail = s.mail) ∧
      ∀ level, (lineAt t i).accepted = some level → (lineAt s i).accepted ≠ some level →
        (∀ c < 32, channelAt t c =
          if c = i - 3 ∧ (channelCfg s c).inUse = true then
            indicated (channelCfg s c) t.now (channelAt s c)
              (if level = (lineCfg s i).active then .wet else .dry)
          else channelAt s c) ∧
        ((channelAt t (i - 3)).state = .fault → (channelAt s (i - 3)).state ≠ .fault →
          inFlagSet t.port.flags .leakFault = true) ∧
        (LeakLaw s → GroupsFollow s t ∧ t.leak.pattern = beaconChoice t.leak)) ∧
  (∀ (i : Fin 4) (s : State) (x : Current) (bytes : List Byte) (f : Frame),
    (segAt s i).current = some x → x.phase = .receiving → goodReply x bytes = some f →
    f.kind = telemetryByte → x.stale = false → x.ex.target < 48 →
    (nodeCfg s x.ex.target).inUse = true → (nodeCfg s x.ex.target).kind = .leak →
    (nodeAt s x.ex.target).state ≠ .disabled →
    ∃ t, exec (.replyComplete i bytes) s = .next t ∧ Touches inspectBlocks s t ∧
      (∀ c < 32, channelAt t c =
        if 8 ≤ c ∧ (channelCfg s c).inUse = true ∧ (channelCfg s c).source = x.ex.target then
          (((itemsTaken .leak f.payload).find? fun y =>
            y.code == 20 + (channelCfg s c).sense).map fun y =>
              indicated (channelCfg s c) s.now (channelAt s c) (senseIndication y.value)).getD
            (channelAt s c)
        else channelAt s c) ∧
      ((∃ c < 32, (channelAt t c).state = .fault ∧ (channelAt s c).state ≠ .fault) →
        inFlagSet t.port.flags .leakFault = true) ∧
      (LeakLaw s → GroupsFollow s t)) ∧
  (∀ (tag entry : Byte) (s : State), Ready s → entry.toNat ≤ 47 →
    (nodeCfg s entry.toNat).inUse = true → (nodeCfg s entry.toNat).kind = .leak →
    (nodeAt s entry.toNat).state ≠ .disabled →
    ∃ t, exec (.nodeDisable tag entry) s = .next t ∧ SourceLost s t entry.toNat) ∧
  (∀ (i : Fin 4) (s : State) (x : Current), (segAt s i).current = some x → x.phase = .waiting →
    x.timer ≠ .stopped → x.ex.kind = .poll → x.ex.cls = .poll → x.stale = false →
    x.ex.target < 48 → (nodeCfg s x.ex.target).inUse = true →
    (nodeCfg s x.ex.target).kind = .leak → (nodeAt s x.ex.target).state ≠ .disabled →
    (nodeAt s x.ex.target).state ≠ .lost →
    lostThreshold s ≤ min 15 ((nodeAt s x.ex.target).misses + 1) →
    ∃ t, exec (.replyWindowExpiry i) s = .next t ∧ SourceLost s t x.ex.target) ∧
  ∀ (tag : Byte) (bytes : List Byte) (s : State) (c n : Nat) (new : LineCfg), Ready s →
    s.image.saving = none → c < 8 → s.loader.record = some ⟨.line, c + 3, n + 1⟩ →
    bytes.length = 6 → decodeLine bytes = some new → new.enable = false →
    (lineCfg s (c + 3)).enable = true → (channelCfg s c).inUse = true →
    ∃ t, exec (.tableData tag bytes) s = .next t ∧
      channelAt t c = (if (channelAt s c).state = .fault then channelAt s c
        else ⟨.fault, 0, .stopped⟩) ∧
      (∀ j < 32, j ≠ c → channelAt t j = channelAt s j) ∧
      ((channelAt s c).state ≠ .fault → inFlagSet t.port.flags .leakFault = true) ∧
      (LeakLaw s → GroupsFollow s t)

/-- R132, R138, R140, R149: LEAK_CLEAR settles the FAULT channels of its group, and places the group
by the counts that leaves, a DRYING group as from CLEAR; it is answered STILL_WET when an ALARM stays,
and the Zone Controller has taken every group change when it ends (log entry 17). R134, R135, R138,
R143: a confirm time that runs out makes its channel WET and evaluates its group; the chatter window
clears every glitch count and starts again; the beacon timer inverts the line and starts again.
LEAK_CLEAR, CHANNEL_CONFIRM_EXPIRY, CHATTER_TIMER_EXPIRY, BEACON_TIMER_EXPIRY. Model's choices: log
entries 1, 8, 9, 17. -/
def Obligations.LeakClearAndTimersAct : Prop :=
  (∀ (tag group : Byte) (s : State), Ready s →
    (7 < group.toNat →
      exec (.leakClear tag group) s = .next (respond (answer tag 0x0A#8 .range []) s)) ∧
    (group.toNat ≤ 7 →
      ∃ t, exec (.leakClear tag group) s = .next t ∧ Touches (.leak :: zoneBlocks) s t ∧
        t.port.responses = s.port.responses ++ [answer tag 0x0A#8
          (if groupAt s group.toNat = .alarm ∧ groupAt t group.toNat = .alarm then .stillWet
           else .ok) []] ∧
        (∀ c < 32, channelAt t c =
          if (channelCfg s c).inUse = true ∧ (channelCfg s c).group = group.toNat ∧
              (channelAt s c).state = .fault
          then settledRun s c else channelAt s c) ∧
        groupAt t group.toNat =
          groupPlace (if groupAt s group.toNat = .drying then .clear else groupAt s group.toNat)
            (wetCount t group.toNat) (pendingCount t group.toNat) (voteOf s group.toNat) ∧
        (∀ g < 8, g ≠ group.toNat → groupAt t g = groupAt s g) ∧ t.mail.leakToZone = [] ∧
        (s.mail.leakToZone = [] → groupAt t group.toNat ≠ groupAt s group.toNat →
          t.zc.groups = put s.zc.groups group.toNat (groupAt t group.toNat) ∧
          inFlagSet t.port.flags .leakAlarm = true))) ∧
  (∀ (c : Fin 32) (d : Nat) (s : State), (channelAt s c).timer = .running d →
    ∃ t, exec (.channelConfirmExpiry c) s = .next t ∧ Touches [.now, .port, .leak, .mail] s t ∧
      t.now = max s.now d ∧
      t.leak.channels =
        put s.leak.channels c ⟨.wet, (channelAt s c).glitches, .stopped⟩ ∧
      ∀ g < 8, groupAt t g =
        if g = (channelCfg s c).group then
          groupPlace (groupAt s g) (wetCount t g) (pendingCount t g) (voteOf s g)
        else groupAt s g) ∧
  (∀ (d : Nat) (s : State), s.leak.chatter = .running d →
    exec .chatterTimerExpiry s = .next (atTime d { s with leak := { s.leak with
      channels := s.leak.channels.map fun r => { r with glitches := 0 }
      chatter := .running (max s.now d + chatterWindow s) } })) ∧
  (∀ (d : Nat) (s : State), s.leak.beaconTimer = .running d →
    exec .beaconTimerExpiry s = .next (atTime d { s with leak := { s.leak with
      beaconLine := !s.leak.beaconLine
      beaconTimer := .running (max s.now d + toggleTime s.leak.pattern) } })) ∧
  ∀ (c : Fin 32) (s : State),
    ((channelAt s c).timer = .stopped → exec (.channelConfirmExpiry c) s = .next s) ∧
    (s.leak.chatter = .stopped → exec .chatterTimerExpiry s = .next s) ∧
    (s.leak.beaconTimer = .stopped → exec .beaconTimerExpiry s = .next s)

/-! ## Nodes -/

/-- R18, R25, R31: NODE DISABLE takes an entry to DISABLED with cleared slots and withdraws its queued
POLL; NODE ENABLE takes a DISABLED entry to UNSEEN; every other form of the request has no effect.
NODE_ENABLE, NODE_DISABLE. Model's choices: log entry 8. -/
def Obligations.NodeRequestMovesTheEntry : Prop :=
  ∀ (tag entry : Byte) (s : State), Ready s →
    (47 < entry.toNat →
      exec (.nodeEnable tag entry) s = .next (respond (answer tag 0x0D#8 .range []) s) ∧
      exec (.nodeDisable tag entry) s = .next (respond (answer tag 0x0D#8 .range []) s)) ∧
    (entry.toNat ≤ 47 → (nodeCfg s entry.toNat).inUse = false →
      exec (.nodeEnable tag entry) s = .next (respond (answer tag 0x0D#8 .noNode []) s) ∧
      exec (.nodeDisable tag entry) s = .next (respond (answer tag 0x0D#8 .noNode []) s)) ∧
    (entry.toNat ≤ 47 → (nodeCfg s entry.toNat).inUse = true →
      (nodeAt s entry.toNat).state ≠ .disabled →
      exec (.nodeEnable tag entry) s = .next (respond (answer tag 0x0D#8 .ok []) s) ∧
      ∃ t, exec (.nodeDisable tag entry) s = .next t ∧
        Touches (.tables :: inspectBlocks) s t ∧
        t.port.responses = s.port.responses ++ [answer tag 0x0D#8 .ok []] ∧
        nodeAt t entry.toNat = ⟨.disabled, 0, Vector.replicate 24 Slot.clear⟩ ∧
        (∀ k < 48, k ≠ entry.toNat → nodeAt t k = nodeAt s k) ∧
        t.tables = { s.tables with nodes := (put s.tables.nodes entry.toNat
          { nodeCfg s entry.toNat with service := .disabled }) } ∧
        (segAt t (nodeCfg s entry.toNat).segment).queue.any (isPollFor entry.toNat) = false ∧
        inFlagSet t.port.flags .nodeChange = true) ∧
    (entry.toNat ≤ 47 → (nodeCfg s entry.toNat).inUse = true →
      (nodeAt s entry.toNat).state = .disabled →
      exec (.nodeDisable tag entry) s = .next (respond (answer tag 0x0D#8 .ok []) s) ∧
      ∃ t, exec (.nodeEnable tag entry) s = .next t ∧ Touches (.tables :: inspectBlocks) s t ∧
        t.port.responses = s.port.responses ++ [answer tag 0x0D#8 .ok []] ∧
        nodeAt t entry.toNat = ⟨.unseen, 0, Vector.replicate 24 Slot.clear⟩ ∧
        (∀ k < 48, k ≠ entry.toNat → nodeAt t k = nodeAt s k) ∧
        t.tables = { s.tables with nodes := (put s.tables.nodes entry.toNat
          { nodeCfg s entry.toNat with service := .enabled }) } ∧
        inFlagSet t.port.flags .nodeChange = true)

/-! ## The relay -/

/-- R151, R174: the gate judges a relay in its order: MALFORMED, NO_NODE, GATED for every FEED_SET and
for an ITEM_WRITE that carries a protected item, BUSY without a free slot or without room; a refused
relay changes nothing but the response. R2, R151, R152: an accepted relay takes the lowest free slot with
its tag, its target and its timeout of twice the reply window plus 100 ms, and its exchange stands on the
entry's segment with the frame's kind, tag and payload; no response is given yet. R147: the place kept
for the frame is kept on for that later answer (how long is the model's reading, log entry 49).
RELAY_POLL, RELAY_ITEM_READ, RELAY_ITEM_WRITE, RELAY_FEED_SET. Model's choices: log entries 8, 49. -/
def Obligations.RelayIsJudgedByTheGate : Prop :=
  (∀ (tag dest : Byte) (payload : List Byte) (s : State), Ready s → payload.length ≤ 240 →
    isNodeByte dest = true →
    let refusal (kind : Byte) (status : Status) : State :=
      respond ⟨responseFrame dest kind tag status [], none⟩ s
    let stopped (i : Nat) : Prop := (segAt s i).state = .disabled ∨
      ((segAt s i).state = .exchange ∧ 20 ≤ (segAt s i).queue.length)
    (exec (.relayFeedSet tag dest payload) s = .next (
      if relayDecodes .feedSet payload = false then refusal 0x43#8 .malformed
      else if relayTarget s dest = none then refusal 0x43#8 .noNode
      else refusal 0x43#8 .gated)) ∧
    (payload ≠ [] → exec (.relayPoll tag dest payload) s = .next (refusal 0x40#8 .malformed)) ∧
    (payload = [] → exec (.relayItemRead tag dest payload) s =
      .next (refusal 0x41#8 .malformed)) ∧
    (payload = [] ∨ payload.length % 3 ≠ 0 → exec (.relayItemWrite tag dest payload) s =
      .next (refusal 0x42#8 .malformed)) ∧
    (relayTarget s dest = none →
      (payload = [] → exec (.relayPoll tag dest payload) s = .next (refusal 0x40#8 .noNode)) ∧
      (payload ≠ [] → exec (.relayItemRead tag dest payload) s =
        .next (refusal 0x41#8 .noNode)) ∧
      (payload ≠ [] → payload.length % 3 = 0 → exec (.relayItemWrite tag dest payload) s =
        .next (refusal 0x42#8 .noNode))) ∧
    (relayTarget s dest ≠ none → payload ≠ [] → payload.length % 3 = 0 →
      (itemsOf payload).any protectedItem = true →
      exec (.relayItemWrite tag dest payload) s = .next (refusal 0x42#8 .gated)) ∧
    ∀ k, relayTarget s dest = some k → freeSlot s = none ∨ stopped (nodeCfg s k).segment →
      (payload = [] → exec (.relayPoll tag dest payload) s = .next (refusal 0x40#8 .busy)) ∧
      (payload ≠ [] → exec (.relayItemRead tag dest payload) s = .next (refusal 0x41#8 .busy)) ∧
      (payload ≠ [] → payload.length % 3 = 0 → (itemsOf payload).any protectedItem = false →
        exec (.relayItemWrite tag dest payload) s = .next (refusal 0x42#8 .busy))) ∧
  ∀ (c : Instr) (rk : RelayKind) (tag dest : Byte) (payload : List Byte) (s : State) (k n : Nat),
    Ready s → payload.length ≤ 240 → isNodeByte dest = true →
    (c = .relayPoll tag dest payload ∧ rk = .poll ∧ payload = []) ∨
      (c = .relayItemRead tag dest payload ∧ rk = .itemRead ∧ payload ≠ []) ∨
      (c = .relayItemWrite tag dest payload ∧ rk = .itemWrite ∧ payload ≠ [] ∧
        payload.length % 3 = 0 ∧ (itemsOf payload).any protectedItem = false) →
    relayTarget s dest = some k → freeSlot s = some n →
    (segAt s (nodeCfg s k).segment).state ≠ .disabled →
    (segAt s (nodeCfg s k).segment).queue.length < 20 →
    ∃ t, exec c s = .next t ∧ Touches zoneBlocks s t ∧ t.port.responses = s.port.responses ∧
      t.port.placeKept = false ∧ keptPlaces t = keptPlaces (keepPlace false s) + 1 ∧
      (∀ m < n, slotAt s m ≠ none) ∧
      slotAt t n = some
        { tag := tag
          target := k
          write := rk == .itemWrite
          dest := dest
          kind := relayKindByte rk
          timeout := 2 * replyWindow s (nodeCfg s k).segment + 100
          timer := .running (s.now + (2 * replyWindow s (nodeCfg s k).segment + 100))
          state := .waiting } ∧
      (∀ m < 8, m ≠ n → slotAt t m = slotAt s m) ∧
      Carries (segAt t (nodeCfg s k).segment) (fun e =>
        e.owner == .relaySlot n && e.target == k && !e.retryUsed &&
          e.kind == .relay (relayKindByte rk) tag payload &&
          e.cls == (if rk = .itemWrite then .control else .poll))

/-- R7, R153: a relay timer that expires answers TIMEOUT: a queued exchange is withdrawn and the slot
freed, one that is not queued leaves the slot EXPIRED; the answer joins in the place kept for it, and
waits where that is not there (log entry 49). A held answer takes a place that has become free.
RELAY_TIMER_EXPIRY, RELAY_ANSWER_PLACED. Model's choices: log entries 1, 9, 12, 49. -/
def Obligations.RelayTimeoutIsAnswered : Prop :=
  (∀ (n : Fin 8) (d : Nat) (s : State) (x : RelaySlot), slotAt s n = some x →
    x.state = .waiting → x.timer = .running d →
    let queued := s.segs.toList.any fun g => g.queue.any (ownedBySlot n)
    let reply := responseFrame x.dest x.kind x.tag .timeout []
    let room := s.port.responses.length + keptPlaces s ≤ 8 ∧ s.port.answering = []
    ∃ t, exec (.relayTimerExpiry n) s = .next t ∧ Touches (.now :: zoneBlocks) s t ∧
      t.now = max s.now d ∧
      (∀ i < 4, (segAt t i).queue.any (ownedBySlot n) = false) ∧
      (room → t.port.responses = s.port.responses ++ [⟨reply, none⟩] ∧
        t.port.answering = s.port.answering ∧
        slotAt t n = if queued = true then none
          else some { x with timer := .stopped, state := .expired }) ∧
      (¬room → t.port.responses = s.port.responses ∧
        t.port.answering = s.port.answering ++ [n.val] ∧
        slotAt t n = some { x with timer := .stopped, state := .answering reply (!queued) })) ∧
  (∀ (n : Nat) (rest : List Nat) (s : State) (x : RelaySlot) (reply : Frame) (pending : Bool),
    s.port.answering = n :: rest → n < 8 → slotAt s n = some x →
    x.state = .answering reply pending →
    s.port.responses.length + keptPlaces s < 8 →
    exec .relayAnswerPlaced s = .next (modPort (fun p => { p with
      answering := rest
      responses := p.responses ++ [⟨reply, none⟩]
      slots := put p.slots n
        (if pending = true then some { x with timer := .stopped, state := .expired }
         else none) }) s)) ∧
  ∀ s : State,
    (s.port.answering = [] ∨ 8 ≤ s.port.responses.length + keptPlaces s →
      exec .relayAnswerPlaced s = .next s) ∧
    ∀ n : Fin 8, slotAt s n = none → exec (.relayTimerExpiry n) s = .next s

/-! ## The segments -/

/-- R13, R14, R28: at the expiry of a segment's poll timer the timer starts again, the present items
of its entries age by one up to 3, and, where the queue has room for them, every scanned entry has its
POLL on the segment and every zone that owes a disable there (R68) has its FEED_SET disable on it, the
debt standing until the disable is accepted; the POLLs that find no room are counted as refused and
raise SCAN_OVERRUN. R15: the first scan is COMPLETE where every scanned entry has been polled,
and the Sequencer is told of one that becomes so (log entry 21). POLL_TIMER_EXPIRY. Model's choices: log
entries 1, 3, 9, 26, 50. -/
def Obligations.PollTimerScansAndAges : Prop :=
  ∀ (i : Fin 4) (s : State),
    ((segAt s i).pollTimer = .stopped → exec (.pollTimerExpiry i) s = .next s) ∧
    ∀ d, (segAt s i).pollTimer = .running d →
      ∃ t, exec (.pollTimerExpiry i) s = .next t ∧
        Touches [.now, .free, .port, .segs, .nodes, .cap, .zc, .mail] s t ∧
        t.now = max s.now d ∧
        (segAt t i).pollTimer = .running (t.now + pollPeriod s i) ∧
        (∀ k < 48, nodeAt t k =
          if (nodeCfg s k).inUse = true ∧ (nodeCfg s k).segment = i ∧
              (nodeAt s k).state ≠ .disabled
          then { nodeAt s k with slots := (nodeAt s k).slots.map fun x =>
            if x.present = true then { x with age := min 3 (x.age + 1) } else x }
          else nodeAt s k) ∧
        ((segAt s i).state ≠ .disabled →
          (segAt s i).queue.length + (allEntries.filter (isScanned s i)).length +
            (owedOn s i).length ≤ 20 →
          (∀ k < 48, isScanned s i k = true → Carries (segAt t i) (isPollFor k)) ∧
          ∀ z ∈ owedOn s i, Carries (segAt t i)
            (isFeedSet (zoneCfg s z).feedEntry (zoneCfg s z).output false)) ∧
        (∀ z ∈ owedOn s i, (zoneAt t z).disablePending = true) ∧
        ((segAt s i).state = .exchange → owedOn s i = [] → ∀ refused,
          refused = (allEntries.filter fun k => isScanned s i k &&
            !(segAt s i).queue.any (isPollFor k)).length - (20 - (segAt s i).queue.length) →
          (segAt t i).counters = { (segAt s i).counters with
            refusedPolls := if refused = 0 then (segAt s i).counters.refusedPolls
              else min 65535 ((segAt s i).counters.refusedPolls + refused) } ∧
          (refused ≠ 0 → inFlagSet t.port.flags .scanOverrun = true)) ∧
        ((segAt s i).state ≠ .disabled → allPolled s i = true →
          (segAt t i).firstScan = .complete) ∧
        t.mail.firstScans = s.mail.firstScans +
          (if (segAt s i).firstScan = .pending ∧ (segAt t i).firstScan = .complete then 1 else 0)

/-- R8, R9: the end of a sending starts the reply window; the first reply byte stops it; and each event of
an exchange that is not in its phase has no effect (log entry 9). R6, R8, R173: an exchange that the
segment's arbiter takes goes onto the wire with its frame, to its entry's address byte and with the
segment's reply window: at the end of the exchange before it, where a queue that is not empty gives its
oldest URGENT one if it has one, or, where nothing else joins in that handling, its head, so that what
stays queued is of no more urgent class, but for the enables of zones that the Zone Controller's arbiter
grants for the room made (R66; that it runs at the end of the handling is the model's choice, log entry
50); and at once where it joins an IDLE segment: a scan's first POLL, a relay, a granted zone's enable,
a disable. SEND_COMPLETE, REPLY_FIRST_BYTE, READBACK_MISMATCH, REPLY_WINDOW_EXPIRY, REPLY_SILENCE,
REPLY_COMPLETE, POLL_TIMER_EXPIRY, the relay rows, RETRY_TIMER_EXPIRY, ZONE_OFF. Model's choices: log
entries 1, 8, 9, 29, 50. -/
def Obligations.ExchangeMovesThroughItsPhases : Prop :=
  (∀ (i : Fin 4) (s : State),
    (∀ c, (segAt s i).current = some c →
      (c.phase = .sending → exec (.sendComplete i) s = .next (modSeg i (fun g => { g with
        current := some { c with phase := .waiting, timer := .running (s.now + c.window) } }) s)) ∧
      (c.phase ≠ .sending → exec (.sendComplete i) s = .next s ∧
        ∀ index, exec (.readbackMismatch i index) s = .next s) ∧
      (c.phase = .waiting → exec (.replyFirstByte i) s = .next (modSeg i (fun g => { g with
        current := some { c with phase := .receiving, timer := .stopped } }) s)) ∧
      (c.phase ≠ .waiting → exec (.replyFirstByte i) s = .next s ∧
        (c.timer = .stopped → exec (.replyWindowExpiry i) s = .next s) ∧
        ∀ d, c.timer = .running d → exec (.replyWindowExpiry i) s = .next (atTime d s)) ∧
      (c.phase ≠ .receiving → exec (.replySilence i) s = .next s ∧
        ∀ bytes, exec (.replyComplete i bytes) s = .next s)) ∧
    ((segAt s i).current = none →
      exec (.sendComplete i) s = .next s ∧ exec (.replyFirstByte i) s = .next s ∧
      exec (.replyWindowExpiry i) s = .next s ∧ exec (.replySilence i) s = .next s ∧
      (∀ index, exec (.readbackMismatch i index) s = .next s) ∧
      ∀ bytes, exec (.replyComplete i bytes) s = .next s)) ∧
  (∀ (i : Fin 4) (s : State) (c : Current) (command : Instr), (segAt s i).current = some c →
    SegmentLaw s →
    ((∃ index, command = .readbackMismatch i index ∧ c.phase = .sending) ∨
      (command = .replyWindowExpiry i ∧ c.phase = .waiting ∧ c.timer ≠ .stopped) ∨
      (command = .replySilence i ∧ c.phase = .receiving) ∨
      (∃ bytes, command = .replyComplete i bytes ∧ c.phase = .receiving)) →
    ∃ t, exec command s = .next t ∧
      (∀ x, (segAt t i).current = some x → (segAt t i).state = .exchange ∧ JustTaken s i x ∧
        ∀ e ∈ (segAt t i).queue, classRank x.ex.cls ≤ classRank e.cls ∨
          (e ∉ (segAt s i).queue ∧ ∃ output, e = feedExchange e.target output true)) ∧
      ((segAt t i).current = none → (segAt t i).state = .idle ∧ (segAt t i).queue = []) ∧
      ∀ e rest, (segAt s i).queue = e :: rest →
        (segAt t i).current ≠ none ∧
        (e.cls = .urgent → c.ex.cls ≠ .urgent ∨ c.ex.retryUsed = true →
          ∀ x, (segAt t i).current = some x → x.ex = e) ∧
        (c.ex.kind = .poll → c.ex.cls = .poll → c.stale = true →
          ∀ x, (segAt t i).current = some x → x.ex = e)) ∧
  (∀ (i : Fin 4) (s : State) (d k : Nat) (rest : List Nat), (segAt s i).pollTimer = .running d →
    (segAt s i).state = .idle → (segAt s i).queue = [] → owedOn s i = [] →
    (List.range 48).filter (isScanned s i) = k :: rest →
    ∃ t x, exec (.pollTimerExpiry i) s = .next t ∧ (segAt t i).state = .exchange ∧
      (segAt t i).current = some x ∧ x.ex = ⟨.poll, k, .poll, .scan, false⟩ ∧ JustTaken s i x) ∧
  (∀ (c : Instr) (rk : RelayKind) (tag dest : Byte) (payload : List Byte) (s : State) (k n : Nat),
    Ready s → payload.length ≤ 240 → isNodeByte dest = true →
    (c = .relayPoll tag dest payload ∧ rk = .poll ∧ payload = []) ∨
      (c = .relayItemRead tag dest payload ∧ rk = .itemRead ∧ payload ≠ []) ∨
      (c = .relayItemWrite tag dest payload ∧ rk = .itemWrite ∧ payload ≠ [] ∧
        payload.length % 3 = 0 ∧ (itemsOf payload).any protectedItem = false) →
    relayTarget s dest = some k → freeSlot s = some n →
    (segAt s (nodeCfg s k).segment).state = .idle →
    (segAt s (nodeCfg s k).segment).queue = [] →
    ∃ t x, exec c s = .next t ∧ (segAt t (nodeCfg s k).segment).state = .exchange ∧
      (segAt t (nodeCfg s k).segment).current = some x ∧
      JustTaken s (nodeCfg s k).segment x ∧
      x.ex = ⟨if rk = .itemWrite then .control else .poll, k,
        .relay (relayKindByte rk) tag payload, .relaySlot n, false⟩) ∧
  (∀ (z : Fin 32) (d y : Nat) (s u : State), ZoneListsLaw s → SegmentLaw s →
    (zoneAt s z).retry = .running d →
    u = modZone z (fun r => { r with retry := .stopped }) (atTime d s) →
    ¬ArbiterRests u → u.zc.queue.find? (eligible u) = some y →
    (segAt s (nodeCfg s (zoneCfg s y).feedEntry).segment).state = .idle →
    ∃ t x, exec (.retryTimerExpiry z) s = .next t ∧
      (segAt t (nodeCfg s (zoneCfg s y).feedEntry).segment).current = some x ∧
      JustTaken s (nodeCfg s (zoneCfg s y).feedEntry).segment x ∧
      x.ex = ⟨.control, (zoneCfg s y).feedEntry, .feedSet (zoneCfg s y).output true,
        .zoneController, false⟩) ∧
  ∀ (tag zone : Byte) (s : State), Ready s → ZoneListsLaw s → zone.toNat ≤ 31 →
    runs s zone.toNat = true → (nodeCfg s (zoneCfg s zone.toNat).feedEntry).inUse = true →
    (segAt s (nodeCfg s (zoneCfg s zone.toNat).feedEntry).segment).state = .idle →
    (segAt s (nodeCfg s (zoneCfg s zone.toNat).feedEntry).segment).queue = [] →
    ∃ t x, exec (.zoneOff tag zone) s = .next t ∧
      (segAt t (nodeCfg s (zoneCfg s zone.toNat).feedEntry).segment).current = some x ∧
      JustTaken s (nodeCfg s (zoneCfg s zone.toNat).feedEntry).segment x ∧
      x.ex = ⟨.urgent, (zoneCfg s zone.toNat).feedEntry,
        .feedSet (zoneCfg s zone.toNat).output false, .zoneController, false⟩

/-- R8, R9, R11, R20, R29: an exchange that fails is counted by its outcome; a CONTROL or URGENT one
that has not used its retry stands on the segment again where the room rule of its class lets it,
and its owner is told nothing; a POLL counts a miss, which takes an entry to LOST at the threshold.
R11, R12, R67, R68, R69, R71, R153: one that fails for good (of class POLL, its retry used, or its
requeue refused) is told to its owner: a FEED_SET enable fails the attempt of its INRUSH zone and
switches it off (stated where the law of the segments holds), a disable is owed by a zone that does
not run, a relay is answered TIMEOUT for NO_REPLY and LINE otherwise, in the place kept for it, and held
where that is not there (log entry 49).
What the requeue of a FEED_SET does beside another of its pair is the model's choice (log entry 11).
READBACK_MISMATCH, REPLY_WINDOW_EXPIRY, REPLY_SILENCE, and REPLY_COMPLETE with a bad reply. Model's
choices: log entries 1, 11, 12, 13, 36, 45, 49. -/
def Obligations.FailedExchangeIsRetriedOrMissed : Prop :=
  ∀ (i : Fin 4) (s : State) (c : Current) (command : Instr) (outcome : Failure),
    (segAt s i).current = some c → (segAt s i).counters.readback ≤ 65535 →
    (segAt s i).counters.noReply ≤ 65535 → (segAt s i).counters.badReply ≤ 65535 →
    ((∃ index, command = .readbackMismatch i index ∧ c.phase = .sending ∧
        outcome = .readback index) ∨
      (command = .replyWindowExpiry i ∧ c.phase = .waiting ∧ c.timer ≠ .stopped ∧
        outcome = .noReply) ∨
      (command = .replySilence i ∧ c.phase = .receiving ∧ outcome = .badReply) ∨
      (∃ bytes, command = .replyComplete i bytes ∧ c.phase = .receiving ∧
        goodReply c bytes = none ∧ outcome = .badReply)) →
    let q := (segAt s i).queue
    let full : Prop := (if c.ex.cls = .urgent then 24 else 20) ≤ q.length
    let final : Prop := c.ex.cls = .poll ∨ c.ex.retryUsed = true ∨
      (q.any (fun e => clashes e c.ex) = false ∧ full) ∨
      ∃ output on, c.ex.kind = .feedSet output on ∧
        q.any (isFeedSet c.ex.target output on) = false ∧
        q.any (isFeedSet c.ex.target output !on) = true
    let status : Status := match outcome with
      | .noReply => .timeout
      | .readback _ => .line
      | .badReply => .line
    ∃ t, exec command s = .next t ∧ Touches (.now :: inspectBlocks) s t ∧
      (segAt t i).counters.good = (segAt s i).counters.good ∧
      (segAt t i).counters.readback = (segAt s i).counters.readback + (match outcome with
        | .readback _ => min 1 (65535 - (segAt s i).counters.readback)
        | .noReply => 0
        | .badReply => 0) ∧
      (segAt t i).counters.noReply = (segAt s i).counters.noReply + (match outcome with
        | .noReply => min 1 (65535 - (segAt s i).counters.noReply)
        | .readback _ => 0
        | .badReply => 0) ∧
      (segAt t i).counters.badReply = (segAt s i).counters.badReply + (match outcome with
        | .badReply => min 1 (65535 - (segAt s i).counters.badReply)
        | .noReply => 0
        | .readback _ => 0) ∧
      ((∃ index, outcome = .readback index) → inFlagSet t.port.flags .segFault = true) ∧
      (c.ex.cls ≠ .poll → c.ex.retryUsed = false → ¬full →
        q.any (fun e => clashes e c.ex) = false →
        (segAt t i).counters.retries = min 65535 ((segAt s i).counters.retries + 1) ∧
        Carries (segAt t i) (fun e => e == { c.ex with retryUsed := true }) ∧
        t.port.slots = s.port.slots ∧ t.port.responses = s.port.responses ∧ t.nodes = s.nodes ∧
        (ZoneListsLaw s → ∀ z < 32, runs s z = true → zoneAt t z = zoneAt s z)) ∧
      (final → (segAt t i).counters.retries = (segAt s i).counters.retries ∧
        (∀ output z, c.ex.kind = .feedSet output true → ZoneListsLaw s →
          zoneOfPair s c.ex.target output = some z →
          (zoneAt s z).state = .inrush → (zoneAt s z).acked = false →
          (zoneAt t z).attempts = (zoneAt s z).attempts + 1 ∧ (zoneAt t z).acked = false ∧
          (zoneAt t z).inrush = .stopped ∧
          (SegmentLaw s → SwitchedOff t z c.ex.target output) ∧
          ((zoneAt s z).attempts + 1 = (zoneCfg s z).lockout →
            (zoneAt t z).state = .lockout ∧ inFlagSet t.port.flags .zoneLockout = true) ∧
          ((zoneAt s z).attempts + 1 ≠ (zoneCfg s z).lockout → Admitted t z)) ∧
        (∀ output z, c.ex.kind = .feedSet output false → ZoneListsLaw s →
          zoneOfPair s c.ex.target output = some z →
          (runs s z = true → zoneAt t z = zoneAt s z) ∧
          (runs s z = false → zoneAt t z = { zoneAt s z with disablePending := true } ∧
            ((zoneAt s z).disablePending = false →
              inFlagSet t.port.flags .feedPending = true))) ∧
        (∀ kind tag payload n x, c.ex.kind = .relay kind tag payload →
          c.ex.owner = .relaySlot n → n < 8 → slotAt s n = some x →
          (x.state = .waiting →
            if s.port.responses.length + keptPlaces s ≤ 8 ∧ s.port.answering = [] then
              slotAt t n = none ∧ t.port.answering = [] ∧ t.port.responses = s.port.responses ++
                [⟨responseFrame x.dest x.kind x.tag status [], none⟩]
            else t.port.responses = s.port.responses ∧
              t.port.answering = s.port.answering ++ [n] ∧
              slotAt t n = some { x with
                timer := .stopped
                state := .answering (responseFrame x.dest x.kind x.tag status []) false }) ∧
          (x.state = .expired → slotAt t n = none ∧ t.port.responses = s.port.responses) ∧
          (∀ held pending, x.state = .answering held pending →
            slotAt t n = some { x with state := .answering held false } ∧
            t.port.responses = s.port.responses)) ∧
        (c.ex.kind ≠ .poll → t.nodes = s.nodes)) ∧
      (c.ex.kind = .poll → c.ex.cls = .poll → c.stale = false → c.ex.target < 48 →
        (nodeCfg s c.ex.target).inUse = true → (nodeAt s c.ex.target).state ≠ .disabled →
        (nodeAt t c.ex.target).misses = min 15 ((nodeAt s c.ex.target).misses + 1) ∧
        (nodeAt t c.ex.target).state =
          if lostThreshold s ≤ (nodeAt t c.ex.target).misses then .lost
          else (nodeAt s c.ex.target).state)

/-- R9, R10, R15, R26, R27, R44, R67, R68, R69, R71, R153: a good reply is counted and inspected: a
POLL's TELEMETRY clears the misses, stores every item taken, settles ACTIVE or DEGRADED, raises
NODE_CHANGE for a change and marks the entry polled; a stale reply, or one for a DISABLED entry,
changes no record; an accepted FEED_SET starts the inrush window of its zone or clears its owed
disable, and a refused one fails the attempt, which switches the zone off (stated where the law of
the segments holds), or leaves the disable owed; a relay is answered with the node's frame, in the place
kept for it, and held where that is not there (log entry 49), and the late reply of an answered relay frees its slot or ends its wait. The
refused disable of a QUEUED zone, which the reply's own news may grant first, is left out.
REPLY_COMPLETE. Model's choices: log entries 12, 13, 20, 39, 45, 49, 56 (39: the reply to a POLL whose
entry was disabled and enabled again meanwhile is applied; 56: a relay's answer carries the address
byte that the RMC addressed). -/
def Obligations.GoodReplyIsInspectedAndHandedOn : Prop :=
  ∀ (i : Fin 4) (s : State) (c : Current) (bytes : List Byte) (f : Frame),
    (segAt s i).current = some c → c.phase = .receiving → goodReply c bytes = some f →
    ∃ t, exec (.replyComplete i bytes) s = .next t ∧ Touches inspectBlocks s t ∧
      (segAt t i).counters = { (segAt s i).counters with
        good := min 65535 ((segAt s i).counters.good + 1) } ∧
      (∀ k < 48, k ≠ c.ex.target → nodeAt t k = nodeAt s k) ∧
      (c.stale = true ∨ (nodeCfg s c.ex.target).inUse = false ∨
        (nodeAt s c.ex.target).state = .disabled → t.nodes = s.nodes) ∧
      (c.ex.kind = .poll → c.stale = false → c.ex.target < 48 →
        (nodeCfg s c.ex.target).inUse = true → (nodeAt s c.ex.target).state ≠ .disabled →
        (nodeAt t c.ex.target).misses = 0 ∧
        (nodeAt t c.ex.target).state =
          (if degradeCondition t c.ex.target = true then .degraded else .active) ∧
        (∀ x ∈ itemsTaken (nodeCfg s c.ex.target).kind f.payload,
          (nth (nodeAt t c.ex.target).slots x.code).present = true ∧
          (nth (nodeAt t c.ex.target).slots x.code).value = x.value ∧
          (nth (nodeAt t c.ex.target).slots x.code).age = 0) ∧
        nth (segAt t i).polled c.ex.target = true ∧
        ((nodeAt t c.ex.target).state ≠ (nodeAt s c.ex.target).state →
          inFlagSet t.port.flags .nodeChange = true)) ∧
      (∀ output on z, c.ex.kind = .feedSet output on → ZoneListsLaw s →
        zoneOfPair s c.ex.target output = some z → feedAckAccepts output f.payload = true →
        (on = true → (zoneAt s z).state = .inrush → (zoneAt s z).acked = false →
          (zoneAt t z).state = .inrush ∧ (zoneAt t z).acked = true ∧
            (zoneAt t z).inrush = .running (s.now + (zoneCfg s z).window)) ∧
        (on = false → (zoneAt t z).disablePending = false)) ∧
      (∀ output on z, c.ex.kind = .feedSet output on → ZoneListsLaw s →
        zoneOfPair s c.ex.target output = some z → feedAckAccepts output f.payload = false →
        (on = true → (zoneAt s z).state = .inrush → (zoneAt s z).acked = false →
          (zoneAt t z).attempts = (zoneAt s z).attempts + 1 ∧ (zoneAt t z).acked = false ∧
          (zoneAt t z).inrush = .stopped ∧
          (SegmentLaw s → SwitchedOff t z c.ex.target output) ∧
          ((zoneAt s z).attempts + 1 = (zoneCfg s z).lockout →
            (zoneAt t z).state = .lockout ∧ inFlagSet t.port.flags .zoneLockout = true) ∧
          ((zoneAt s z).attempts + 1 ≠ (zoneCfg s z).lockout → Admitted t z)) ∧
        (on = false → runs s z = false → (zoneAt s z).state ≠ .queued →
          (zoneAt t z).disablePending = true ∧
          ((zoneAt s z).disablePending = false →
            inFlagSet t.port.flags .feedPending = true))) ∧
      (∀ kind tag payload n x, c.ex.kind = .relay kind tag payload →
        c.ex.owner = .relaySlot n → n < 8 → slotAt s n = some x → x.state = .waiting →
        if s.port.responses.length + keptPlaces s ≤ 8 ∧ s.port.answering = [] then
          slotAt t n = none ∧ t.port.answering = [] ∧ t.port.responses = s.port.responses ++
            [⟨⟨rmcByte, x.dest, f.kind, x.tag, f.payload⟩, none⟩]
        else t.port.responses = s.port.responses ∧
          t.port.answering = s.port.answering ++ [n] ∧
          slotAt t n = some { x with
            timer := .stopped
            state := .answering ⟨rmcByte, x.dest, f.kind, x.tag, f.payload⟩ false }) ∧
      (∀ kind tag payload n x, c.ex.kind = .relay kind tag payload →
        c.ex.owner = .relaySlot n → n < 8 → slotAt s n = some x →
        (x.state = .expired → slotAt t n = none ∧ t.port.responses = s.port.responses ∧
          t.port.answering = s.port.answering) ∧
        (∀ held pending, x.state = .answering held pending →
          slotAt t n = some { x with state := .answering held false } ∧
          t.port.responses = s.port.responses ∧ t.port.answering = s.port.answering))

/-- R34, R35, R36: each item taken from a POLL's TELEMETRY is checked against its limits: a violating
sample counts up to the confirm count and then violates, a sample inside the bounds clears the
count, a violation ends only in the release band or with its limit disabled, and each change raises
LIMIT. R37, R38: the report mode chooses the items of the report, none, every one or those that
changed by more than the deadband, whose reported values are then set; a report that finds the
report queue full is dropped, counted with NOTICE_LOST, and leaves the reported values. The reports
are stated with no notice enabled. REPLY_COMPLETE. Model's choices: log entries 20, 58 (58: a
counter above a lowered confirm count is set to that count). -/
def Obligations.ReplyIsCheckedAndReported : Prop :=
  ∀ (i : Fin 4) (s : State) (c : Current) (bytes : List Byte) (f : Frame),
    (segAt s i).current = some c → c.phase = .receiving → goodReply c bytes = some f →
    c.ex.kind = .poll → c.stale = false → c.ex.target < 48 →
    (nodeCfg s c.ex.target).inUse = true → (nodeAt s c.ex.target).state ≠ .disabled →
    let k := c.ex.target
    let cfg := nodeCfg s k
    let taken := itemsTaken cfg.kind f.payload
    let old (x : Item) : Slot := nth (nodeAt s k).slots x.code
    let lim (x : Item) : LimitCfg := nth s.tables.limits x.code
    let outside (x : Item) : Prop := x.value < (lim x).low ∨ (lim x).high < x.value
    let chosen := taken.filter fun x => cfg.reportMode == .every || (old x).reported.all fun a =>
      decide ((lim x).deadband < max (x.value - a) (a - x.value))
    ∃ t, exec (.replyComplete i bytes) s = .next t ∧ Touches inspectBlocks s t ∧
      (∀ code < 24, (∀ x ∈ taken, x.code ≠ code) →
        nth (nodeAt t k).slots code = nth (nodeAt s k).slots code) ∧
      (∀ x ∈ taken, ∀ new, new = nth (nodeAt t k).slots x.code →
        ((lim x).enabled = false → new.violation = false ∧ new.confirm = 0) ∧
        ((lim x).enabled = true → (old x).violation = false → outside x →
          new.confirm = min (lim x).confirm ((old x).confirm + 1) ∧
          new.violation = decide ((lim x).confirm ≤ (old x).confirm + 1)) ∧
        ((lim x).enabled = true → (old x).violation = false → ¬outside x →
          new.confirm = 0 ∧ new.violation = false) ∧
        ((lim x).enabled = true → (old x).violation = true →
          if ¬outside x ∧ (lim x).low + (lim x).hysteresis ≤ x.value ∧
            x.value + (lim x).hysteresis ≤ (lim x).high
          then new.violation = false ∧ new.confirm = 0
          else new.violation = true ∧ new.confirm = (old x).confirm) ∧
        (new.violation ≠ (old x).violation → inFlagSet t.port.flags .limit = true)) ∧
      (noticeMask s = 0#24 →
        if cfg.reportMode = .off ∨ (cfg.reportMode = .change ∧ chosen = []) then
          t.port.reports = s.port.reports ∧ t.port.lost = s.port.lost ∧
          ∀ x ∈ taken, (nth (nodeAt t k).slots x.code).reported = (old x).reported
        else if s.port.reports.length < 16 then
          t.port.reports = s.port.reports ++ [⟨rmcByte, supervisorByte, 0x22#8, 0x00#8,
            be1 k ++ be1 cfg.segment ++ be1 cfg.address ++ be1 cfg.kind.ctorIdx ++
              be1 (nodeAt t k).state.ctorIdx ++ be1 chosen.length ++ chosen.flatMap itemBytes⟩] ∧
          t.port.lost = s.port.lost ∧
          ∀ x ∈ taken, (nth (nodeAt t k).slots x.code).reported =
            if x ∈ chosen then some x.value else (old x).reported
        else
          t.port.reports = s.port.reports ∧ t.port.lost = min 65535 (s.port.lost + 1) ∧
          inFlagSet t.port.flags .noticeLost = true ∧
          ∀ x ∈ taken, (nth (nodeAt t k).slots x.code).reported = (old x).reported)

/-! ## The lines -/

/-- R69, R82, R111, R133, R169 to R171: a sample reads the driven level, or the bias of an unconnected
pin (the free level of bias NONE is any level, log entry 4); a level that differs from the accepted
one is accepted once it has held for the filter time, and is delivered: the EPO line sets the latch,
which takes every QUEUED, INRUSH, ON and SHED zone to OFF, empties both lists, stops the retry
timers, and switches off each INRUSH and ON zone and each OFF zone with adopt-pending set, whose
flag clears, by a disable that its segment carries or that is owed; the AC-sense lines make the line
part, and the active level of a leak line takes its DRY channel to PENDING or WET. LINE_SAMPLE.
Model's choices: log entries 1, 7, 9, 13. -/
def Obligations.LineSampleIsFilteredAndDelivered : Prop :=
  ∀ (i : Fin 11) (drive : PinDrive) (s : State),
    ((lineAt s i).timer = .stopped → exec (.lineSample i drive) s = .next s) ∧
    ∀ d, (lineAt s i).timer = .running d →
      ∃ t level, exec (.lineSample i drive) s = .next t ∧
        Touches [.now, .free, .port, .segs, .cap, .zc, .ride, .leak, .lines, .mail] s t ∧
        t.now = max s.now d ∧
        (∀ x, drive = .driven x → level = x) ∧
        (drive = .unconnected → (lineCfg s i).bias = .pullUp → level = .high) ∧
        (drive = .unconnected → (lineCfg s i).bias = .pullDown → level = .low) ∧
        (lineAt t i).timer = .running (t.now + (lineCfg s i).interval) ∧
        (∀ j < 11, j ≠ i.val → lineAt t j = lineAt s j) ∧
        ((lineAt s i).accepted = some level →
          (lineAt t i).accepted = some level ∧ (lineAt t i).candidate = none ∧
          Touches [.now, .free, .lines] s t) ∧
        ((lineAt s i).accepted ≠ some level → ∃ since,
          ((∀ a, (lineAt s i).candidate = some ⟨level, a⟩ → since = a) ∧
            ((∀ a, (lineAt s i).candidate ≠ some ⟨level, a⟩) → since = t.now)) ∧
          (t.now - since < (lineCfg s i).filter →
            (lineAt t i).accepted = (lineAt s i).accepted ∧
            (lineAt t i).candidate = some ⟨level, since⟩ ∧ Touches [.now, .free, .lines] s t) ∧
          ((lineCfg s i).filter ≤ t.now - since →
            (lineAt t i).accepted = some level ∧ (lineAt t i).candidate = none ∧
            (i.val < 2 → t.ride.linePart = linePartOf t) ∧
            (i.val = 2 → t.zc.epoLine = (level == (lineCfg s i).active) ∧
              (level = (lineCfg s i).active → t.zc.epoLatch = true ∧
                (s.zc.epoLatch = false → inFlagSet t.port.flags .epo = true ∧
                  t.mail.epoFail = s.mail.epoFail + 1 ∧
                  (ZoneListsLaw s → t.zc.queue = [] ∧ t.zc.readmit = [] ∧ ∀ z < 32,
                    (runs s z = true → LeftFor s t z .off) ∧
                    ((zoneAt s z).state = .queued →
                      zoneAt t z = { zoneAt s z with state := .off, retry := .stopped }) ∧
                    ((zoneAt s z).state = .shed → zoneAt t z = { zoneAt s z with state := .off }) ∧
                    ((zoneAt s z).state = .off → (zoneAt s z).adoptPending = true →
                      zoneAt t z = { zoneAt s z with
                        adoptPending := false
                        disablePending := (zoneAt t z).disablePending } ∧
                      SwitchedOff t z (zoneCfg s z).feedEntry (zoneCfg s z).output) ∧
                    ((zoneAt s z).state = .off → (zoneAt s z).adoptPending = false →
                      zoneAt t z = zoneAt s z) ∧
                    ((zoneAt s z).state = .isolated ∨ (zoneAt s z).state = .lockout →
                      zoneAt t z = zoneAt s z)))) ∧
              (level ≠ (lineCfg s i).active → t.zc = { s.zc with epoLine := false })) ∧
            (3 ≤ i.val → (channelCfg s (i - 3)).inUse = true →
              (channelAt s (i - 3)).state = .dry → level = (lineCfg s i).active →
              channelAt t (i - 3) =
                if (channelCfg s (i - 3)).confirm = 0 then
                  ⟨.wet, (channelAt s (i - 3)).glitches, .stopped⟩
                else ⟨.pending, (channelAt s (i - 3)).glitches,
                  .running (t.now + (channelCfg s (i - 3)).confirm)⟩)))
end

