-- ==== Sys2Proof/Laws/State.lean ====
section
/-! SUPPORT. One lemma for each field of each update of the state, and the reads of a table after a
write of one of its entries. -/

namespace Sys2Proof.Machine

/-! ## Tables by index -/

@[simp] theorem nth_put_self {α : Type} {n : Nat} [Inhabited α] (v : Vector α n) (k : Nat) (x : α)
    (h : k < n) : nth (put v k x) k = x := by
  simp [nth, put, h]

@[simp] theorem nth_put_of_ne {α : Type} {n : Nat} [Inhabited α] (v : Vector α n) {j k : Nat} (x : α)
    (h : k ≠ j) : nth (put v k x) j = nth v j := by
  simp only [nth, put, Vector.getElem?_setIfInBounds, h, if_false]

theorem put_of_le {α : Type} {n : Nat} (v : Vector α n) (k : Nat) (x : α) (h : n ≤ k) :
    put v k x = v := by
  simp only [put]
  ext i hi
  rw [Vector.getElem_setIfInBounds]
  split
  · omega
  · rfl

@[simp] theorem put_nth {α : Type} {n : Nat} [Inhabited α] (v : Vector α n) (k : Nat) :
    put v k (nth v k) = v := by
  simp only [put, nth]
  ext i hi
  rw [Vector.getElem_setIfInBounds]
  split
  · subst_vars; simp [hi]
  · rfl

@[simp] theorem nth_replicate {α : Type} {n : Nat} [Inhabited α] (x : α) (k : Nat) (h : k < n) :
    nth (Vector.replicate n x) k = x := by
  simp [nth, h]

@[simp] theorem nth_tabulate {α : Type} {n : Nat} [Inhabited α] (f : Nat → α) (k : Nat) (h : k < n) :
    nth (tabulate n f) k = f k := by
  simp [nth, tabulate, h]

/-! ## Updates -/

@[simp] theorem modPort_now (f : Port → Port) (s : State) :
    (modPort f s).now = s.now := rfl
@[simp] theorem modPort_free (f : Port → Port) (s : State) :
    (modPort f s).free = s.free := rfl
@[simp] theorem modPort_pending (f : Port → Port) (s : State) :
    (modPort f s).pending = s.pending := rfl
@[simp] theorem modPort_tables (f : Port → Port) (s : State) :
    (modPort f s).tables = s.tables := rfl
@[simp] theorem modPort_image (f : Port → Port) (s : State) :
    (modPort f s).image = s.image := rfl
@[simp] theorem modPort_loader (f : Port → Port) (s : State) :
    (modPort f s).loader = s.loader := rfl
@[simp] theorem modPort_port (f : Port → Port) (s : State) :
    (modPort f s).port = f s.port := rfl
@[simp] theorem modPort_segs (f : Port → Port) (s : State) :
    (modPort f s).segs = s.segs := rfl
@[simp] theorem modPort_nodes (f : Port → Port) (s : State) :
    (modPort f s).nodes = s.nodes := rfl
@[simp] theorem modPort_cap (f : Port → Port) (s : State) :
    (modPort f s).cap = s.cap := rfl
@[simp] theorem modPort_zc (f : Port → Port) (s : State) :
    (modPort f s).zc = s.zc := rfl
@[simp] theorem modPort_seq (f : Port → Port) (s : State) :
    (modPort f s).seq = s.seq := rfl
@[simp] theorem modPort_ride (f : Port → Port) (s : State) :
    (modPort f s).ride = s.ride := rfl
@[simp] theorem modPort_leak (f : Port → Port) (s : State) :
    (modPort f s).leak = s.leak := rfl
@[simp] theorem modPort_lines (f : Port → Port) (s : State) :
    (modPort f s).lines = s.lines := rfl
@[simp] theorem modPort_mail (f : Port → Port) (s : State) :
    (modPort f s).mail = s.mail := rfl

@[simp] theorem modCap_now (f : Capacity → Capacity) (s : State) :
    (modCap f s).now = s.now := rfl
@[simp] theorem modCap_free (f : Capacity → Capacity) (s : State) :
    (modCap f s).free = s.free := rfl
@[simp] theorem modCap_pending (f : Capacity → Capacity) (s : State) :
    (modCap f s).pending = s.pending := rfl
@[simp] theorem modCap_tables (f : Capacity → Capacity) (s : State) :
    (modCap f s).tables = s.tables := rfl
@[simp] theorem modCap_image (f : Capacity → Capacity) (s : State) :
    (modCap f s).image = s.image := rfl
@[simp] theorem modCap_loader (f : Capacity → Capacity) (s : State) :
    (modCap f s).loader = s.loader := rfl
@[simp] theorem modCap_port (f : Capacity → Capacity) (s : State) :
    (modCap f s).port = s.port := rfl
@[simp] theorem modCap_segs (f : Capacity → Capacity) (s : State) :
    (modCap f s).segs = s.segs := rfl
@[simp] theorem modCap_nodes (f : Capacity → Capacity) (s : State) :
    (modCap f s).nodes = s.nodes := rfl
@[simp] theorem modCap_cap (f : Capacity → Capacity) (s : State) :
    (modCap f s).cap = f s.cap := rfl
@[simp] theorem modCap_zc (f : Capacity → Capacity) (s : State) :
    (modCap f s).zc = s.zc := rfl
@[simp] theorem modCap_seq (f : Capacity → Capacity) (s : State) :
    (modCap f s).seq = s.seq := rfl
@[simp] theorem modCap_ride (f : Capacity → Capacity) (s : State) :
    (modCap f s).ride = s.ride := rfl
@[simp] theorem modCap_leak (f : Capacity → Capacity) (s : State) :
    (modCap f s).leak = s.leak := rfl
@[simp] theorem modCap_lines (f : Capacity → Capacity) (s : State) :
    (modCap f s).lines = s.lines := rfl
@[simp] theorem modCap_mail (f : Capacity → Capacity) (s : State) :
    (modCap f s).mail = s.mail := rfl

@[simp] theorem modZc_now (f : ZoneCtl → ZoneCtl) (s : State) :
    (modZc f s).now = s.now := rfl
@[simp] theorem modZc_free (f : ZoneCtl → ZoneCtl) (s : State) :
    (modZc f s).free = s.free := rfl
@[simp] theorem modZc_pending (f : ZoneCtl → ZoneCtl) (s : State) :
    (modZc f s).pending = s.pending := rfl
@[simp] theorem modZc_tables (f : ZoneCtl → ZoneCtl) (s : State) :
    (modZc f s).tables = s.tables := rfl
@[simp] theorem modZc_image (f : ZoneCtl → ZoneCtl) (s : State) :
    (modZc f s).image = s.image := rfl
@[simp] theorem modZc_loader (f : ZoneCtl → ZoneCtl) (s : State) :
    (modZc f s).loader = s.loader := rfl
@[simp] theorem modZc_port (f : ZoneCtl → ZoneCtl) (s : State) :
    (modZc f s).port = s.port := rfl
@[simp] theorem modZc_segs (f : ZoneCtl → ZoneCtl) (s : State) :
    (modZc f s).segs = s.segs := rfl
@[simp] theorem modZc_nodes (f : ZoneCtl → ZoneCtl) (s : State) :
    (modZc f s).nodes = s.nodes := rfl
@[simp] theorem modZc_cap (f : ZoneCtl → ZoneCtl) (s : State) :
    (modZc f s).cap = s.cap := rfl
@[simp] theorem modZc_zc (f : ZoneCtl → ZoneCtl) (s : State) :
    (modZc f s).zc = f s.zc := rfl
@[simp] theorem modZc_seq (f : ZoneCtl → ZoneCtl) (s : State) :
    (modZc f s).seq = s.seq := rfl
@[simp] theorem modZc_ride (f : ZoneCtl → ZoneCtl) (s : State) :
    (modZc f s).ride = s.ride := rfl
@[simp] theorem modZc_leak (f : ZoneCtl → ZoneCtl) (s : State) :
    (modZc f s).leak = s.leak := rfl
@[simp] theorem modZc_lines (f : ZoneCtl → ZoneCtl) (s : State) :
    (modZc f s).lines = s.lines := rfl
@[simp] theorem modZc_mail (f : ZoneCtl → ZoneCtl) (s : State) :
    (modZc f s).mail = s.mail := rfl

@[simp] theorem modSeq_now (f : Sequencer → Sequencer) (s : State) :
    (modSeq f s).now = s.now := rfl
@[simp] theorem modSeq_free (f : Sequencer → Sequencer) (s : State) :
    (modSeq f s).free = s.free := rfl
@[simp] theorem modSeq_pending (f : Sequencer → Sequencer) (s : State) :
    (modSeq f s).pending = s.pending := rfl
@[simp] theorem modSeq_tables (f : Sequencer → Sequencer) (s : State) :
    (modSeq f s).tables = s.tables := rfl
@[simp] theorem modSeq_image (f : Sequencer → Sequencer) (s : State) :
    (modSeq f s).image = s.image := rfl
@[simp] theorem modSeq_loader (f : Sequencer → Sequencer) (s : State) :
    (modSeq f s).loader = s.loader := rfl
@[simp] theorem modSeq_port (f : Sequencer → Sequencer) (s : State) :
    (modSeq f s).port = s.port := rfl
@[simp] theorem modSeq_segs (f : Sequencer → Sequencer) (s : State) :
    (modSeq f s).segs = s.segs := rfl
@[simp] theorem modSeq_nodes (f : Sequencer → Sequencer) (s : State) :
    (modSeq f s).nodes = s.nodes := rfl
@[simp] theorem modSeq_cap (f : Sequencer → Sequencer) (s : State) :
    (modSeq f s).cap = s.cap := rfl
@[simp] theorem modSeq_zc (f : Sequencer → Sequencer) (s : State) :
    (modSeq f s).zc = s.zc := rfl
@[simp] theorem modSeq_seq (f : Sequencer → Sequencer) (s : State) :
    (modSeq f s).seq = f s.seq := rfl
@[simp] theorem modSeq_ride (f : Sequencer → Sequencer) (s : State) :
    (modSeq f s).ride = s.ride := rfl
@[simp] theorem modSeq_leak (f : Sequencer → Sequencer) (s : State) :
    (modSeq f s).leak = s.leak := rfl
@[simp] theorem modSeq_lines (f : Sequencer → Sequencer) (s : State) :
    (modSeq f s).lines = s.lines := rfl
@[simp] theorem modSeq_mail (f : Sequencer → Sequencer) (s : State) :
    (modSeq f s).mail = s.mail := rfl

@[simp] theorem modRide_now (f : Ride → Ride) (s : State) :
    (modRide f s).now = s.now := rfl
@[simp] theorem modRide_free (f : Ride → Ride) (s : State) :
    (modRide f s).free = s.free := rfl
@[simp] theorem modRide_pending (f : Ride → Ride) (s : State) :
    (modRide f s).pending = s.pending := rfl
@[simp] theorem modRide_tables (f : Ride → Ride) (s : State) :
    (modRide f s).tables = s.tables := rfl
@[simp] theorem modRide_image (f : Ride → Ride) (s : State) :
    (modRide f s).image = s.image := rfl
@[simp] theorem modRide_loader (f : Ride → Ride) (s : State) :
    (modRide f s).loader = s.loader := rfl
@[simp] theorem modRide_port (f : Ride → Ride) (s : State) :
    (modRide f s).port = s.port := rfl
@[simp] theorem modRide_segs (f : Ride → Ride) (s : State) :
    (modRide f s).segs = s.segs := rfl
@[simp] theorem modRide_nodes (f : Ride → Ride) (s : State) :
    (modRide f s).nodes = s.nodes := rfl
@[simp] theorem modRide_cap (f : Ride → Ride) (s : State) :
    (modRide f s).cap = s.cap := rfl
@[simp] theorem modRide_zc (f : Ride → Ride) (s : State) :
    (modRide f s).zc = s.zc := rfl
@[simp] theorem modRide_seq (f : Ride → Ride) (s : State) :
    (modRide f s).seq = s.seq := rfl
@[simp] theorem modRide_ride (f : Ride → Ride) (s : State) :
    (modRide f s).ride = f s.ride := rfl
@[simp] theorem modRide_leak (f : Ride → Ride) (s : State) :
    (modRide f s).leak = s.leak := rfl
@[simp] theorem modRide_lines (f : Ride → Ride) (s : State) :
    (modRide f s).lines = s.lines := rfl
@[simp] theorem modRide_mail (f : Ride → Ride) (s : State) :
    (modRide f s).mail = s.mail := rfl

@[simp] theorem modLeak_now (f : Leak → Leak) (s : State) :
    (modLeak f s).now = s.now := rfl
@[simp] theorem modLeak_free (f : Leak → Leak) (s : State) :
    (modLeak f s).free = s.free := rfl
@[simp] theorem modLeak_pending (f : Leak → Leak) (s : State) :
    (modLeak f s).pending = s.pending := rfl
@[simp] theorem modLeak_tables (f : Leak → Leak) (s : State) :
    (modLeak f s).tables = s.tables := rfl
@[simp] theorem modLeak_image (f : Leak → Leak) (s : State) :
    (modLeak f s).image = s.image := rfl
@[simp] theorem modLeak_loader (f : Leak → Leak) (s : State) :
    (modLeak f s).loader = s.loader := rfl
@[simp] theorem modLeak_port (f : Leak → Leak) (s : State) :
    (modLeak f s).port = s.port := rfl
@[simp] theorem modLeak_segs (f : Leak → Leak) (s : State) :
    (modLeak f s).segs = s.segs := rfl
@[simp] theorem modLeak_nodes (f : Leak → Leak) (s : State) :
    (modLeak f s).nodes = s.nodes := rfl
@[simp] theorem modLeak_cap (f : Leak → Leak) (s : State) :
    (modLeak f s).cap = s.cap := rfl
@[simp] theorem modLeak_zc (f : Leak → Leak) (s : State) :
    (modLeak f s).zc = s.zc := rfl
@[simp] theorem modLeak_seq (f : Leak → Leak) (s : State) :
    (modLeak f s).seq = s.seq := rfl
@[simp] theorem modLeak_ride (f : Leak → Leak) (s : State) :
    (modLeak f s).ride = s.ride := rfl
@[simp] theorem modLeak_leak (f : Leak → Leak) (s : State) :
    (modLeak f s).leak = f s.leak := rfl
@[simp] theorem modLeak_lines (f : Leak → Leak) (s : State) :
    (modLeak f s).lines = s.lines := rfl
@[simp] theorem modLeak_mail (f : Leak → Leak) (s : State) :
    (modLeak f s).mail = s.mail := rfl

@[simp] theorem modMail_now (f : Mail → Mail) (s : State) :
    (modMail f s).now = s.now := rfl
@[simp] theorem modMail_free (f : Mail → Mail) (s : State) :
    (modMail f s).free = s.free := rfl
@[simp] theorem modMail_pending (f : Mail → Mail) (s : State) :
    (modMail f s).pending = s.pending := rfl
@[simp] theorem modMail_tables (f : Mail → Mail) (s : State) :
    (modMail f s).tables = s.tables := rfl
@[simp] theorem modMail_image (f : Mail → Mail) (s : State) :
    (modMail f s).image = s.image := rfl
@[simp] theorem modMail_loader (f : Mail → Mail) (s : State) :
    (modMail f s).loader = s.loader := rfl
@[simp] theorem modMail_port (f : Mail → Mail) (s : State) :
    (modMail f s).port = s.port := rfl
@[simp] theorem modMail_segs (f : Mail → Mail) (s : State) :
    (modMail f s).segs = s.segs := rfl
@[simp] theorem modMail_nodes (f : Mail → Mail) (s : State) :
    (modMail f s).nodes = s.nodes := rfl
@[simp] theorem modMail_cap (f : Mail → Mail) (s : State) :
    (modMail f s).cap = s.cap := rfl
@[simp] theorem modMail_zc (f : Mail → Mail) (s : State) :
    (modMail f s).zc = s.zc := rfl
@[simp] theorem modMail_seq (f : Mail → Mail) (s : State) :
    (modMail f s).seq = s.seq := rfl
@[simp] theorem modMail_ride (f : Mail → Mail) (s : State) :
    (modMail f s).ride = s.ride := rfl
@[simp] theorem modMail_leak (f : Mail → Mail) (s : State) :
    (modMail f s).leak = s.leak := rfl
@[simp] theorem modMail_lines (f : Mail → Mail) (s : State) :
    (modMail f s).lines = s.lines := rfl
@[simp] theorem modMail_mail (f : Mail → Mail) (s : State) :
    (modMail f s).mail = f s.mail := rfl

@[simp] theorem modSeg_now (i : Nat) (f : Segment → Segment) (s : State) :
    (modSeg i f s).now = s.now := rfl
@[simp] theorem modSeg_free (i : Nat) (f : Segment → Segment) (s : State) :
    (modSeg i f s).free = s.free := rfl
@[simp] theorem modSeg_pending (i : Nat) (f : Segment → Segment) (s : State) :
    (modSeg i f s).pending = s.pending := rfl
@[simp] theorem modSeg_tables (i : Nat) (f : Segment → Segment) (s : State) :
    (modSeg i f s).tables = s.tables := rfl
@[simp] theorem modSeg_image (i : Nat) (f : Segment → Segment) (s : State) :
    (modSeg i f s).image = s.image := rfl
@[simp] theorem modSeg_loader (i : Nat) (f : Segment → Segment) (s : State) :
    (modSeg i f s).loader = s.loader := rfl
@[simp] theorem modSeg_port (i : Nat) (f : Segment → Segment) (s : State) :
    (modSeg i f s).port = s.port := rfl
@[simp] theorem modSeg_segs (i : Nat) (f : Segment → Segment) (s : State) :
    (modSeg i f s).segs = put s.segs i (f (segAt s i)) := rfl
@[simp] theorem modSeg_nodes (i : Nat) (f : Segment → Segment) (s : State) :
    (modSeg i f s).nodes = s.nodes := rfl
@[simp] theorem modSeg_cap (i : Nat) (f : Segment → Segment) (s : State) :
    (modSeg i f s).cap = s.cap := rfl
@[simp] theorem modSeg_zc (i : Nat) (f : Segment → Segment) (s : State) :
    (modSeg i f s).zc = s.zc := rfl
@[simp] theorem modSeg_seq (i : Nat) (f : Segment → Segment) (s : State) :
    (modSeg i f s).seq = s.seq := rfl
@[simp] theorem modSeg_ride (i : Nat) (f : Segment → Segment) (s : State) :
    (modSeg i f s).ride = s.ride := rfl
@[simp] theorem modSeg_leak (i : Nat) (f : Segment → Segment) (s : State) :
    (modSeg i f s).leak = s.leak := rfl
@[simp] theorem modSeg_lines (i : Nat) (f : Segment → Segment) (s : State) :
    (modSeg i f s).lines = s.lines := rfl
@[simp] theorem modSeg_mail (i : Nat) (f : Segment → Segment) (s : State) :
    (modSeg i f s).mail = s.mail := rfl

@[simp] theorem modNode_now (k : Nat) (f : NodeRun → NodeRun) (s : State) :
    (modNode k f s).now = s.now := rfl
@[simp] theorem modNode_free (k : Nat) (f : NodeRun → NodeRun) (s : State) :
    (modNode k f s).free = s.free := rfl
@[simp] theorem modNode_pending (k : Nat) (f : NodeRun → NodeRun) (s : State) :
    (modNode k f s).pending = s.pending := rfl
@[simp] theorem modNode_tables (k : Nat) (f : NodeRun → NodeRun) (s : State) :
    (modNode k f s).tables = s.tables := rfl
@[simp] theorem modNode_image (k : Nat) (f : NodeRun → NodeRun) (s : State) :
    (modNode k f s).image = s.image := rfl
@[simp] theorem modNode_loader (k : Nat) (f : NodeRun → NodeRun) (s : State) :
    (modNode k f s).loader = s.loader := rfl
@[simp] theorem modNode_port (k : Nat) (f : NodeRun → NodeRun) (s : State) :
    (modNode k f s).port = s.port := rfl
@[simp] theorem modNode_segs (k : Nat) (f : NodeRun → NodeRun) (s : State) :
    (modNode k f s).segs = s.segs := rfl
@[simp] theorem modNode_nodes (k : Nat) (f : NodeRun → NodeRun) (s : State) :
    (modNode k f s).nodes = put s.nodes k (f (nodeAt s k)) := rfl
@[simp] theorem modNode_cap (k : Nat) (f : NodeRun → NodeRun) (s : State) :
    (modNode k f s).cap = s.cap := rfl
@[simp] theorem modNode_zc (k : Nat) (f : NodeRun → NodeRun) (s : State) :
    (modNode k f s).zc = s.zc := rfl
@[simp] theorem modNode_seq (k : Nat) (f : NodeRun → NodeRun) (s : State) :
    (modNode k f s).seq = s.seq := rfl
@[simp] theorem modNode_ride (k : Nat) (f : NodeRun → NodeRun) (s : State) :
    (modNode k f s).ride = s.ride := rfl
@[simp] theorem modNode_leak (k : Nat) (f : NodeRun → NodeRun) (s : State) :
    (modNode k f s).leak = s.leak := rfl
@[simp] theorem modNode_lines (k : Nat) (f : NodeRun → NodeRun) (s : State) :
    (modNode k f s).lines = s.lines := rfl
@[simp] theorem modNode_mail (k : Nat) (f : NodeRun → NodeRun) (s : State) :
    (modNode k f s).mail = s.mail := rfl

@[simp] theorem modZone_now (z : Nat) (f : ZoneRun → ZoneRun) (s : State) :
    (modZone z f s).now = s.now := rfl
@[simp] theorem modZone_free (z : Nat) (f : ZoneRun → ZoneRun) (s : State) :
    (modZone z f s).free = s.free := rfl
@[simp] theorem modZone_pending (z : Nat) (f : ZoneRun → ZoneRun) (s : State) :
    (modZone z f s).pending = s.pending := rfl
@[simp] theorem modZone_tables (z : Nat) (f : ZoneRun → ZoneRun) (s : State) :
    (modZone z f s).tables = s.tables := rfl
@[simp] theorem modZone_image (z : Nat) (f : ZoneRun → ZoneRun) (s : State) :
    (modZone z f s).image = s.image := rfl
@[simp] theorem modZone_loader (z : Nat) (f : ZoneRun → ZoneRun) (s : State) :
    (modZone z f s).loader = s.loader := rfl
@[simp] theorem modZone_port (z : Nat) (f : ZoneRun → ZoneRun) (s : State) :
    (modZone z f s).port = s.port := rfl
@[simp] theorem modZone_segs (z : Nat) (f : ZoneRun → ZoneRun) (s : State) :
    (modZone z f s).segs = s.segs := rfl
@[simp] theorem modZone_nodes (z : Nat) (f : ZoneRun → ZoneRun) (s : State) :
    (modZone z f s).nodes = s.nodes := rfl
@[simp] theorem modZone_cap (z : Nat) (f : ZoneRun → ZoneRun) (s : State) :
    (modZone z f s).cap = s.cap := rfl
@[simp] theorem modZone_zc (z : Nat) (f : ZoneRun → ZoneRun) (s : State) :
    (modZone z f s).zc = { s.zc with zones := put s.zc.zones z (f (zoneAt s z)) } := rfl
@[simp] theorem modZone_seq (z : Nat) (f : ZoneRun → ZoneRun) (s : State) :
    (modZone z f s).seq = s.seq := rfl
@[simp] theorem modZone_ride (z : Nat) (f : ZoneRun → ZoneRun) (s : State) :
    (modZone z f s).ride = s.ride := rfl
@[simp] theorem modZone_leak (z : Nat) (f : ZoneRun → ZoneRun) (s : State) :
    (modZone z f s).leak = s.leak := rfl
@[simp] theorem modZone_lines (z : Nat) (f : ZoneRun → ZoneRun) (s : State) :
    (modZone z f s).lines = s.lines := rfl
@[simp] theorem modZone_mail (z : Nat) (f : ZoneRun → ZoneRun) (s : State) :
    (modZone z f s).mail = s.mail := rfl

@[simp] theorem setChannel_now (c : Nat) (r : ChannelRun) (s : State) :
    (setChannel c r s).now = s.now := rfl
@[simp] theorem setChannel_free (c : Nat) (r : ChannelRun) (s : State) :
    (setChannel c r s).free = s.free := rfl
@[simp] theorem setChannel_pending (c : Nat) (r : ChannelRun) (s : State) :
    (setChannel c r s).pending = s.pending := rfl
@[simp] theorem setChannel_tables (c : Nat) (r : ChannelRun) (s : State) :
    (setChannel c r s).tables = s.tables := rfl
@[simp] theorem setChannel_image (c : Nat) (r : ChannelRun) (s : State) :
    (setChannel c r s).image = s.image := rfl
@[simp] theorem setChannel_loader (c : Nat) (r : ChannelRun) (s : State) :
    (setChannel c r s).loader = s.loader := rfl
@[simp] theorem setChannel_port (c : Nat) (r : ChannelRun) (s : State) :
    (setChannel c r s).port = s.port := rfl
@[simp] theorem setChannel_segs (c : Nat) (r : ChannelRun) (s : State) :
    (setChannel c r s).segs = s.segs := rfl
@[simp] theorem setChannel_nodes (c : Nat) (r : ChannelRun) (s : State) :
    (setChannel c r s).nodes = s.nodes := rfl
@[simp] theorem setChannel_cap (c : Nat) (r : ChannelRun) (s : State) :
    (setChannel c r s).cap = s.cap := rfl
@[simp] theorem setChannel_zc (c : Nat) (r : ChannelRun) (s : State) :
    (setChannel c r s).zc = s.zc := rfl
@[simp] theorem setChannel_seq (c : Nat) (r : ChannelRun) (s : State) :
    (setChannel c r s).seq = s.seq := rfl
@[simp] theorem setChannel_ride (c : Nat) (r : ChannelRun) (s : State) :
    (setChannel c r s).ride = s.ride := rfl
@[simp] theorem setChannel_leak (c : Nat) (r : ChannelRun) (s : State) :
    (setChannel c r s).leak = { s.leak with channels := put s.leak.channels c r } := rfl
@[simp] theorem setChannel_lines (c : Nat) (r : ChannelRun) (s : State) :
    (setChannel c r s).lines = s.lines := rfl
@[simp] theorem setChannel_mail (c : Nat) (r : ChannelRun) (s : State) :
    (setChannel c r s).mail = s.mail := rfl

@[simp] theorem setLine_now (i : Nat) (r : LineRun) (s : State) :
    (setLine i r s).now = s.now := rfl
@[simp] theorem setLine_free (i : Nat) (r : LineRun) (s : State) :
    (setLine i r s).free = s.free := rfl
@[simp] theorem setLine_pending (i : Nat) (r : LineRun) (s : State) :
    (setLine i r s).pending = s.pending := rfl
@[simp] theorem setLine_tables (i : Nat) (r : LineRun) (s : State) :
    (setLine i r s).tables = s.tables := rfl
@[simp] theorem setLine_image (i : Nat) (r : LineRun) (s : State) :
    (setLine i r s).image = s.image := rfl
@[simp] theorem setLine_loader (i : Nat) (r : LineRun) (s : State) :
    (setLine i r s).loader = s.loader := rfl
@[simp] theorem setLine_port (i : Nat) (r : LineRun) (s : State) :
    (setLine i r s).port = s.port := rfl
@[simp] theorem setLine_segs (i : Nat) (r : LineRun) (s : State) :
    (setLine i r s).segs = s.segs := rfl
@[simp] theorem setLine_nodes (i : Nat) (r : LineRun) (s : State) :
    (setLine i r s).nodes = s.nodes := rfl
@[simp] theorem setLine_cap (i : Nat) (r : LineRun) (s : State) :
    (setLine i r s).cap = s.cap := rfl
@[simp] theorem setLine_zc (i : Nat) (r : LineRun) (s : State) :
    (setLine i r s).zc = s.zc := rfl
@[simp] theorem setLine_seq (i : Nat) (r : LineRun) (s : State) :
    (setLine i r s).seq = s.seq := rfl
@[simp] theorem setLine_ride (i : Nat) (r : LineRun) (s : State) :
    (setLine i r s).ride = s.ride := rfl
@[simp] theorem setLine_leak (i : Nat) (r : LineRun) (s : State) :
    (setLine i r s).leak = s.leak := rfl
@[simp] theorem setLine_lines (i : Nat) (r : LineRun) (s : State) :
    (setLine i r s).lines = put s.lines i r := rfl
@[simp] theorem setLine_mail (i : Nat) (r : LineRun) (s : State) :
    (setLine i r s).mail = s.mail := rfl

@[simp] theorem setService_now (k : Nat) (x : Service) (s : State) :
    (setService k x s).now = s.now := rfl
@[simp] theorem setService_free (k : Nat) (x : Service) (s : State) :
    (setService k x s).free = s.free := rfl
@[simp] theorem setService_pending (k : Nat) (x : Service) (s : State) :
    (setService k x s).pending = s.pending := rfl
@[simp] theorem setService_tables (k : Nat) (x : Service) (s : State) :
    (setService k x s).tables = { s.tables with nodes := put s.tables.nodes k { nodeCfg s k with service := x } } := rfl
@[simp] theorem setService_image (k : Nat) (x : Service) (s : State) :
    (setService k x s).image = s.image := rfl
@[simp] theorem setService_loader (k : Nat) (x : Service) (s : State) :
    (setService k x s).loader = s.loader := rfl
@[simp] theorem setService_port (k : Nat) (x : Service) (s : State) :
    (setService k x s).port = s.port := rfl
@[simp] theorem setService_segs (k : Nat) (x : Service) (s : State) :
    (setService k x s).segs = s.segs := rfl
@[simp] theorem setService_nodes (k : Nat) (x : Service) (s : State) :
    (setService k x s).nodes = s.nodes := rfl
@[simp] theorem setService_cap (k : Nat) (x : Service) (s : State) :
    (setService k x s).cap = s.cap := rfl
@[simp] theorem setService_zc (k : Nat) (x : Service) (s : State) :
    (setService k x s).zc = s.zc := rfl
@[simp] theorem setService_seq (k : Nat) (x : Service) (s : State) :
    (setService k x s).seq = s.seq := rfl
@[simp] theorem setService_ride (k : Nat) (x : Service) (s : State) :
    (setService k x s).ride = s.ride := rfl
@[simp] theorem setService_leak (k : Nat) (x : Service) (s : State) :
    (setService k x s).leak = s.leak := rfl
@[simp] theorem setService_lines (k : Nat) (x : Service) (s : State) :
    (setService k x s).lines = s.lines := rfl
@[simp] theorem setService_mail (k : Nat) (x : Service) (s : State) :
    (setService k x s).mail = s.mail := rfl

@[simp] theorem useFree_now (s : State) :
    (useFree s).now = s.now := rfl
@[simp] theorem useFree_free (s : State) :
    (useFree s).free = s.free + 1 := rfl
@[simp] theorem useFree_pending (s : State) :
    (useFree s).pending = s.pending := rfl
@[simp] theorem useFree_tables (s : State) :
    (useFree s).tables = s.tables := rfl
@[simp] theorem useFree_image (s : State) :
    (useFree s).image = s.image := rfl
@[simp] theorem useFree_loader (s : State) :
    (useFree s).loader = s.loader := rfl
@[simp] theorem useFree_port (s : State) :
    (useFree s).port = s.port := rfl
@[simp] theorem useFree_segs (s : State) :
    (useFree s).segs = s.segs := rfl
@[simp] theorem useFree_nodes (s : State) :
    (useFree s).nodes = s.nodes := rfl
@[simp] theorem useFree_cap (s : State) :
    (useFree s).cap = s.cap := rfl
@[simp] theorem useFree_zc (s : State) :
    (useFree s).zc = s.zc := rfl
@[simp] theorem useFree_seq (s : State) :
    (useFree s).seq = s.seq := rfl
@[simp] theorem useFree_ride (s : State) :
    (useFree s).ride = s.ride := rfl
@[simp] theorem useFree_leak (s : State) :
    (useFree s).leak = s.leak := rfl
@[simp] theorem useFree_lines (s : State) :
    (useFree s).lines = s.lines := rfl
@[simp] theorem useFree_mail (s : State) :
    (useFree s).mail = s.mail := rfl

@[simp] theorem setSlot_now (n : Nat) (x : Option RelaySlot) (s : State) :
    (setSlot n x s).now = s.now := rfl
@[simp] theorem setSlot_free (n : Nat) (x : Option RelaySlot) (s : State) :
    (setSlot n x s).free = s.free := rfl
@[simp] theorem setSlot_pending (n : Nat) (x : Option RelaySlot) (s : State) :
    (setSlot n x s).pending = s.pending := rfl
@[simp] theorem setSlot_tables (n : Nat) (x : Option RelaySlot) (s : State) :
    (setSlot n x s).tables = s.tables := rfl
@[simp] theorem setSlot_image (n : Nat) (x : Option RelaySlot) (s : State) :
    (setSlot n x s).image = s.image := rfl
@[simp] theorem setSlot_loader (n : Nat) (x : Option RelaySlot) (s : State) :
    (setSlot n x s).loader = s.loader := rfl
@[simp] theorem setSlot_port (n : Nat) (x : Option RelaySlot) (s : State) :
    (setSlot n x s).port = { s.port with slots := put s.port.slots n x } := rfl
@[simp] theorem setSlot_segs (n : Nat) (x : Option RelaySlot) (s : State) :
    (setSlot n x s).segs = s.segs := rfl
@[simp] theorem setSlot_nodes (n : Nat) (x : Option RelaySlot) (s : State) :
    (setSlot n x s).nodes = s.nodes := rfl
@[simp] theorem setSlot_cap (n : Nat) (x : Option RelaySlot) (s : State) :
    (setSlot n x s).cap = s.cap := rfl
@[simp] theorem setSlot_zc (n : Nat) (x : Option RelaySlot) (s : State) :
    (setSlot n x s).zc = s.zc := rfl
@[simp] theorem setSlot_seq (n : Nat) (x : Option RelaySlot) (s : State) :
    (setSlot n x s).seq = s.seq := rfl
@[simp] theorem setSlot_ride (n : Nat) (x : Option RelaySlot) (s : State) :
    (setSlot n x s).ride = s.ride := rfl
@[simp] theorem setSlot_leak (n : Nat) (x : Option RelaySlot) (s : State) :
    (setSlot n x s).leak = s.leak := rfl
@[simp] theorem setSlot_lines (n : Nat) (x : Option RelaySlot) (s : State) :
    (setSlot n x s).lines = s.lines := rfl
@[simp] theorem setSlot_mail (n : Nat) (x : Option RelaySlot) (s : State) :
    (setSlot n x s).mail = s.mail := rfl

@[simp] theorem keepPlace_now (b : Bool) (s : State) :
    (keepPlace b s).now = s.now := rfl
@[simp] theorem keepPlace_free (b : Bool) (s : State) :
    (keepPlace b s).free = s.free := rfl
@[simp] theorem keepPlace_pending (b : Bool) (s : State) :
    (keepPlace b s).pending = s.pending := rfl
@[simp] theorem keepPlace_tables (b : Bool) (s : State) :
    (keepPlace b s).tables = s.tables := rfl
@[simp] theorem keepPlace_image (b : Bool) (s : State) :
    (keepPlace b s).image = s.image := rfl
@[simp] theorem keepPlace_loader (b : Bool) (s : State) :
    (keepPlace b s).loader = s.loader := rfl
@[simp] theorem keepPlace_port (b : Bool) (s : State) :
    (keepPlace b s).port = { s.port with placeKept := b } := rfl
@[simp] theorem keepPlace_segs (b : Bool) (s : State) :
    (keepPlace b s).segs = s.segs := rfl
@[simp] theorem keepPlace_nodes (b : Bool) (s : State) :
    (keepPlace b s).nodes = s.nodes := rfl
@[simp] theorem keepPlace_cap (b : Bool) (s : State) :
    (keepPlace b s).cap = s.cap := rfl
@[simp] theorem keepPlace_zc (b : Bool) (s : State) :
    (keepPlace b s).zc = s.zc := rfl
@[simp] theorem keepPlace_seq (b : Bool) (s : State) :
    (keepPlace b s).seq = s.seq := rfl
@[simp] theorem keepPlace_ride (b : Bool) (s : State) :
    (keepPlace b s).ride = s.ride := rfl
@[simp] theorem keepPlace_leak (b : Bool) (s : State) :
    (keepPlace b s).leak = s.leak := rfl
@[simp] theorem keepPlace_lines (b : Bool) (s : State) :
    (keepPlace b s).lines = s.lines := rfl
@[simp] theorem keepPlace_mail (b : Bool) (s : State) :
    (keepPlace b s).mail = s.mail := rfl

@[simp] theorem pushResponse_now (r : Response) (s : State) :
    (pushResponse r s).now = s.now := rfl
@[simp] theorem pushResponse_free (r : Response) (s : State) :
    (pushResponse r s).free = s.free := rfl
@[simp] theorem pushResponse_pending (r : Response) (s : State) :
    (pushResponse r s).pending = s.pending := rfl
@[simp] theorem pushResponse_tables (r : Response) (s : State) :
    (pushResponse r s).tables = s.tables := rfl
@[simp] theorem pushResponse_image (r : Response) (s : State) :
    (pushResponse r s).image = s.image := rfl
@[simp] theorem pushResponse_loader (r : Response) (s : State) :
    (pushResponse r s).loader = s.loader := rfl
@[simp] theorem pushResponse_port (r : Response) (s : State) :
    (pushResponse r s).port = { s.port with responses := s.port.responses ++ [r] } := rfl
@[simp] theorem pushResponse_segs (r : Response) (s : State) :
    (pushResponse r s).segs = s.segs := rfl
@[simp] theorem pushResponse_nodes (r : Response) (s : State) :
    (pushResponse r s).nodes = s.nodes := rfl
@[simp] theorem pushResponse_cap (r : Response) (s : State) :
    (pushResponse r s).cap = s.cap := rfl
@[simp] theorem pushResponse_zc (r : Response) (s : State) :
    (pushResponse r s).zc = s.zc := rfl
@[simp] theorem pushResponse_seq (r : Response) (s : State) :
    (pushResponse r s).seq = s.seq := rfl
@[simp] theorem pushResponse_ride (r : Response) (s : State) :
    (pushResponse r s).ride = s.ride := rfl
@[simp] theorem pushResponse_leak (r : Response) (s : State) :
    (pushResponse r s).leak = s.leak := rfl
@[simp] theorem pushResponse_lines (r : Response) (s : State) :
    (pushResponse r s).lines = s.lines := rfl
@[simp] theorem pushResponse_mail (r : Response) (s : State) :
    (pushResponse r s).mail = s.mail := rfl

end Sys2Proof.Machine
end

