-- ==== Sys2Proof/Laws/Frame.lean ====
section
/-! SUPPORT. Frames: what each shared operation leaves alone. `erase bs s` is `s` with the blocks `bs`
blanked; an operation that touches only those blocks keeps it, and those equations compose under
`simp`. -/

namespace Sys2Proof.Machine

/-- The state with the listed blocks blanked. -/
def erase (bs : List Block) (s : State) : State where
  now := if Block.now ∈ bs then 0 else s.now
  free := if Block.free ∈ bs then 0 else s.free
  pending := if Block.pending ∈ bs then [] else s.pending
  tables := if Block.tables ∈ bs then Tables.empty else s.tables
  image := if Block.image ∈ bs then State.reset.image else s.image
  loader := if Block.loader ∈ bs then State.reset.loader else s.loader
  port := if Block.port ∈ bs then Port.initial else s.port
  segs := if Block.segs ∈ bs then State.reset.segs else s.segs
  nodes := if Block.nodes ∈ bs then State.reset.nodes else s.nodes
  cap := if Block.cap ∈ bs then Capacity.initial else s.cap
  zc := if Block.zc ∈ bs then ZoneCtl.initial else s.zc
  seq := if Block.seq ∈ bs then Sequencer.initial else s.seq
  ride := if Block.ride ∈ bs then Ride.initial else s.ride
  leak := if Block.leak ∈ bs then State.reset.leak else s.leak
  lines := if Block.lines ∈ bs then State.reset.lines else s.lines
  mail := if Block.mail ∈ bs then Mail.empty else s.mail

theorem touches_of_erase {bs : List Block} {s t : State} (h : erase bs t = erase bs s) :
    Touches bs s t := by
  intro b hb
  cases b
  case now => simpa [erase, SameBlock, hb] using congrArg State.now h
  case free => simpa [erase, SameBlock, hb] using congrArg State.free h
  case pending => simpa [erase, SameBlock, hb] using congrArg State.pending h
  case tables => simpa [erase, SameBlock, hb] using congrArg State.tables h
  case image => simpa [erase, SameBlock, hb] using congrArg State.image h
  case loader => simpa [erase, SameBlock, hb] using congrArg State.loader h
  case port => simpa [erase, SameBlock, hb] using congrArg State.port h
  case segs => simpa [erase, SameBlock, hb] using congrArg State.segs h
  case nodes => simpa [erase, SameBlock, hb] using congrArg State.nodes h
  case cap => simpa [erase, SameBlock, hb] using congrArg State.cap h
  case zc => simpa [erase, SameBlock, hb] using congrArg State.zc h
  case seq => simpa [erase, SameBlock, hb] using congrArg State.seq h
  case ride => simpa [erase, SameBlock, hb] using congrArg State.ride h
  case leak => simpa [erase, SameBlock, hb] using congrArg State.leak h
  case lines => simpa [erase, SameBlock, hb] using congrArg State.lines h
  case mail => simpa [erase, SameBlock, hb] using congrArg State.mail h

theorem erase_of_touches {bs : List Block} {s t : State} (h : Touches bs s t) :
    erase bs t = erase bs s := by
  have h_now : Block.now ∉ bs → t.now = s.now := fun hb => h .now hb
  have h_free : Block.free ∉ bs → t.free = s.free := fun hb => h .free hb
  have h_pending : Block.pending ∉ bs → t.pending = s.pending := fun hb => h .pending hb
  have h_tables : Block.tables ∉ bs → t.tables = s.tables := fun hb => h .tables hb
  have h_image : Block.image ∉ bs → t.image = s.image := fun hb => h .image hb
  have h_loader : Block.loader ∉ bs → t.loader = s.loader := fun hb => h .loader hb
  have h_port : Block.port ∉ bs → t.port = s.port := fun hb => h .port hb
  have h_segs : Block.segs ∉ bs → t.segs = s.segs := fun hb => h .segs hb
  have h_nodes : Block.nodes ∉ bs → t.nodes = s.nodes := fun hb => h .nodes hb
  have h_cap : Block.cap ∉ bs → t.cap = s.cap := fun hb => h .cap hb
  have h_zc : Block.zc ∉ bs → t.zc = s.zc := fun hb => h .zc hb
  have h_seq : Block.seq ∉ bs → t.seq = s.seq := fun hb => h .seq hb
  have h_ride : Block.ride ∉ bs → t.ride = s.ride := fun hb => h .ride hb
  have h_leak : Block.leak ∉ bs → t.leak = s.leak := fun hb => h .leak hb
  have h_lines : Block.lines ∉ bs → t.lines = s.lines := fun hb => h .lines hb
  have h_mail : Block.mail ∉ bs → t.mail = s.mail := fun hb => h .mail hb
  simp only [erase, State.mk.injEq]
  repeat' apply And.intro
  all_goals split <;> simp_all

theorem touches_iff_erase {bs : List Block} {s t : State} :
    Touches bs s t ↔ erase bs t = erase bs s :=
  ⟨erase_of_touches, touches_of_erase⟩

/-! ## Updates -/

@[simp] theorem erase_modPort {bs : List Block} (f : Port → Port) (s : State) (h : Block.port ∈ bs) :
    erase bs (modPort f s) = erase bs s := by simp [erase, h]

@[simp] theorem erase_modCap {bs : List Block} (f : Capacity → Capacity) (s : State) (h : Block.cap ∈ bs) :
    erase bs (modCap f s) = erase bs s := by simp [erase, h]

@[simp] theorem erase_modZc {bs : List Block} (f : ZoneCtl → ZoneCtl) (s : State) (h : Block.zc ∈ bs) :
    erase bs (modZc f s) = erase bs s := by simp [erase, h]

@[simp] theorem erase_modSeq {bs : List Block} (f : Sequencer → Sequencer) (s : State) (h : Block.seq ∈ bs) :
    erase bs (modSeq f s) = erase bs s := by simp [erase, h]

@[simp] theorem erase_modRide {bs : List Block} (f : Ride → Ride) (s : State) (h : Block.ride ∈ bs) :
    erase bs (modRide f s) = erase bs s := by simp [erase, h]

@[simp] theorem erase_modLeak {bs : List Block} (f : Leak → Leak) (s : State) (h : Block.leak ∈ bs) :
    erase bs (modLeak f s) = erase bs s := by simp [erase, h]

@[simp] theorem erase_modMail {bs : List Block} (f : Mail → Mail) (s : State) (h : Block.mail ∈ bs) :
    erase bs (modMail f s) = erase bs s := by simp [erase, h]

@[simp] theorem erase_modSeg {bs : List Block} (i : Nat) (f : Segment → Segment) (s : State) (h : Block.segs ∈ bs) :
    erase bs (modSeg i f s) = erase bs s := by simp [erase, h]

@[simp] theorem erase_modNode {bs : List Block} (k : Nat) (f : NodeRun → NodeRun) (s : State) (h : Block.nodes ∈ bs) :
    erase bs (modNode k f s) = erase bs s := by simp [erase, h]

@[simp] theorem erase_modZone {bs : List Block} (z : Nat) (f : ZoneRun → ZoneRun) (s : State) (h : Block.zc ∈ bs) :
    erase bs (modZone z f s) = erase bs s := by simp [erase, h]

@[simp] theorem erase_setChannel {bs : List Block} (c : Nat) (r : ChannelRun) (s : State) (h : Block.leak ∈ bs) :
    erase bs (setChannel c r s) = erase bs s := by simp [erase, h]

@[simp] theorem erase_setLine {bs : List Block} (i : Nat) (r : LineRun) (s : State) (h : Block.lines ∈ bs) :
    erase bs (setLine i r s) = erase bs s := by simp [erase, h]

@[simp] theorem erase_setService {bs : List Block} (k : Nat) (x : Service) (s : State) (h : Block.tables ∈ bs) :
    erase bs (setService k x s) = erase bs s := by simp [erase, h]

@[simp] theorem erase_useFree {bs : List Block} (s : State) (h : Block.free ∈ bs) :
    erase bs (useFree s) = erase bs s := by simp [erase, h]

@[simp] theorem erase_setSlot {bs : List Block} (n : Nat) (x : Option RelaySlot) (s : State) (h : Block.port ∈ bs) :
    erase bs (setSlot n x s) = erase bs s := by simp [erase, h]

@[simp] theorem erase_keepPlace {bs : List Block} (b : Bool) (s : State) (h : Block.port ∈ bs) :
    erase bs (keepPlace b s) = erase bs s := by simp [erase, h]

@[simp] theorem erase_pushResponse {bs : List Block} (r : Response) (s : State) (h : Block.port ∈ bs) :
    erase bs (pushResponse r s) = erase bs s := by simp [erase, h]

@[simp] theorem erase_with_now {bs : List Block} (s : State) (x : Nat) (h : Block.now ∈ bs) :
    erase bs { s with now := x } = erase bs s := by simp [erase, h]

@[simp] theorem erase_with_free {bs : List Block} (s : State) (x : Nat) (h : Block.free ∈ bs) :
    erase bs { s with free := x } = erase bs s := by simp [erase, h]

@[simp] theorem erase_with_pending {bs : List Block} (s : State) (x : List Instr) (h : Block.pending ∈ bs) :
    erase bs { s with pending := x } = erase bs s := by simp [erase, h]

@[simp] theorem erase_with_tables {bs : List Block} (s : State) (x : Tables) (h : Block.tables ∈ bs) :
    erase bs { s with tables := x } = erase bs s := by simp [erase, h]

@[simp] theorem erase_with_image {bs : List Block} (s : State) (x : Image) (h : Block.image ∈ bs) :
    erase bs { s with image := x } = erase bs s := by simp [erase, h]

@[simp] theorem erase_with_loader {bs : List Block} (s : State) (x : Loader) (h : Block.loader ∈ bs) :
    erase bs { s with loader := x } = erase bs s := by simp [erase, h]

@[simp] theorem erase_with_port {bs : List Block} (s : State) (x : Port) (h : Block.port ∈ bs) :
    erase bs { s with port := x } = erase bs s := by simp [erase, h]

@[simp] theorem erase_with_segs {bs : List Block} (s : State) (x : Vector Segment 4) (h : Block.segs ∈ bs) :
    erase bs { s with segs := x } = erase bs s := by simp [erase, h]

@[simp] theorem erase_with_nodes {bs : List Block} (s : State) (x : Vector NodeRun 48) (h : Block.nodes ∈ bs) :
    erase bs { s with nodes := x } = erase bs s := by simp [erase, h]

@[simp] theorem erase_with_cap {bs : List Block} (s : State) (x : Capacity) (h : Block.cap ∈ bs) :
    erase bs { s with cap := x } = erase bs s := by simp [erase, h]

@[simp] theorem erase_with_zc {bs : List Block} (s : State) (x : ZoneCtl) (h : Block.zc ∈ bs) :
    erase bs { s with zc := x } = erase bs s := by simp [erase, h]

@[simp] theorem erase_with_seq {bs : List Block} (s : State) (x : Sequencer) (h : Block.seq ∈ bs) :
    erase bs { s with seq := x } = erase bs s := by simp [erase, h]

@[simp] theorem erase_with_ride {bs : List Block} (s : State) (x : Ride) (h : Block.ride ∈ bs) :
    erase bs { s with ride := x } = erase bs s := by simp [erase, h]

@[simp] theorem erase_with_leak {bs : List Block} (s : State) (x : Leak) (h : Block.leak ∈ bs) :
    erase bs { s with leak := x } = erase bs s := by simp [erase, h]

@[simp] theorem erase_with_lines {bs : List Block} (s : State) (x : Vector LineRun 11) (h : Block.lines ∈ bs) :
    erase bs { s with lines := x } = erase bs s := by simp [erase, h]

@[simp] theorem erase_with_mail {bs : List Block} (s : State) (x : Mail) (h : Block.mail ∈ bs) :
    erase bs { s with mail := x } = erase bs s := by simp [erase, h]

/-- A fold of an operation that touches only the blocks of `bs` touches only those. -/
@[simp] theorem erase_foldl {α : Type} {bs : List Block} (f : State → α → State)
    (h : ∀ s x, erase bs (f s x) = erase bs s) (l : List α) (s : State) :
    erase bs (l.foldl f s) = erase bs s := by
  induction l generalizing s with
  | nil => rfl
  | cons x rest ih => simp [ih, h]

@[simp] theorem erase_foldr {α : Type} {bs : List Block} (f : α → State → State)
    (h : ∀ x s, erase bs (f x s) = erase bs s) (l : List α) (s : State) :
    erase bs (l.foldr f s) = erase bs s := by
  induction l with
  | nil => rfl
  | cons x rest ih => simp [ih, h]

/-! ## Conditionals -/

@[simp] theorem erase_ite {bs : List Block} (c : Prop) [Decidable c] (s t : State) :
    erase bs (if c then s else t) = if c then erase bs s else erase bs t := apply_ite _ _ _ _

@[simp] theorem erase_ite_fst {α : Type} {bs : List Block} (c : Prop) [Decidable c]
    (x y : State × α) :
    erase bs (if c then x else y).1 = if c then erase bs x.1 else erase bs y.1 :=
  apply_ite (fun z : State × α => erase bs z.1) _ _ _

@[simp] theorem erase_ite_snd {α : Type} {bs : List Block} (c : Prop) [Decidable c]
    (x y : α × State) :
    erase bs (if c then x else y).2 = if c then erase bs x.2 else erase bs y.2 :=
  apply_ite (fun z : α × State => erase bs z.2) _ _ _

/-! ## Flags and notices (R154 to R156): the Upstream Port alone -/

@[simp] theorem erase_driveAlert {bs : List Block} (s : State)
    (h_port : Block.port ∈ bs) :
    erase bs (driveAlert s) = erase bs s := by
  simp only [driveAlert]
  all_goals simp [*]

@[simp] theorem erase_setFlag {bs : List Block} (f : EventFlag) (s : State)
    (h_port : Block.port ∈ bs) :
    erase bs (setFlag f s) = erase bs s := by
  simp only [setFlag]
  all_goals simp [*]

@[simp] theorem erase_buildNotice {bs : List Block} (f : EventFlag) (p : List Byte) (s : State)
    (h_port : Block.port ∈ bs) :
    erase bs (buildNotice f p s).1 = erase bs s := by
  simp only [buildNotice]
  repeat' split
  all_goals simp [*]

@[simp] theorem erase_countLost {bs : List Block} (s : State) (h_port : Block.port ∈ bs) :
    erase bs (countLost s) = erase bs s := by
  unfold countLost
  dsimp only
  split
  · split <;> rename_i t h
    all_goals
      have ht : t = (buildNotice _ _ _).1 := (congrArg Prod.fst h).symm
      simp [ht, h_port]
  · simp [h_port]

@[simp] theorem erase_raiseFlag {bs : List Block} (f : EventFlag) (p : List Byte) (s : State)
    (h_port : Block.port ∈ bs) : erase bs (raiseFlag f p s) = erase bs s := by
  unfold raiseFlag
  dsimp only
  split
  · split <;> rename_i t h
    all_goals
      have ht : t = (buildNotice _ _ _).1 := (congrArg Prod.fst h).symm
      simp [ht, h_port]
  · simp [h_port]

@[simp] theorem erase_queueReport {bs : List Block} (f : Frame) (s : State)
    (h_port : Block.port ∈ bs) :
    erase bs (queueReport f s).1 = erase bs s := by
  simp only [queueReport]
  repeat' split
  all_goals simp [*]

/-! ## The Capacity Unit: the port, its own record and the deliveries -/

@[simp] theorem erase_tellCapacityNews {bs : List Block} (before : Capacity) (s : State)
    (h_mail : Block.mail ∈ bs) :
    erase bs (tellCapacityNews before s) = erase bs s := by
  simp only [tellCapacityNews]
  repeat' split
  all_goals simp [*]

@[simp] theorem erase_enterBalanced {bs : List Block} (s : State)
    (h_cap : Block.cap ∈ bs) :
    erase bs (enterBalanced s) = erase bs s := by
  simp only [enterBalanced]
  all_goals simp [*]

@[simp] theorem erase_handOverShed {bs : List Block} (w : Walk) (s : State)
    (h_port : Block.port ∈ bs) (h_cap : Block.cap ∈ bs) (h_mail : Block.mail ∈ bs) :
    erase bs (handOverShed w s) = erase bs s := by
  simp only [handOverShed]
  repeat' split
  all_goals simp [*]

@[simp] theorem erase_computeShed {bs : List Block} (s : State)
    (h_port : Block.port ∈ bs) (h_cap : Block.cap ∈ bs) (h_mail : Block.mail ∈ bs) :
    erase bs (computeShed s) = erase bs s := by
  simp only [computeShed]
  repeat' split
  all_goals simp [*]

@[simp] theorem erase_enterDeficit {bs : List Block} (s : State)
    (h_port : Block.port ∈ bs) (h_cap : Block.cap ∈ bs) (h_mail : Block.mail ∈ bs) :
    erase bs (enterDeficit s) = erase bs s := by
  simp only [enterDeficit]
  repeat' split
  all_goals simp [*]

@[simp] theorem erase_evaluateCapacity {bs : List Block} (s : State)
    (h_port : Block.port ∈ bs) (h_cap : Block.cap ∈ bs) (h_mail : Block.mail ∈ bs) :
    erase bs (evaluateCapacity s) = erase bs s := by
  simp only [evaluateCapacity]
  repeat' split
  all_goals simp [*]

@[simp] theorem erase_recomputeAvailable {bs : List Block} (s : State)
    (h_port : Block.port ∈ bs) (h_cap : Block.cap ∈ bs) (h_mail : Block.mail ∈ bs) :
    erase bs (recomputeAvailable s) = erase bs s := by
  simp only [recomputeAvailable]
  all_goals simp [*]

@[simp] theorem erase_recomputeCommitted {bs : List Block} (s : State)
    (h_port : Block.port ∈ bs) (h_cap : Block.cap ∈ bs) (h_mail : Block.mail ∈ bs) :
    erase bs (recomputeCommitted s) = erase bs s := by
  simp only [recomputeCommitted]
  all_goals simp [*]

@[simp] theorem erase_suspendCapacity {bs : List Block} (s : State)
    (h_cap : Block.cap ∈ bs) (h_mail : Block.mail ∈ bs) :
    erase bs (suspendCapacity s) = erase bs s := by
  simp only [suspendCapacity]
  all_goals simp [*]

@[simp] theorem erase_resumeCapacity {bs : List Block} (s : State)
    (h_port : Block.port ∈ bs) (h_cap : Block.cap ∈ bs) (h_mail : Block.mail ∈ bs) :
    erase bs (resumeCapacity s) = erase bs s := by
  simp only [resumeCapacity]
  all_goals simp [*]

@[simp] theorem erase_graceExpired {bs : List Block} (s : State)
    (h_port : Block.port ∈ bs) (h_cap : Block.cap ∈ bs) (h_mail : Block.mail ∈ bs) :
    erase bs (graceExpired s) = erase bs s := by
  simp only [graceExpired]
  repeat' split
  all_goals simp [*]

@[simp] theorem erase_capacityShedDone {bs : List Block} (s : State)
    (h_port : Block.port ∈ bs) (h_cap : Block.cap ∈ bs) (h_mail : Block.mail ∈ bs) :
    erase bs (capacityShedDone s) = erase bs s := by
  simp only [capacityShedDone]
  repeat' split
  all_goals simp [*]

/-! ## The segment queues -/

@[simp] theorem erase_arbitrate {bs : List Block} (i : Nat) (s : State)
    (h_segs : Block.segs ∈ bs) :
    erase bs (arbitrate i s).1 = erase bs s := by
  simp only [arbitrate]
  repeat' split
  all_goals simp [*]

@[simp] theorem erase_joinSegment {bs : List Block} (i : Nat) (e : Exchange) (s : State)
    (h_segs : Block.segs ∈ bs) :
    erase bs (joinSegment i e s).state = erase bs s := by
  simp only [joinSegment]
  repeat' split
  all_goals simp [*]

end Sys2Proof.Machine
end

