-- ==== Sys2Proof/Laws/FrameZones.lean ====
section
/-! SUPPORT. Frames of the Zone Controller's operations: they touch the Upstream Port (flags), the
segment queues, the Capacity Unit (the committed power), the Zone Controller and the deliveries. The
shed order is the one that claims write out. -/

namespace Sys2Proof.Machine

@[simp] theorem erase_tellSequencer {bs : List Block} (z : Nat) (old new : ZoneState) (s : State)
    (h_mail : Block.mail ∈ bs) :
    erase bs (tellSequencer z old new s) = erase bs s := by
  simp only [tellSequencer]
  all_goals simp [*]

@[simp] theorem erase_tellZoneChange {bs : List Block} (z : Nat) (old new : ZoneState) (s : State)
    (h_port : Block.port ∈ bs) (h_cap : Block.cap ∈ bs) (h_mail : Block.mail ∈ bs) :
    erase bs (tellZoneChange z old new s) = erase bs s := by
  simp only [tellZoneChange]
  repeat' split
  all_goals simp [*]

@[simp] theorem erase_enqueueZone {bs : List Block} (z : Nat) (s : State)
    (h_zc : Block.zc ∈ bs) :
    erase bs (enqueueZone z s) = erase bs s := by
  simp only [enqueueZone]
  all_goals simp [*]

@[simp] theorem erase_dequeueZone {bs : List Block} (z : Nat) (s : State)
    (h_zc : Block.zc ∈ bs) :
    erase bs (dequeueZone z s) = erase bs s := by
  simp only [dequeueZone]
  all_goals simp [*]

@[simp] theorem erase_leaveReadmit {bs : List Block} (z : Nat) (s : State)
    (h_zc : Block.zc ∈ bs) :
    erase bs (leaveReadmit z s) = erase bs s := by
  simp only [leaveReadmit]
  all_goals simp [*]

@[simp] theorem erase_grantZone {bs : List Block} (z : Nat) (s : State)
    (h_port : Block.port ∈ bs) (h_cap : Block.cap ∈ bs) (h_zc : Block.zc ∈ bs) (h_mail : Block.mail ∈ bs) :
    erase bs (grantZone z s) = erase bs s := by
  simp only [grantZone]
  all_goals simp [*]

@[simp] theorem erase_arbiterRun {bs : List Block} (fuel : Nat) (s : State)
    (h_port : Block.port ∈ bs) (h_segs : Block.segs ∈ bs) (h_cap : Block.cap ∈ bs)
    (h_zc : Block.zc ∈ bs) (h_mail : Block.mail ∈ bs) :
    erase bs (arbiterRun fuel s) = erase bs s := by
  induction fuel generalizing s with
  | zero => rfl
  | succ fuel ih =>
    simp only [arbiterRun]
    repeat' split
    all_goals simp [*]

@[simp] theorem erase_runArbiter {bs : List Block} (s : State)
    (h_port : Block.port ∈ bs) (h_segs : Block.segs ∈ bs) (h_cap : Block.cap ∈ bs) (h_zc : Block.zc ∈ bs) (h_mail : Block.mail ∈ bs) :
    erase bs (runArbiter s) = erase bs s := by
  simp only [runArbiter]
  all_goals simp [*]

@[simp] theorem erase_afterDeparture {bs : List Block} (b : Bool) (s : State)
    (h_port : Block.port ∈ bs) (h_segs : Block.segs ∈ bs) (h_cap : Block.cap ∈ bs) (h_zc : Block.zc ∈ bs) (h_mail : Block.mail ∈ bs) :
    erase bs (afterDeparture b s) = erase bs s := by
  simp only [afterDeparture]
  repeat' split
  all_goals simp [*]

@[simp] theorem erase_setDisablePending {bs : List Block} (z : Nat) (x : DisableOutcome) (s : State)
    (h_port : Block.port ∈ bs) (h_zc : Block.zc ∈ bs) :
    erase bs (setDisablePending z x s) = erase bs s := by
  simp only [setDisablePending]
  repeat' split
  all_goals simp [*]

@[simp] theorem erase_queueDisable {bs : List Block} (z : Nat) (s : State)
    (h_port : Block.port ∈ bs) (h_segs : Block.segs ∈ bs) (h_zc : Block.zc ∈ bs) :
    erase bs (queueDisable z s).1 = erase bs s := by
  simp only [queueDisable]
  repeat' split
  all_goals simp [*]

@[simp] theorem erase_drainZone {bs : List Block} (z : Nat) (s : State)
    (h_port : Block.port ∈ bs) (h_cap : Block.cap ∈ bs) (h_zc : Block.zc ∈ bs) (h_mail : Block.mail ∈ bs) :
    erase bs (drainZone s z) = erase bs s := by
  simp only [drainZone]
  all_goals simp [*]

@[simp] theorem erase_evaluateReadmit {bs : List Block} (s : State)
    (h_port : Block.port ∈ bs) (h_segs : Block.segs ∈ bs) (h_cap : Block.cap ∈ bs) (h_zc : Block.zc ∈ bs) (h_mail : Block.mail ∈ bs) :
    erase bs (evaluateReadmit s) = erase bs s := by
  simp only [evaluateReadmit]
  repeat' split
  all_goals simp [*]

@[simp] theorem erase_shedZone {bs : List Block} (z : Nat) (s : State)
    (h_port : Block.port ∈ bs) (h_segs : Block.segs ∈ bs) (h_cap : Block.cap ∈ bs) (h_zc : Block.zc ∈ bs) (h_mail : Block.mail ∈ bs) :
    erase bs (shedZone s z) = erase bs s := by
  simp only [shedZone]
  repeat' split
  all_goals simp [*]

@[simp] theorem erase_shedList {bs : List Block} (l : List Nat) (s : State)
    (h_port : Block.port ∈ bs) (h_segs : Block.segs ∈ bs) (h_cap : Block.cap ∈ bs)
    (h_zc : Block.zc ∈ bs) (h_mail : Block.mail ∈ bs) :
    erase bs (shedList l s).1 = erase bs s := by
  induction l generalizing s with
  | nil => rfl
  | cons z rest ih => simp [shedList, *]

@[simp] theorem erase_shedSurplus {bs : List Block} (s : State)
    (h_port : Block.port ∈ bs) (h_segs : Block.segs ∈ bs) (h_cap : Block.cap ∈ bs) (h_zc : Block.zc ∈ bs) (h_mail : Block.mail ∈ bs) :
    erase bs (shedSurplus s) = erase bs s := by
  simp only [shedSurplus]
  all_goals simp [*]

@[simp] theorem erase_failAttempt {bs : List Block} (z : Nat) (x : AttemptCause) (s : State)
    (h_port : Block.port ∈ bs) (h_segs : Block.segs ∈ bs) (h_cap : Block.cap ∈ bs) (h_zc : Block.zc ∈ bs) (h_mail : Block.mail ∈ bs) :
    erase bs (failAttempt z x s) = erase bs s := by
  simp only [failAttempt]
  repeat' split
  all_goals simp [*]

@[simp] theorem erase_enableEnded {bs : List Block} (e k : Nat) (r : FeedReport) (s : State)
    (h_port : Block.port ∈ bs) (h_segs : Block.segs ∈ bs) (h_cap : Block.cap ∈ bs) (h_zc : Block.zc ∈ bs) (h_mail : Block.mail ∈ bs) :
    erase bs (enableEnded e k r s) = erase bs s := by
  simp only [enableEnded]
  repeat' split
  all_goals simp [*]

@[simp] theorem erase_disableEnded {bs : List Block} (e k : Nat) (r : FeedReport) (s : State)
    (h_port : Block.port ∈ bs) (h_segs : Block.segs ∈ bs) (h_cap : Block.cap ∈ bs) (h_zc : Block.zc ∈ bs) (h_mail : Block.mail ∈ bs) :
    erase bs (disableEnded e k r s) = erase bs s := by
  simp only [disableEnded]
  repeat' split
  all_goals simp [*]

@[simp] theorem erase_feedSetEnded {bs : List Block} (e k : Nat) (on : Bool) (r : FeedReport) (s : State)
    (h_port : Block.port ∈ bs) (h_segs : Block.segs ∈ bs) (h_cap : Block.cap ∈ bs) (h_zc : Block.zc ∈ bs) (h_mail : Block.mail ∈ bs) :
    erase bs (feedSetEnded e k on r s) = erase bs s := by
  simp only [feedSetEnded]
  repeat' split
  all_goals simp [*]

@[simp] theorem erase_powerGood {bs : List Block} (z : Nat) (s : State)
    (h_port : Block.port ∈ bs) (h_segs : Block.segs ∈ bs) (h_cap : Block.cap ∈ bs) (h_zc : Block.zc ∈ bs) (h_mail : Block.mail ∈ bs) :
    erase bs (powerGood z s) = erase bs s := by
  simp only [powerGood]
  all_goals simp [*]

@[simp] theorem erase_tripZone {bs : List Block} (z r : Nat) (s : State)
    (h_port : Block.port ∈ bs) (h_segs : Block.segs ∈ bs) (h_cap : Block.cap ∈ bs) (h_zc : Block.zc ∈ bs) (h_mail : Block.mail ∈ bs) :
    erase bs (tripZone z r s) = erase bs s := by
  simp only [tripZone]
  all_goals simp [*]

@[simp] theorem erase_adoptOff {bs : List Block} (z : Nat) (x : ZoneState) (s : State)
    (h_port : Block.port ∈ bs) (h_segs : Block.segs ∈ bs) (h_cap : Block.cap ∈ bs) (h_zc : Block.zc ∈ bs) (h_mail : Block.mail ∈ bs) :
    erase bs (adoptOff z x s) = erase bs s := by
  simp only [adoptOff]
  repeat' split
  all_goals simp [*]

@[simp] theorem erase_adoptZone {bs : List Block} (z r : Nat) (s : State)
    (h_port : Block.port ∈ bs) (h_segs : Block.segs ∈ bs) (h_cap : Block.cap ∈ bs) (h_zc : Block.zc ∈ bs) (h_mail : Block.mail ∈ bs) :
    erase bs (adoptZone z r s) = erase bs s := by
  simp only [adoptZone]
  repeat' split
  all_goals simp [*]

@[simp] theorem erase_zoneReport {bs : List Block} (e : Nat) (x : Nat × Nat) (s : State)
    (h_port : Block.port ∈ bs) (h_segs : Block.segs ∈ bs) (h_cap : Block.cap ∈ bs) (h_zc : Block.zc ∈ bs) (h_mail : Block.mail ∈ bs) :
    erase bs (zoneReport e s x) = erase bs s := by
  simp only [zoneReport]
  repeat' split
  all_goals simp [*]

@[simp] theorem erase_queueZone {bs : List Block} (z : Nat) (s : State)
    (h_port : Block.port ∈ bs) (h_segs : Block.segs ∈ bs) (h_cap : Block.cap ∈ bs) (h_zc : Block.zc ∈ bs) (h_mail : Block.mail ∈ bs) :
    erase bs (queueZone z s) = erase bs s := by
  simp only [queueZone]
  all_goals simp [*]

@[simp] theorem erase_switchZoneOff {bs : List Block} (z : Nat) (s : State)
    (h_port : Block.port ∈ bs) (h_segs : Block.segs ∈ bs) (h_cap : Block.cap ∈ bs) (h_zc : Block.zc ∈ bs) (h_mail : Block.mail ∈ bs) :
    erase bs (switchZoneOff z s) = erase bs s := by
  simp only [switchZoneOff]
  all_goals simp [*]

@[simp] theorem erase_unqueueZone {bs : List Block} (z : Nat) (x : ZoneState) (s : State)
    (h_port : Block.port ∈ bs) (h_cap : Block.cap ∈ bs) (h_zc : Block.zc ∈ bs) (h_mail : Block.mail ∈ bs) :
    erase bs (unqueueZone z x s) = erase bs s := by
  simp only [unqueueZone]
  all_goals simp [*]

@[simp] theorem erase_unshedZone {bs : List Block} (z : Nat) (x : ZoneState) (s : State)
    (h_port : Block.port ∈ bs) (h_cap : Block.cap ∈ bs) (h_zc : Block.zc ∈ bs) (h_mail : Block.mail ∈ bs) :
    erase bs (unshedZone z x s) = erase bs s := by
  simp only [unshedZone]
  all_goals simp [*]

@[simp] theorem erase_zoneOnRequest {bs : List Block} (z : Nat) (s : State)
    (h_port : Block.port ∈ bs) (h_segs : Block.segs ∈ bs) (h_cap : Block.cap ∈ bs) (h_zc : Block.zc ∈ bs) (h_mail : Block.mail ∈ bs) :
    erase bs (zoneOnRequest z s).2 = erase bs s := by
  simp only [zoneOnRequest]
  repeat' split
  all_goals simp [*]

@[simp] theorem erase_zoneOffRequest {bs : List Block} (z : Nat) (s : State)
    (h_port : Block.port ∈ bs) (h_segs : Block.segs ∈ bs) (h_cap : Block.cap ∈ bs) (h_zc : Block.zc ∈ bs) (h_mail : Block.mail ∈ bs) :
    erase bs (zoneOffRequest z s) = erase bs s := by
  simp only [zoneOffRequest]
  repeat' split
  all_goals simp [*]

@[simp] theorem erase_zoneResetRequest {bs : List Block} (z : Nat) (s : State)
    (h_port : Block.port ∈ bs) (h_cap : Block.cap ∈ bs) (h_zc : Block.zc ∈ bs) (h_mail : Block.mail ∈ bs) :
    erase bs (zoneResetRequest z s).2 = erase bs s := by
  simp only [zoneResetRequest]
  repeat' split
  all_goals simp [*]

@[simp] theorem erase_zoneRequest {bs : List Block} (z : Nat) (a : ZoneAction) (s : State)
    (h_port : Block.port ∈ bs) (h_segs : Block.segs ∈ bs) (h_cap : Block.cap ∈ bs) (h_zc : Block.zc ∈ bs) (h_mail : Block.mail ∈ bs) :
    erase bs (zoneRequest z a s).2 = erase bs s := by
  simp only [zoneRequest]
  repeat' split
  all_goals simp [*]

@[simp] theorem erase_seqQueueRequest {bs : List Block} (z : Nat) (s : State)
    (h_port : Block.port ∈ bs) (h_segs : Block.segs ∈ bs) (h_cap : Block.cap ∈ bs) (h_zc : Block.zc ∈ bs) (h_mail : Block.mail ∈ bs) :
    erase bs (seqQueueRequest z s).2 = erase bs s := by
  simp only [seqQueueRequest]
  repeat' split
  all_goals simp [*]

@[simp] theorem erase_isolateZone {bs : List Block} (z : Nat) (s : State)
    (h_port : Block.port ∈ bs) (h_segs : Block.segs ∈ bs) (h_cap : Block.cap ∈ bs) (h_zc : Block.zc ∈ bs) (h_mail : Block.mail ∈ bs) :
    erase bs (isolateZone s z) = erase bs s := by
  simp only [isolateZone]
  repeat' split
  all_goals simp [*]

@[simp] theorem erase_releaseZone {bs : List Block} (z : Nat) (s : State)
    (h_port : Block.port ∈ bs) (h_cap : Block.cap ∈ bs) (h_zc : Block.zc ∈ bs) (h_mail : Block.mail ∈ bs) :
    erase bs (releaseZone s z) = erase bs s := by
  simp only [releaseZone]
  repeat' split
  all_goals simp [*]

@[simp] theorem erase_takeGroupNews {bs : List Block} (x : GroupNews) (s : State)
    (h_port : Block.port ∈ bs) (h_segs : Block.segs ∈ bs) (h_cap : Block.cap ∈ bs) (h_zc : Block.zc ∈ bs) (h_mail : Block.mail ∈ bs) :
    erase bs (takeGroupNews s x) = erase bs s := by
  simp only [takeGroupNews]
  repeat' split
  all_goals simp [*]

@[simp] theorem erase_epoZone {bs : List Block} (z : Nat) (s : State)
    (h_port : Block.port ∈ bs) (h_segs : Block.segs ∈ bs) (h_cap : Block.cap ∈ bs) (h_zc : Block.zc ∈ bs) (h_mail : Block.mail ∈ bs) :
    erase bs (epoZone s z) = erase bs s := by
  simp only [epoZone]
  repeat' split
  all_goals simp [*]

@[simp] theorem erase_setEpoLatch {bs : List Block} (s : State)
    (h_port : Block.port ∈ bs) (h_segs : Block.segs ∈ bs) (h_cap : Block.cap ∈ bs) (h_zc : Block.zc ∈ bs) (h_mail : Block.mail ∈ bs) :
    erase bs (setEpoLatch s) = erase bs s := by
  simp only [setEpoLatch]
  all_goals simp [*]

@[simp] theorem erase_takeEpoLevel {bs : List Block} (b : Bool) (s : State)
    (h_port : Block.port ∈ bs) (h_segs : Block.segs ∈ bs) (h_cap : Block.cap ∈ bs) (h_zc : Block.zc ∈ bs) (h_mail : Block.mail ∈ bs) :
    erase bs (takeEpoLevel b s) = erase bs s := by
  simp only [takeEpoLevel]
  repeat' split
  all_goals simp [*]

@[simp] theorem erase_epoClearRequest {bs : List Block} (s : State)
    (h_port : Block.port ∈ bs) (h_segs : Block.segs ∈ bs) (h_cap : Block.cap ∈ bs) (h_zc : Block.zc ∈ bs) (h_mail : Block.mail ∈ bs) :
    erase bs (epoClearRequest s).2 = erase bs s := by
  simp only [epoClearRequest]
  repeat' split
  all_goals simp [*]

@[simp] theorem erase_takeCapNews {bs : List Block} (x : CapNews) (s : State)
    (h_port : Block.port ∈ bs) (h_segs : Block.segs ∈ bs) (h_cap : Block.cap ∈ bs) (h_zc : Block.zc ∈ bs) (h_mail : Block.mail ∈ bs) :
    erase bs (takeCapNews x s) = erase bs s := by
  simp only [takeCapNews]
  all_goals simp [*]

@[simp] theorem erase_takeEnergyNews {bs : List Block} (x : Nat) (s : State)
    (h_port : Block.port ∈ bs) (h_segs : Block.segs ∈ bs) (h_cap : Block.cap ∈ bs) (h_zc : Block.zc ∈ bs) (h_mail : Block.mail ∈ bs) :
    erase bs (takeEnergyNews x s) = erase bs s := by
  simp only [takeEnergyNews]
  all_goals simp [*]

@[simp] theorem erase_takeRideNews {bs : List Block} (x : RideNews) (s : State)
    (h_port : Block.port ∈ bs) (h_segs : Block.segs ∈ bs) (h_cap : Block.cap ∈ bs) (h_zc : Block.zc ∈ bs) (h_mail : Block.mail ∈ bs) :
    erase bs (takeRideNews s x) = erase bs s := by
  simp only [takeRideNews]
  repeat' split
  all_goals simp [*]

@[simp] theorem erase_inrushShedDone {bs : List Block} (zones : List Nat) (s : State)
    (h_ride : Block.ride ∈ bs) :
    erase bs (inrushShedDone zones s) = erase bs s := by
  simp only [inrushShedDone]
  all_goals simp [*]

@[simp] theorem erase_takeBridging {bs : List Block} (s : State)
    (h_port : Block.port ∈ bs) (h_segs : Block.segs ∈ bs) (h_cap : Block.cap ∈ bs) (h_zc : Block.zc ∈ bs) (h_mail : Block.mail ∈ bs)
    (h_ride : Block.ride ∈ bs) :
    erase bs (takeBridging s) = erase bs s := by
  simp only [takeBridging]
  all_goals simp [*]

@[simp] theorem erase_takeLinkNews {bs : List Block} (x : LinkNews) (s : State)
    (h_port : Block.port ∈ bs) (h_segs : Block.segs ∈ bs) (h_cap : Block.cap ∈ bs) (h_zc : Block.zc ∈ bs) (h_mail : Block.mail ∈ bs) :
    erase bs (takeLinkNews x s) = erase bs s := by
  simp only [takeLinkNews]
  repeat' split
  all_goals simp [*]

/-! ## The shed order -/

/-- Whether a zone is in a state, as a decided equation. -/
theorem zoneIs_eq_decide (s : State) (x : ZoneState) (z : Nat) :
    zoneIs s x z = decide ((zoneAt s z).state = x) := by
  unfold zoneIs
  cases x <;> cases (zoneAt s z).state <;> rfl

/-- R74: the shed order the blocks read is the one written out. -/
theorem shedSequence_eq_shedOrder (s : State) : shedSequence s = shedOrder s := by
  have h_inrush : zoneIs s .inrush = fun z => decide ((zoneAt s z).state = .inrush) :=
    funext (zoneIs_eq_decide s .inrush)
  have h_tier (a b : Nat) : (a == b) = decide (a = b) := rfl
  simp [shedSequence, shedOrder, inrushZones, onOfTier, allZonesDown, allZones, h_inrush,
    zoneIs_eq_decide, h_tier]

end Sys2Proof.Machine
end

