-- ==== Sys2Proof/Laws/FrameUnits.lean ====
section
/-! SUPPORT. Frames of the Sequencer, the Leak Monitor, the Ride-Through Unit and the Frame
Inspector. -/

namespace Sys2Proof.Machine

/-! ## The Sequencer -/

@[simp] theorem erase_abandonStep {bs : List Block} (s : State)
    (h_seq : Block.seq ∈ bs) :
    erase bs (abandonStep s) = erase bs s := by
  simp only [abandonStep]
  all_goals simp [*]

@[simp] theorem erase_failStep {bs : List Block} (x : FailReason) (s : State)
    (h_port : Block.port ∈ bs) (h_seq : Block.seq ∈ bs) :
    erase bs (failStep x s) = erase bs s := by
  simp only [failStep]
  all_goals simp [*]

@[simp] theorem erase_skipStep {bs : List Block} (x : SkipCause) (s : State)
    (h_port : Block.port ∈ bs) (h_seq : Block.seq ∈ bs) :
    erase bs (skipStep x s) = erase bs s := by
  simp only [skipStep]
  all_goals simp [*]

@[simp] theorem erase_startWait {bs : List Block} (n : Nat) (s : State)
    (h_seq : Block.seq ∈ bs) :
    erase bs (startWait n s) = erase bs s := by
  simp only [startWait]
  repeat' split
  all_goals simp [*]

@[simp] theorem erase_beginStep {bs : List Block} (s : State)
    (h_port : Block.port ∈ bs) (h_seq : Block.seq ∈ bs) (h_mail : Block.mail ∈ bs) :
    erase bs (beginStep s).1 = erase bs s := by
  simp only [beginStep]
  repeat' split
  all_goals simp [*]

@[simp] theorem erase_goOn {bs : List Block} (s : State)
    (h_port : Block.port ∈ bs) (h_seq : Block.seq ∈ bs) :
    erase bs (goOn s).1 = erase bs s := by
  simp only [goOn]
  repeat' split
  all_goals simp [*]

@[simp] theorem erase_runSteps {bs : List Block} (fuel : Nat) (s : State)
    (h_port : Block.port ∈ bs) (h_seq : Block.seq ∈ bs) (h_mail : Block.mail ∈ bs) :
    erase bs (runSteps fuel s) = erase bs s := by
  induction fuel generalizing s with
  | zero => rfl
  | succ fuel ih =>
    have hb := erase_beginStep s h_port h_seq h_mail
    have hg (t : State) := erase_goOn t h_port h_seq
    simp only [runSteps]
    split
    · rename_i t h; rw [h] at hb; exact hb
    · rename_i t h
      rw [h] at hb
      have ht := hg t
      split
      · rename_i u hu; rw [hu] at ht; exact ht.trans hb
      · rename_i u hu; rw [hu] at ht; exact (ih u).trans (ht.trans hb)

@[simp] theorem erase_startStep {bs : List Block} (s : State)
    (h_port : Block.port ∈ bs) (h_seq : Block.seq ∈ bs) (h_mail : Block.mail ∈ bs) :
    erase bs (startStep s) = erase bs s := by
  simp only [startStep]
  all_goals simp [*]

@[simp] theorem erase_endStep {bs : List Block} (s : State)
    (h_port : Block.port ∈ bs) (h_seq : Block.seq ∈ bs) (h_mail : Block.mail ∈ bs) :
    erase bs (endStep s) = erase bs s := by
  have hg := erase_goOn s h_port h_seq
  simp only [endStep]
  split <;> rename_i t h <;> rw [h] at hg <;> simp [*]

@[simp] theorem erase_acceptProgram {bs : List Block} (d : Descriptor) (s : State)
    (h_port : Block.port ∈ bs) (h_seq : Block.seq ∈ bs) (h_mail : Block.mail ∈ bs) :
    erase bs (acceptProgram d s) = erase bs s := by
  simp only [acceptProgram]
  repeat' split
  all_goals simp [*]

@[simp] theorem erase_replaceProgram {bs : List Block} (d : Descriptor) (s : State)
    (h_port : Block.port ∈ bs) (h_seq : Block.seq ∈ bs) (h_mail : Block.mail ∈ bs) :
    erase bs (replaceProgram d s) = erase bs s := by
  simp only [replaceProgram]
  repeat' split
  all_goals simp [*]

@[simp] theorem erase_cancelAutostart {bs : List Block} (s : State)
    (h_seq : Block.seq ∈ bs) :
    erase bs (cancelAutostart s) = erase bs s := by
  simp only [cancelAutostart]
  all_goals simp [*]

@[simp] theorem erase_seqRunRequest {bs : List Block} (a b : Nat) (s : State)
    (h_port : Block.port ∈ bs) (h_seq : Block.seq ∈ bs) (h_mail : Block.mail ∈ bs) :
    erase bs (seqRunRequest a b s).2 = erase bs s := by
  simp only [seqRunRequest]
  repeat' split
  all_goals simp [*]

@[simp] theorem erase_seqStopRequest {bs : List Block} (s : State)
    (h_seq : Block.seq ∈ bs) :
    erase bs (seqStopRequest s) = erase bs s := by
  simp only [seqStopRequest]
  repeat' split
  all_goals simp [*]

@[simp] theorem erase_stepTimedOut {bs : List Block} (s : State)
    (h_port : Block.port ∈ bs) (h_seq : Block.seq ∈ bs) (h_mail : Block.mail ∈ bs) :
    erase bs (stepTimedOut s) = erase bs s := by
  simp only [stepTimedOut]
  repeat' split
  all_goals simp [*]

@[simp] theorem erase_takeAnswer {bs : List Block} (a : SeqAnswer) (s : State)
    (h_port : Block.port ∈ bs) (h_seq : Block.seq ∈ bs) (h_mail : Block.mail ∈ bs) :
    erase bs (takeAnswer a s) = erase bs s := by
  simp only [takeAnswer]
  repeat' split
  all_goals simp [*]

@[simp] theorem erase_takeZoneNews {bs : List Block} (a : ZoneNews) (s : State)
    (h_port : Block.port ∈ bs) (h_seq : Block.seq ∈ bs) (h_mail : Block.mail ∈ bs) :
    erase bs (takeZoneNews a s) = erase bs s := by
  simp only [takeZoneNews]
  repeat' split
  all_goals simp [*]

@[simp] theorem erase_seqTakeCapNews {bs : List Block} (a : CapNews) (s : State)
    (h_port : Block.port ∈ bs) (h_seq : Block.seq ∈ bs) (h_mail : Block.mail ∈ bs) :
    erase bs (seqTakeCapNews a s) = erase bs s := by
  simp only [seqTakeCapNews]
  repeat' split
  all_goals simp [*]

@[simp] theorem erase_seqTakeEnergy {bs : List Block} (a : Nat) (s : State)
    (h_port : Block.port ∈ bs) (h_seq : Block.seq ∈ bs) (h_mail : Block.mail ∈ bs) :
    erase bs (seqTakeEnergy a s) = erase bs s := by
  simp only [seqTakeEnergy]
  repeat' split
  all_goals simp [*]

@[simp] theorem erase_seqTakeRide {bs : List Block} (a : Bool) (s : State)
    (h_port : Block.port ∈ bs) (h_seq : Block.seq ∈ bs) (h_mail : Block.mail ∈ bs) :
    erase bs (seqTakeRide a s) = erase bs s := by
  simp only [seqTakeRide]
  repeat' split
  all_goals simp [*]

@[simp] theorem erase_seqTakeEpo {bs : List Block} (s : State)
    (h_port : Block.port ∈ bs) (h_seq : Block.seq ∈ bs) :
    erase bs (seqTakeEpo s) = erase bs s := by
  simp only [seqTakeEpo]
  repeat' split
  all_goals simp [*]

@[simp] theorem erase_tryAutostart {bs : List Block} (s : State)
    (h_port : Block.port ∈ bs) (h_seq : Block.seq ∈ bs) (h_mail : Block.mail ∈ bs) :
    erase bs (tryAutostart s) = erase bs s := by
  simp only [tryAutostart]
  repeat' split
  all_goals simp [*]

/-! ## The Leak Monitor -/

@[simp] theorem erase_settleChannel {bs : List Block} (c : Nat) (s : State)
    (h_leak : Block.leak ∈ bs) :
    erase bs (settleChannel s c) = erase bs s := by
  simp only [settleChannel]
  all_goals simp [*]

@[simp] theorem erase_settleRaising {bs : List Block} (c : Nat) (s : State)
    (h_port : Block.port ∈ bs) (h_leak : Block.leak ∈ bs) :
    erase bs (settleRaising s c) = erase bs s := by
  simp only [settleRaising]
  repeat' split
  all_goals simp [*]

@[simp] theorem erase_enterFault {bs : List Block} (c : Nat) (x : FaultCause) (s : State)
    (h_port : Block.port ∈ bs) (h_leak : Block.leak ∈ bs) :
    erase bs (enterFault c x s) = erase bs s := by
  simp only [enterFault]
  all_goals simp [*]

@[simp] theorem erase_faultChannel {bs : List Block} (c : Nat) (x : FaultCause) (s : State)
    (h_port : Block.port ∈ bs) (h_leak : Block.leak ∈ bs) :
    erase bs (faultChannel x s c) = erase bs s := by
  simp only [faultChannel]
  repeat' split
  all_goals simp [*]

@[simp] theorem erase_glitch {bs : List Block} (c : Nat) (s : State)
    (h_port : Block.port ∈ bs) (h_leak : Block.leak ∈ bs) :
    erase bs (glitch c s) = erase bs s := by
  simp only [glitch]
  repeat' split
  all_goals simp [*]

@[simp] theorem erase_indicateChannel {bs : List Block} (x : Nat × Indication) (s : State)
    (h_port : Block.port ∈ bs) (h_leak : Block.leak ∈ bs) :
    erase bs (indicateChannel s x) = erase bs s := by
  simp only [indicateChannel]
  repeat' split
  all_goals simp [*]

@[simp] theorem erase_takePattern {bs : List Block} (p : Beacon) (s : State)
    (h_leak : Block.leak ∈ bs) :
    erase bs (takePattern p s) = erase bs s := by
  simp only [takePattern]
  repeat' split
  all_goals simp [*]

@[simp] theorem erase_chooseBeacon {bs : List Block} (s : State)
    (h_leak : Block.leak ∈ bs) :
    erase bs (chooseBeacon s) = erase bs s := by
  simp only [chooseBeacon]
  repeat' split
  all_goals simp [*]

@[simp] theorem erase_changeGroup {bs : List Block} (g : Nat) (x : GroupState) (c : GroupCause) (s : State)
    (h_port : Block.port ∈ bs) (h_leak : Block.leak ∈ bs) (h_mail : Block.mail ∈ bs) :
    erase bs (changeGroup g x c s) = erase bs s := by
  simp only [changeGroup]
  all_goals simp [*]

@[simp] theorem erase_evaluateFrom {bs : List Block} (x : GroupState) (c : GroupCause) (g : Nat) (s : State)
    (h_port : Block.port ∈ bs) (h_leak : Block.leak ∈ bs) (h_mail : Block.mail ∈ bs) :
    erase bs (evaluateFrom x c s g) = erase bs s := by
  simp only [evaluateFrom]
  repeat' split
  all_goals simp [*]

@[simp] theorem erase_evaluateGroup {bs : List Block} (c : GroupCause) (g : Nat) (s : State)
    (h_port : Block.port ∈ bs) (h_leak : Block.leak ∈ bs) (h_mail : Block.mail ∈ bs) :
    erase bs (evaluateGroup c s g) = erase bs s := by
  simp only [evaluateGroup]
  all_goals simp [*]

@[simp] theorem erase_evaluateGroups {bs : List Block} (c : GroupCause) (l : List Nat) (s : State)
    (h_port : Block.port ∈ bs) (h_leak : Block.leak ∈ bs) (h_mail : Block.mail ∈ bs) :
    erase bs (evaluateGroups c l s) = erase bs s := by
  simp only [evaluateGroups]
  all_goals simp [*]

@[simp] theorem erase_evaluateChanged {bs : List Block} (before : State) (c : GroupCause) (s : State)
    (h_port : Block.port ∈ bs) (h_leak : Block.leak ∈ bs) (h_mail : Block.mail ∈ bs) :
    erase bs (evaluateChanged before c s) = erase bs s := by
  simp only [evaluateChanged]
  all_goals simp [*]

@[simp] theorem erase_takeIndications {bs : List Block} (l : List (Nat × Indication)) (s : State)
    (h_port : Block.port ∈ bs) (h_leak : Block.leak ∈ bs) (h_mail : Block.mail ∈ bs) :
    erase bs (takeIndications l s) = erase bs s := by
  simp only [takeIndications]
  all_goals simp [*]

@[simp] theorem erase_sourceLost {bs : List Block} (e : Nat) (s : State)
    (h_port : Block.port ∈ bs) (h_leak : Block.leak ∈ bs) (h_mail : Block.mail ∈ bs) :
    erase bs (sourceLost e s) = erase bs s := by
  simp only [sourceLost]
  all_goals simp [*]

@[simp] theorem erase_takeLeakLevel {bs : List Block} (c : Nat) (b : Bool) (s : State)
    (h_port : Block.port ∈ bs) (h_leak : Block.leak ∈ bs) (h_mail : Block.mail ∈ bs) :
    erase bs (takeLeakLevel c b s) = erase bs s := by
  simp only [takeLeakLevel]
  repeat' split
  all_goals simp [*]

@[simp] theorem erase_takeLeakEnable {bs : List Block} (c : Nat) (b : Bool) (s : State)
    (h_port : Block.port ∈ bs) (h_leak : Block.leak ∈ bs) (h_mail : Block.mail ∈ bs) :
    erase bs (takeLeakEnable c b s) = erase bs s := by
  simp only [takeLeakEnable]
  repeat' split
  all_goals simp [*]

@[simp] theorem erase_leakTakeBridging {bs : List Block} (b : Bool) (s : State)
    (h_leak : Block.leak ∈ bs) :
    erase bs (leakTakeBridging b s) = erase bs s := by
  simp only [leakTakeBridging]
  all_goals simp [*]

@[simp] theorem erase_channelConfirmed {bs : List Block} (c : Nat) (s : State)
    (h_port : Block.port ∈ bs) (h_leak : Block.leak ∈ bs) (h_mail : Block.mail ∈ bs) :
    erase bs (channelConfirmed c s) = erase bs s := by
  simp only [channelConfirmed]
  all_goals simp [*]

@[simp] theorem erase_chatterExpired {bs : List Block} (s : State)
    (h_leak : Block.leak ∈ bs) :
    erase bs (chatterExpired s) = erase bs s := by
  simp only [chatterExpired]
  all_goals simp [*]

@[simp] theorem erase_beaconExpired {bs : List Block} (s : State)
    (h_leak : Block.leak ∈ bs) :
    erase bs (beaconExpired s) = erase bs s := by
  simp only [beaconExpired]
  all_goals simp [*]

@[simp] theorem erase_settleFaults {bs : List Block} (g : Nat) (s : State)
    (h_leak : Block.leak ∈ bs) :
    erase bs (settleFaults g s) = erase bs s := by
  simp only [settleFaults]
  all_goals simp [*]

@[simp] theorem erase_leakClear {bs : List Block} (g : Nat) (s : State)
    (h_port : Block.port ∈ bs) (h_leak : Block.leak ∈ bs) (h_mail : Block.mail ∈ bs) :
    erase bs (leakClear g s).2 = erase bs s := by
  simp only [leakClear]
  repeat' split
  all_goals simp [*]

@[simp] theorem erase_flushGroupNews {bs : List Block} (s : State)
    (h_port : Block.port ∈ bs) (h_segs : Block.segs ∈ bs) (h_cap : Block.cap ∈ bs) (h_zc : Block.zc ∈ bs) (h_mail : Block.mail ∈ bs) :
    erase bs (flushGroupNews s) = erase bs s := by
  simp only [flushGroupNews]
  all_goals simp [*]

@[simp] theorem erase_leakClearRequest {bs : List Block} (g : Nat) (s : State)
    (h_port : Block.port ∈ bs) (h_segs : Block.segs ∈ bs) (h_cap : Block.cap ∈ bs)
    (h_zc : Block.zc ∈ bs) (h_leak : Block.leak ∈ bs) (h_mail : Block.mail ∈ bs) :
    erase bs (leakClearRequest g s).2 = erase bs s := by
  have hl := erase_leakClear g s h_port h_leak h_mail
  simp only [leakClearRequest]
  split <;> rename_i h <;> rw [h] at hl <;> simp [*]

@[simp] theorem erase_writeChannel {bs : List Block} (c : Nat) (x : ChannelCfg) (s : State)
    (h_tables : Block.tables ∈ bs) (h_port : Block.port ∈ bs) (h_leak : Block.leak ∈ bs) (h_mail : Block.mail ∈ bs) :
    erase bs (writeChannel c x s).1 = erase bs s := by
  simp only [writeChannel]
  repeat' split
  all_goals simp [*]

@[simp] theorem erase_writeLeakMap {bs : List Block} (g : Nat) (x : LeakMapCfg) (s : State)
    (h_tables : Block.tables ∈ bs) (h_port : Block.port ∈ bs) (h_leak : Block.leak ∈ bs) (h_mail : Block.mail ∈ bs) :
    erase bs (writeLeakMap g x s).1 = erase bs s := by
  simp only [writeLeakMap]
  repeat' split
  all_goals simp [*]

/-! ## The Ride-Through Unit -/

@[simp] theorem erase_recomputeEnergy {bs : List Block} (s : State)
    (h_ride : Block.ride ∈ bs) (h_mail : Block.mail ∈ bs) :
    erase bs (recomputeEnergy s) = erase bs s := by
  simp only [recomputeEnergy]
  repeat' split
  all_goals simp [*]

@[simp] theorem erase_raiseRideChange {bs : List Block} (x : RideState) (c : RideCause) (s : State)
    (h_port : Block.port ∈ bs) :
    erase bs (raiseRideChange x c s) = erase bs s := by
  simp only [raiseRideChange]
  all_goals simp [*]

@[simp] theorem erase_setBridging {bs : List Block} (b : Bool) (s : State)
    (h_port : Block.port ∈ bs) (h_ride : Block.ride ∈ bs) (h_leak : Block.leak ∈ bs) :
    erase bs (setBridging b s) = erase bs s := by
  simp only [setBridging]
  all_goals simp [*]

@[simp] theorem erase_tellZoneRide {bs : List Block} (x : RideNews) (s : State)
    (h_mail : Block.mail ∈ bs) :
    erase bs (tellZoneRide x s) = erase bs s := by
  simp only [tellZoneRide]
  all_goals simp [*]

@[simp] theorem erase_tellNormal {bs : List Block} (b : Bool) (s : State)
    (h_mail : Block.mail ∈ bs) :
    erase bs (tellNormal b s) = erase bs s := by
  simp only [tellNormal]
  all_goals simp [*]

@[simp] theorem erase_raiseShort {bs : List Block} (p : PlanRecord) (s : State)
    (h_port : Block.port ∈ bs) (h_ride : Block.ride ∈ bs) :
    erase bs (raiseShort p s) = erase bs s := by
  simp only [raiseShort]
  repeat' split
  all_goals simp [*]

@[simp] theorem erase_handOverPlan {bs : List Block} (p : PlanRecord) (s : State)
    (h_port : Block.port ∈ bs) (h_ride : Block.ride ∈ bs) (h_mail : Block.mail ∈ bs) :
    erase bs (handOverPlan p s) = erase bs s := by
  simp only [handOverPlan]
  repeat' split
  all_goals simp [*]

@[simp] theorem erase_evaluatePlan {bs : List Block} (x : Occasion) (s : State)
    (h_port : Block.port ∈ bs) (h_ride : Block.ride ∈ bs) (h_mail : Block.mail ∈ bs) :
    erase bs (evaluatePlan x s) = erase bs s := by
  simp only [evaluatePlan]
  all_goals simp [*]

@[simp] theorem erase_planShedDone {bs : List Block} (d : ShedDone) (s : State)
    (h_ride : Block.ride ∈ bs) :
    erase bs (planShedDone d s) = erase bs s := by
  simp only [planShedDone]
  all_goals simp [*]

@[simp] theorem erase_countEpisode {bs : List Block} (s : State)
    (h_port : Block.port ∈ bs) (h_ride : Block.ride ∈ bs) (h_mail : Block.mail ∈ bs) :
    erase bs (countEpisode s) = erase bs s := by
  simp only [countEpisode]
  repeat' split
  all_goals simp [*]

@[simp] theorem erase_enterBridging {bs : List Block} (c : RideCause) (s : State)
    (h_port : Block.port ∈ bs) (h_ride : Block.ride ∈ bs) (h_leak : Block.leak ∈ bs) (h_mail : Block.mail ∈ bs) :
    erase bs (enterBridging c s) = erase bs s := by
  simp only [enterBridging]
  all_goals simp [*]

@[simp] theorem erase_returnToNormal {bs : List Block} (c : RideCause) (s : State)
    (h_port : Block.port ∈ bs) (h_ride : Block.ride ∈ bs) (h_mail : Block.mail ∈ bs) :
    erase bs (returnToNormal c s) = erase bs s := by
  simp only [returnToNormal]
  all_goals simp [*]

@[simp] theorem erase_indicationRises {bs : List Block} (s : State)
    (h_port : Block.port ∈ bs) (h_ride : Block.ride ∈ bs) (h_leak : Block.leak ∈ bs) (h_mail : Block.mail ∈ bs) :
    erase bs (indicationRises s) = erase bs s := by
  simp only [indicationRises]
  repeat' split
  all_goals simp [*]

@[simp] theorem erase_leaveBridging {bs : List Block} (s : State)
    (h_port : Block.port ∈ bs) (h_ride : Block.ride ∈ bs) (h_leak : Block.leak ∈ bs) (h_mail : Block.mail ∈ bs) :
    erase bs (leaveBridging s) = erase bs s := by
  simp only [leaveBridging]
  repeat' split
  all_goals simp [*]

@[simp] theorem erase_indicationFalls {bs : List Block} (s : State)
    (h_port : Block.port ∈ bs) (h_ride : Block.ride ∈ bs) (h_leak : Block.leak ∈ bs) (h_mail : Block.mail ∈ bs) :
    erase bs (indicationFalls s) = erase bs s := by
  simp only [indicationFalls]
  repeat' split
  all_goals simp [*]

@[simp] theorem erase_evaluateIndication {bs : List Block} (s : State)
    (h_port : Block.port ∈ bs) (h_ride : Block.ride ∈ bs) (h_leak : Block.leak ∈ bs) (h_mail : Block.mail ∈ bs) :
    erase bs (evaluateIndication s) = erase bs s := by
  simp only [evaluateIndication]
  repeat' split
  all_goals simp [*]

@[simp] theorem erase_takeRectifier {bs : List Block} (e : Nat) (b : Bool) (s : State)
    (h_port : Block.port ∈ bs) (h_ride : Block.ride ∈ bs) (h_leak : Block.leak ∈ bs) (h_mail : Block.mail ∈ bs) :
    erase bs (takeRectifier e b s) = erase bs s := by
  simp only [takeRectifier]
  all_goals simp [*]

@[simp] theorem erase_takeBattery {bs : List Block} (e : Nat) (c : BatteryCopy) (s : State)
    (h_port : Block.port ∈ bs) (h_ride : Block.ride ∈ bs) (h_mail : Block.mail ∈ bs) :
    erase bs (takeBattery e c s) = erase bs s := by
  simp only [takeBattery]
  repeat' split
  all_goals simp [*]

@[simp] theorem erase_confirmExpired {bs : List Block} (s : State)
    (h_port : Block.port ∈ bs) (h_ride : Block.ride ∈ bs) (h_leak : Block.leak ∈ bs) (h_mail : Block.mail ∈ bs) :
    erase bs (confirmExpired s) = erase bs s := by
  simp only [confirmExpired]
  repeat' split
  all_goals simp [*]

@[simp] theorem erase_settleExpired {bs : List Block} (s : State)
    (h_port : Block.port ∈ bs) (h_ride : Block.ride ∈ bs) (h_mail : Block.mail ∈ bs) :
    erase bs (settleExpired s) = erase bs s := by
  simp only [settleExpired]
  repeat' split
  all_goals simp [*]

@[simp] theorem erase_recomputeExpired {bs : List Block} (s : State)
    (h_port : Block.port ∈ bs) (h_ride : Block.ride ∈ bs) (h_mail : Block.mail ∈ bs) :
    erase bs (recomputeExpired s) = erase bs s := by
  simp only [recomputeExpired]
  repeat' split
  all_goals simp [*]

@[simp] theorem erase_windowExpired {bs : List Block} (s : State)
    (h_ride : Block.ride ∈ bs) :
    erase bs (windowExpired s) = erase bs s := by
  simp only [windowExpired]
  all_goals simp [*]

@[simp] theorem erase_flushConserveNews {bs : List Block} (s : State)
    (h_port : Block.port ∈ bs) (h_segs : Block.segs ∈ bs) (h_cap : Block.cap ∈ bs) (h_zc : Block.zc ∈ bs) (h_mail : Block.mail ∈ bs) :
    erase bs (flushConserveNews s) = erase bs s := by
  simp only [flushConserveNews]
  all_goals simp [*]

@[simp] theorem erase_rideReleaseRequest {bs : List Block} (s : State)
    (h_port : Block.port ∈ bs) (h_segs : Block.segs ∈ bs) (h_cap : Block.cap ∈ bs) (h_zc : Block.zc ∈ bs) (h_ride : Block.ride ∈ bs) (h_mail : Block.mail ∈ bs) :
    erase bs (rideReleaseRequest s) = erase bs s := by
  simp only [rideReleaseRequest]
  repeat' split
  all_goals simp [*]

/-! ## The Frame Inspector -/

@[simp] theorem erase_tellConsumers {bs : List Block} (k : Nat) (c : NodeKind) (x : Option NodeState) (s : State)
    (h_port : Block.port ∈ bs) (h_segs : Block.segs ∈ bs) (h_cap : Block.cap ∈ bs) (h_zc : Block.zc ∈ bs) (h_ride : Block.ride ∈ bs) (h_leak : Block.leak ∈ bs) (h_mail : Block.mail ∈ bs) :
    erase bs (tellConsumers k c x s) = erase bs s := by
  simp only [tellConsumers]
  repeat' split
  all_goals simp [*]

@[simp] theorem erase_raiseNodeChange {bs : List Block} (k : Nat) (x y : Option NodeState) (c : NodeCause) (s : State)
    (h_port : Block.port ∈ bs) :
    erase bs (raiseNodeChange k x y c s) = erase bs s := by
  simp only [raiseNodeChange]
  all_goals simp [*]

@[simp] theorem erase_changeNode {bs : List Block} (k : Nat) (x : NodeState) (c : NodeCause) (s : State)
    (h_port : Block.port ∈ bs) (h_segs : Block.segs ∈ bs) (h_nodes : Block.nodes ∈ bs) (h_cap : Block.cap ∈ bs) (h_zc : Block.zc ∈ bs) (h_ride : Block.ride ∈ bs) (h_leak : Block.leak ∈ bs) (h_mail : Block.mail ∈ bs) :
    erase bs (changeNode k x c s) = erase bs s := by
  simp only [changeNode]
  all_goals simp [*]

@[simp] theorem erase_storeItem {bs : List Block} (k : Nat) (x : Item) (s : State)
    (h_nodes : Block.nodes ∈ bs) :
    erase bs (storeItem k s x) = erase bs s := by
  simp only [storeItem]
  all_goals simp [*]

@[simp] theorem erase_checkItem {bs : List Block} (k : Nat) (x : Item) (s : State)
    (h_port : Block.port ∈ bs) (h_nodes : Block.nodes ∈ bs) :
    erase bs (checkItem k s x) = erase bs s := by
  simp only [checkItem]
  repeat' split
  all_goals simp [*]

@[simp] theorem erase_markReported {bs : List Block} (k : Nat) (x : Item) (s : State)
    (h_nodes : Block.nodes ∈ bs) :
    erase bs (markReported k s x) = erase bs s := by
  simp only [markReported]
  all_goals simp [*]

@[simp] theorem erase_makeReport {bs : List Block} (k : Nat) (l : List Item) (s : State)
    (h_port : Block.port ∈ bs) (h_nodes : Block.nodes ∈ bs) :
    erase bs (makeReport k l s) = erase bs s := by
  simp only [makeReport]
  split
  · rfl
  · split <;> rename_i t h
    all_goals
      have ht : t = (queueReport _ s).1 := (congrArg Prod.fst h).symm
      simp [ht, h_port, h_nodes]

@[simp] theorem erase_replyNews {bs : List Block} (k : Nat) (r : NodeRun) (l : List Item) (s : State)
    (h_port : Block.port ∈ bs) (h_segs : Block.segs ∈ bs) (h_cap : Block.cap ∈ bs) (h_zc : Block.zc ∈ bs) (h_ride : Block.ride ∈ bs) (h_leak : Block.leak ∈ bs) (h_mail : Block.mail ∈ bs) :
    erase bs (replyNews k r l s) = erase bs s := by
  simp only [replyNews]
  repeat' split
  all_goals simp [*]

@[simp] theorem erase_settleNode {bs : List Block} (k : Nat) (b : Bool) (x : NodeState) (s : State)
    (h_nodes : Block.nodes ∈ bs) :
    erase bs (settleNode k b x s) = erase bs s := by
  simp only [settleNode]
  repeat' split
  all_goals simp [*]

@[simp] theorem erase_inspectReply {bs : List Block} (k : Nat) (kind : Byte) (p : List Byte) (poll stale : Bool) (s : State)
    (h_port : Block.port ∈ bs) (h_segs : Block.segs ∈ bs) (h_nodes : Block.nodes ∈ bs) (h_cap : Block.cap ∈ bs) (h_zc : Block.zc ∈ bs) (h_ride : Block.ride ∈ bs) (h_leak : Block.leak ∈ bs) (h_mail : Block.mail ∈ bs) :
    erase bs (inspectReply k kind p poll stale s) = erase bs s := by
  simp only [inspectReply]
  repeat' split
  all_goals simp [*]

@[simp] theorem erase_countMiss {bs : List Block} (k : Nat) (s : State)
    (h_port : Block.port ∈ bs) (h_segs : Block.segs ∈ bs) (h_nodes : Block.nodes ∈ bs) (h_cap : Block.cap ∈ bs) (h_zc : Block.zc ∈ bs) (h_ride : Block.ride ∈ bs) (h_leak : Block.leak ∈ bs) (h_mail : Block.mail ∈ bs) :
    erase bs (countMiss k s) = erase bs s := by
  simp only [countMiss]
  repeat' split
  all_goals simp [*]

@[simp] theorem erase_ageItems {bs : List Block} (i : Nat) (s : State)
    (h_nodes : Block.nodes ∈ bs) :
    erase bs (ageItems i s) = erase bs s := by
  simp only [ageItems]
  all_goals simp [*]

@[simp] theorem erase_loseEntry {bs : List Block} (k : Nat) (s : State)
    (h_port : Block.port ∈ bs) (h_segs : Block.segs ∈ bs) (h_nodes : Block.nodes ∈ bs) (h_cap : Block.cap ∈ bs) (h_zc : Block.zc ∈ bs) (h_ride : Block.ride ∈ bs) (h_leak : Block.leak ∈ bs) (h_mail : Block.mail ∈ bs) :
    erase bs (loseEntry s k) = erase bs s := by
  simp only [loseEntry]
  repeat' split
  all_goals simp [*]

@[simp] theorem erase_loseSegment {bs : List Block} (i : Nat) (s : State)
    (h_port : Block.port ∈ bs) (h_segs : Block.segs ∈ bs) (h_nodes : Block.nodes ∈ bs) (h_cap : Block.cap ∈ bs) (h_zc : Block.zc ∈ bs) (h_ride : Block.ride ∈ bs) (h_leak : Block.leak ∈ bs) (h_mail : Block.mail ∈ bs) :
    erase bs (loseSegment i s) = erase bs s := by
  simp only [loseSegment]
  all_goals simp [*]

@[simp] theorem erase_firstScanTest {bs : List Block} (b : Bool) (i : Nat) (s : State)
    (h_segs : Block.segs ∈ bs) (h_mail : Block.mail ∈ bs) :
    erase bs (firstScanTest b i s) = erase bs s := by
  simp only [firstScanTest]
  repeat' split
  all_goals simp [*]

@[simp] theorem erase_withdrawPoll {bs : List Block} (k : Nat) (s : State)
    (h_segs : Block.segs ∈ bs) :
    erase bs (withdrawPoll k s).1 = erase bs s := by
  simp only [withdrawPoll]
  all_goals simp [*]

@[simp] theorem erase_disableEntry {bs : List Block} (k : Nat) (s : State)
    (h_tables : Block.tables ∈ bs) (h_port : Block.port ∈ bs) (h_segs : Block.segs ∈ bs) (h_nodes : Block.nodes ∈ bs) (h_cap : Block.cap ∈ bs) (h_zc : Block.zc ∈ bs) (h_ride : Block.ride ∈ bs) (h_leak : Block.leak ∈ bs) (h_mail : Block.mail ∈ bs) :
    erase bs (disableEntry k s) = erase bs s := by
  simp only [disableEntry]
  all_goals simp [*]

@[simp] theorem erase_enableEntry {bs : List Block} (k : Nat) (s : State)
    (h_tables : Block.tables ∈ bs) (h_port : Block.port ∈ bs) (h_segs : Block.segs ∈ bs) (h_nodes : Block.nodes ∈ bs) (h_cap : Block.cap ∈ bs) (h_zc : Block.zc ∈ bs) (h_ride : Block.ride ∈ bs) (h_leak : Block.leak ∈ bs) (h_mail : Block.mail ∈ bs) :
    erase bs (enableEntry k s) = erase bs s := by
  simp only [enableEntry]
  all_goals simp [*]

@[simp] theorem erase_nodeRequest {bs : List Block} (k : Nat) (b : Bool) (s : State)
    (h_tables : Block.tables ∈ bs) (h_port : Block.port ∈ bs) (h_segs : Block.segs ∈ bs) (h_nodes : Block.nodes ∈ bs) (h_cap : Block.cap ∈ bs) (h_zc : Block.zc ∈ bs) (h_ride : Block.ride ∈ bs) (h_leak : Block.leak ∈ bs) (h_mail : Block.mail ∈ bs) :
    erase bs (nodeRequest k b s).2 = erase bs s := by
  simp only [nodeRequest]
  repeat' split
  all_goals simp [*]

end Sys2Proof.Machine
end

