-- ==== Sys2Proof/Laws/FrameRequests.lean ====
section
/-! SUPPORT. Frames of the relay, the segments, the Line Conditioner, the tables and the requests. -/

namespace Sys2Proof.Machine

/-! ## The relay -/

@[simp] theorem erase_respond {bs : List Block} (r : Response) (s : State)
    (h_port : Block.port ∈ bs) :
    erase bs (respond r s) = erase bs s := by
  simp only [respond]
  all_goals simp [*]

@[simp] theorem erase_afterAnswer {bs : List Block} (n : Nat) (x : RelaySlot) (b : Bool) (s : State)
    (h_port : Block.port ∈ bs) :
    erase bs (afterAnswer n x b s) = erase bs s := by
  simp only [afterAnswer]
  repeat' split
  all_goals simp [*]

@[simp] theorem erase_decideAnswer {bs : List Block} (n : Nat) (x : RelaySlot) (f : Frame) (b : Bool) (s : State)
    (h_port : Block.port ∈ bs) :
    erase bs (decideAnswer n x f b s) = erase bs s := by
  simp only [decideAnswer]
  repeat' split
  all_goals simp [*]

@[simp] theorem erase_relayEnded {bs : List Block} (n : Nat) (f : RelaySlot → Frame) (s : State)
    (h_port : Block.port ∈ bs) :
    erase bs (relayEnded n f s) = erase bs s := by
  simp only [relayEnded]
  repeat' split
  all_goals simp [*]

@[simp] theorem erase_withdrawRelay {bs : List Block} (n : Nat) (s : State)
    (h_segs : Block.segs ∈ bs) :
    erase bs (withdrawRelay n s).1 = erase bs s := by
  simp only [withdrawRelay]
  all_goals simp [*]

@[simp] theorem erase_relayTimedOut {bs : List Block} (n : Nat) (s : State)
    (h_port : Block.port ∈ bs) (h_segs : Block.segs ∈ bs) (h_cap : Block.cap ∈ bs) (h_zc : Block.zc ∈ bs) (h_mail : Block.mail ∈ bs) :
    erase bs (relayTimedOut n s) = erase bs s := by
  simp only [relayTimedOut]
  repeat' split
  all_goals simp [*]

@[simp] theorem erase_placeAnswer {bs : List Block} (s : State)
    (h_port : Block.port ∈ bs) :
    erase bs (placeAnswer s) = erase bs s := by
  simp only [placeAnswer]
  repeat' split
  all_goals simp [*]

@[simp] theorem erase_acceptRelay {bs : List Block} (k : Nat) (x : RelayKind) (a b : Byte) (p : List Byte) (s : State)
    (h_port : Block.port ∈ bs) (h_segs : Block.segs ∈ bs) (h_cap : Block.cap ∈ bs) (h_zc : Block.zc ∈ bs) (h_mail : Block.mail ∈ bs) :
    erase bs (acceptRelay k x a b p s).2 = erase bs s := by
  simp only [acceptRelay]
  repeat' split
  all_goals simp [*]

@[simp] theorem erase_relayGate {bs : List Block} (f : Frame) (s : State)
    (h_port : Block.port ∈ bs) (h_segs : Block.segs ∈ bs) (h_cap : Block.cap ∈ bs) (h_zc : Block.zc ∈ bs) (h_mail : Block.mail ∈ bs) :
    erase bs (relayGate f s).2 = erase bs s := by
  simp only [relayGate]
  repeat' split
  all_goals simp [*]

@[simp] theorem erase_takeRelay {bs : List Block} (f : Frame) (s : State)
    (h_port : Block.port ∈ bs) (h_segs : Block.segs ∈ bs) (h_cap : Block.cap ∈ bs)
    (h_zc : Block.zc ∈ bs) (h_mail : Block.mail ∈ bs) :
    erase bs (takeRelay f s) = erase bs s := by
  have hg := erase_relayGate f (keepPlace true s) h_port h_segs h_cap h_zc h_mail
  simp only [takeRelay]
  split <;> rename_i h <;> rw [h] at hg <;> simp_all

/-! ## The segments -/

@[simp] theorem erase_modCounters {bs : List Block} (i : Nat) (f : SegCounters → SegCounters) (s : State)
    (h_segs : Block.segs ∈ bs) :
    erase bs (modCounters i f s) = erase bs s := by
  simp only [modCounters]
  all_goals simp [*]

@[simp] theorem erase_pollEnded {bs : List Block} (i : Nat) (c : Current) (s : State)
    (h_segs : Block.segs ∈ bs) (h_mail : Block.mail ∈ bs) :
    erase bs (pollEnded i c s) = erase bs s := by
  simp only [pollEnded]
  repeat' split
  all_goals simp [*]

@[simp] theorem erase_tellGood {bs : List Block} (i : Nat) (c : Current) (f : Frame) (s : State)
    (h_port : Block.port ∈ bs) (h_segs : Block.segs ∈ bs) (h_cap : Block.cap ∈ bs) (h_zc : Block.zc ∈ bs) (h_mail : Block.mail ∈ bs) :
    erase bs (tellGood i c f s) = erase bs s := by
  simp only [tellGood]
  repeat' split
  all_goals simp [*]

@[simp] theorem erase_tellFailed {bs : List Block} (i : Nat) (c : Current) (x : Failure) (s : State)
    (h_port : Block.port ∈ bs) (h_segs : Block.segs ∈ bs) (h_nodes : Block.nodes ∈ bs) (h_cap : Block.cap ∈ bs) (h_zc : Block.zc ∈ bs) (h_ride : Block.ride ∈ bs) (h_leak : Block.leak ∈ bs) (h_mail : Block.mail ∈ bs) :
    erase bs (tellFailed i c x s) = erase bs s := by
  simp only [tellFailed]
  repeat' split
  all_goals simp [*]

@[simp] theorem erase_handFailure {bs : List Block} (i : Nat) (c : Current) (x : Failure) (s : State)
    (h_port : Block.port ∈ bs) (h_segs : Block.segs ∈ bs) (h_nodes : Block.nodes ∈ bs) (h_cap : Block.cap ∈ bs) (h_zc : Block.zc ∈ bs) (h_ride : Block.ride ∈ bs) (h_leak : Block.leak ∈ bs) (h_mail : Block.mail ∈ bs) :
    erase bs (handFailure i c x s) = erase bs s := by
  simp only [handFailure]
  repeat' split
  all_goals simp [*]

@[simp] theorem erase_clearCurrent {bs : List Block} (i : Nat) (s : State)
    (h_segs : Block.segs ∈ bs) :
    erase bs (clearCurrent i s) = erase bs s := by
  simp only [clearCurrent]
  all_goals simp [*]

@[simp] theorem erase_returnToIdle {bs : List Block} (i : Nat) (s : State)
    (h_port : Block.port ∈ bs) (h_segs : Block.segs ∈ bs) (h_cap : Block.cap ∈ bs) (h_zc : Block.zc ∈ bs) (h_mail : Block.mail ∈ bs) :
    erase bs (returnToIdle i s) = erase bs s := by
  simp only [returnToIdle]
  all_goals simp [*]

@[simp] theorem erase_endFailed {bs : List Block} (i : Nat) (c : Current) (x : Failure) (s : State)
    (h_port : Block.port ∈ bs) (h_segs : Block.segs ∈ bs) (h_nodes : Block.nodes ∈ bs) (h_cap : Block.cap ∈ bs) (h_zc : Block.zc ∈ bs) (h_ride : Block.ride ∈ bs) (h_leak : Block.leak ∈ bs) (h_mail : Block.mail ∈ bs) :
    erase bs (endFailed i c x s) = erase bs s := by
  simp only [endFailed]
  repeat' split
  all_goals simp [*]

@[simp] theorem erase_endGood {bs : List Block} (i : Nat) (c : Current) (f : Frame) (s : State)
    (h_port : Block.port ∈ bs) (h_segs : Block.segs ∈ bs) (h_nodes : Block.nodes ∈ bs) (h_cap : Block.cap ∈ bs) (h_zc : Block.zc ∈ bs) (h_ride : Block.ride ∈ bs) (h_leak : Block.leak ∈ bs) (h_mail : Block.mail ∈ bs) :
    erase bs (endGood i c f s) = erase bs s := by
  simp only [endGood]
  all_goals simp [*]

@[simp] theorem erase_setCurrent {bs : List Block} (i : Nat) (c : Current) (s : State)
    (h_segs : Block.segs ∈ bs) :
    erase bs (setCurrent i c s) = erase bs s := by
  simp only [setCurrent]
  all_goals simp [*]

@[simp] theorem erase_sendCompleted {bs : List Block} (i : Nat) (s : State)
    (h_segs : Block.segs ∈ bs) :
    erase bs (sendCompleted i s) = erase bs s := by
  simp only [sendCompleted]
  repeat' split
  all_goals simp [*]

@[simp] theorem erase_readbackDiffers {bs : List Block} (i : Nat) (x : Byte) (s : State)
    (h_port : Block.port ∈ bs) (h_segs : Block.segs ∈ bs) (h_nodes : Block.nodes ∈ bs) (h_cap : Block.cap ∈ bs) (h_zc : Block.zc ∈ bs) (h_ride : Block.ride ∈ bs) (h_leak : Block.leak ∈ bs) (h_mail : Block.mail ∈ bs) :
    erase bs (readbackDiffers i x s) = erase bs s := by
  simp only [readbackDiffers]
  repeat' split
  all_goals simp [*]

@[simp] theorem erase_firstByteHeard {bs : List Block} (i : Nat) (s : State)
    (h_segs : Block.segs ∈ bs) :
    erase bs (firstByteHeard i s) = erase bs s := by
  simp only [firstByteHeard]
  repeat' split
  all_goals simp [*]

@[simp] theorem erase_windowPassed {bs : List Block} (i : Nat) (s : State)
    (h_port : Block.port ∈ bs) (h_segs : Block.segs ∈ bs) (h_nodes : Block.nodes ∈ bs) (h_cap : Block.cap ∈ bs) (h_zc : Block.zc ∈ bs) (h_ride : Block.ride ∈ bs) (h_leak : Block.leak ∈ bs) (h_mail : Block.mail ∈ bs) :
    erase bs (windowPassed i s) = erase bs s := by
  simp only [windowPassed]
  repeat' split
  all_goals simp [*]

@[simp] theorem erase_replyArrived {bs : List Block} (i : Nat) (l : List Byte) (s : State)
    (h_port : Block.port ∈ bs) (h_segs : Block.segs ∈ bs) (h_nodes : Block.nodes ∈ bs) (h_cap : Block.cap ∈ bs) (h_zc : Block.zc ∈ bs) (h_ride : Block.ride ∈ bs) (h_leak : Block.leak ∈ bs) (h_mail : Block.mail ∈ bs) :
    erase bs (replyArrived i l s) = erase bs s := by
  simp only [replyArrived]
  repeat' split
  all_goals simp [*]

@[simp] theorem erase_replyBroken {bs : List Block} (i : Nat) (s : State)
    (h_port : Block.port ∈ bs) (h_segs : Block.segs ∈ bs) (h_nodes : Block.nodes ∈ bs) (h_cap : Block.cap ∈ bs) (h_zc : Block.zc ∈ bs) (h_ride : Block.ride ∈ bs) (h_leak : Block.leak ∈ bs) (h_mail : Block.mail ∈ bs) :
    erase bs (replyBroken i s) = erase bs s := by
  simp only [replyBroken]
  repeat' split
  all_goals simp [*]

theorem erase_offerPoll {bs : List Block} (i : Nat) (x : Scan) (k : Nat)
    (h_segs : Block.segs ∈ bs) : erase bs (offerPoll i x k).state = erase bs x.state := by
  simp only [offerPoll]
  split <;> simp [*]

theorem erase_offerPolls {bs : List Block} (i : Nat) (l : List Nat) (x : Scan)
    (h_segs : Block.segs ∈ bs) :
    erase bs (l.foldl (offerPoll i) x).state = erase bs x.state := by
  induction l generalizing x with
  | nil => rfl
  | cons k rest ih => simp [ih, erase_offerPoll, h_segs]

@[simp] theorem erase_runScan {bs : List Block} (i : Nat) (s : State)
    (h_port : Block.port ∈ bs) (h_segs : Block.segs ∈ bs) :
    erase bs (runScan i s).1 = erase bs s := by
  simp only [runScan]
  split <;> simp [erase_offerPolls, *]

theorem erase_requeueOwed {bs : List Block} (x : State × Bool) (z : Nat)
    (h_port : Block.port ∈ bs) (h_segs : Block.segs ∈ bs) (h_zc : Block.zc ∈ bs) :
    erase bs (requeueOwed x z).1 = erase bs x.1 := by
  simp [requeueOwed, *]

@[simp] theorem erase_runOwed {bs : List Block} (i : Nat) (s : State)
    (h_port : Block.port ∈ bs) (h_segs : Block.segs ∈ bs) (h_zc : Block.zc ∈ bs) :
    erase bs (runOwed i s).1 = erase bs s := by
  have h (l : List Nat) (x : State × Bool) :
      erase bs (l.foldl requeueOwed x).1 = erase bs x.1 := by
    induction l generalizing x with
    | nil => rfl
    | cons z rest ih => simp [erase_requeueOwed, *]
  exact h _ _

@[simp] theorem erase_scanAndOwed {bs : List Block} (i : Nat) (s : State)
    (h_free : Block.free ∈ bs) (h_port : Block.port ∈ bs) (h_segs : Block.segs ∈ bs) (h_zc : Block.zc ∈ bs) :
    erase bs (scanAndOwed i s).1 = erase bs s := by
  simp only [scanAndOwed]
  repeat' split
  all_goals simp [*]

@[simp] theorem erase_pollExpired {bs : List Block} (i : Nat) (s : State)
    (h_free : Block.free ∈ bs) (h_port : Block.port ∈ bs) (h_segs : Block.segs ∈ bs) (h_nodes : Block.nodes ∈ bs) (h_cap : Block.cap ∈ bs) (h_zc : Block.zc ∈ bs) (h_mail : Block.mail ∈ bs) :
    erase bs (pollExpired i s) = erase bs s := by
  simp only [pollExpired]
  all_goals simp [*]

@[simp] theorem erase_tellCancelled {bs : List Block} (e : Exchange) (s : State)
    (h_port : Block.port ∈ bs) (h_segs : Block.segs ∈ bs) (h_cap : Block.cap ∈ bs) (h_zc : Block.zc ∈ bs) (h_mail : Block.mail ∈ bs) :
    erase bs (tellCancelled s e) = erase bs s := by
  simp only [tellCancelled]
  repeat' split
  all_goals simp [*]

@[simp] theorem erase_disableSegment {bs : List Block} (i : Nat) (s : State)
    (h_port : Block.port ∈ bs) (h_segs : Block.segs ∈ bs) (h_nodes : Block.nodes ∈ bs) (h_cap : Block.cap ∈ bs) (h_zc : Block.zc ∈ bs) (h_ride : Block.ride ∈ bs) (h_leak : Block.leak ∈ bs) (h_mail : Block.mail ∈ bs) :
    erase bs (disableSegment i s) = erase bs s := by
  simp only [disableSegment]
  all_goals simp [*]

@[simp] theorem erase_enableSegment {bs : List Block} (i : Nat) (s : State)
    (h_segs : Block.segs ∈ bs) :
    erase bs (enableSegment i s) = erase bs s := by
  simp only [enableSegment]
  all_goals simp [*]

@[simp] theorem erase_segmentEnableWritten {bs : List Block} (i : Nat) (s : State)
    (h_port : Block.port ∈ bs) (h_segs : Block.segs ∈ bs) (h_nodes : Block.nodes ∈ bs) (h_cap : Block.cap ∈ bs) (h_zc : Block.zc ∈ bs) (h_ride : Block.ride ∈ bs) (h_leak : Block.leak ∈ bs) (h_mail : Block.mail ∈ bs) :
    erase bs (segmentEnableWritten i s) = erase bs s := by
  simp only [segmentEnableWritten]
  repeat' split
  all_goals simp [*]

@[simp] theorem erase_removeExchanges {bs : List Block} (i k : Nat) (s : State)
    (h_segs : Block.segs ∈ bs) :
    erase bs (removeExchanges i k s) = erase bs s := by
  simp only [removeExchanges]
  all_goals simp [*]

/-! ## The Line Conditioner -/

@[simp] theorem erase_takeLevelNews {bs : List Block} (x : LevelNews) (s : State)
    (h_port : Block.port ∈ bs) (h_segs : Block.segs ∈ bs) (h_cap : Block.cap ∈ bs) (h_zc : Block.zc ∈ bs) (h_ride : Block.ride ∈ bs) (h_leak : Block.leak ∈ bs) (h_mail : Block.mail ∈ bs) :
    erase bs (takeLevelNews x s) = erase bs s := by
  simp only [takeLevelNews]
  repeat' split
  all_goals simp [*]

@[simp] theorem erase_deliverLevel {bs : List Block} (i : Nat) (b : Bool) (x : Level) (s : State)
    (h_port : Block.port ∈ bs) (h_segs : Block.segs ∈ bs) (h_cap : Block.cap ∈ bs) (h_zc : Block.zc ∈ bs) (h_ride : Block.ride ∈ bs) (h_leak : Block.leak ∈ bs) (h_mail : Block.mail ∈ bs) :
    erase bs (deliverLevel i b x s) = erase bs s := by
  simp only [deliverLevel]
  all_goals simp [*]

@[simp] theorem erase_deliverEnable {bs : List Block} (i : Nat) (b : Bool) (s : State)
    (h_port : Block.port ∈ bs) (h_ride : Block.ride ∈ bs) (h_leak : Block.leak ∈ bs) (h_mail : Block.mail ∈ bs) :
    erase bs (deliverEnable i b s) = erase bs s := by
  simp only [deliverEnable]
  repeat' split
  all_goals simp [*]

@[simp] theorem erase_sampledLevel {bs : List Block} (i : Nat) (d : PinDrive) (s : State)
    (h_free : Block.free ∈ bs) :
    erase bs (sampledLevel i d s).2 = erase bs s := by
  simp only [sampledLevel]
  repeat' split
  all_goals simp [*]

@[simp] theorem erase_acceptLevel {bs : List Block} (i : Nat) (x : Level) (s : State)
    (h_port : Block.port ∈ bs) (h_segs : Block.segs ∈ bs) (h_cap : Block.cap ∈ bs) (h_zc : Block.zc ∈ bs) (h_ride : Block.ride ∈ bs) (h_leak : Block.leak ∈ bs) (h_lines : Block.lines ∈ bs) (h_mail : Block.mail ∈ bs) :
    erase bs (acceptLevel i x s) = erase bs s := by
  simp only [acceptLevel]
  all_goals simp [*]

@[simp] theorem erase_judgeSample {bs : List Block} (i : Nat) (x : Level) (s : State)
    (h_port : Block.port ∈ bs) (h_segs : Block.segs ∈ bs) (h_cap : Block.cap ∈ bs) (h_zc : Block.zc ∈ bs) (h_ride : Block.ride ∈ bs) (h_leak : Block.leak ∈ bs) (h_lines : Block.lines ∈ bs) (h_mail : Block.mail ∈ bs) :
    erase bs (judgeSample i x s) = erase bs s := by
  simp only [judgeSample]
  repeat' split
  all_goals simp [*]

@[simp] theorem erase_sampleLine {bs : List Block} (i : Nat) (d : PinDrive) (s : State)
    (h_free : Block.free ∈ bs) (h_port : Block.port ∈ bs) (h_segs : Block.segs ∈ bs) (h_cap : Block.cap ∈ bs) (h_zc : Block.zc ∈ bs) (h_ride : Block.ride ∈ bs) (h_leak : Block.leak ∈ bs) (h_lines : Block.lines ∈ bs) (h_mail : Block.mail ∈ bs) :
    erase bs (sampleLine i d s) = erase bs s := by
  simp only [sampleLine]
  all_goals simp [*]

@[simp] theorem erase_writeLine {bs : List Block} (i : Nat) (c : LineCfg) (s : State)
    (h_tables : Block.tables ∈ bs) (h_port : Block.port ∈ bs) (h_segs : Block.segs ∈ bs) (h_cap : Block.cap ∈ bs) (h_zc : Block.zc ∈ bs) (h_ride : Block.ride ∈ bs) (h_leak : Block.leak ∈ bs) (h_lines : Block.lines ∈ bs) (h_mail : Block.mail ∈ bs) :
    erase bs (writeLine i c s) = erase bs s := by
  simp only [writeLine]
  repeat' split
  all_goals simp [*]

/-! ## The tables -/

@[simp] theorem erase_markEntryWritten {bs : List Block} (k : Nat) (s : State)
    (h_segs : Block.segs ∈ bs) :
    erase bs (markEntryWritten k s) = erase bs s := by
  simp only [markEntryWritten]
  all_goals simp [*]

@[simp] theorem erase_tellWritten {bs : List Block} (k : Nat) (a b : NodeCfg) (s : State)
    (h_port : Block.port ∈ bs) (h_segs : Block.segs ∈ bs) (h_cap : Block.cap ∈ bs) (h_zc : Block.zc ∈ bs) (h_ride : Block.ride ∈ bs) (h_leak : Block.leak ∈ bs) (h_mail : Block.mail ∈ bs) :
    erase bs (tellWritten k a b s) = erase bs s := by
  simp only [tellWritten]
  repeat' split
  all_goals simp [*]

@[simp] theorem erase_writeEntry {bs : List Block} (s : State) (x : Tables)
    (y : Vector NodeRun 48) (h_tables : Block.tables ∈ bs) (h_nodes : Block.nodes ∈ bs) :
    erase bs { s with tables := x, nodes := y } = erase bs s := by
  simp [erase, *]

@[simp] theorem erase_takeNodeWrite {bs : List Block} (k : Nat) (c : NodeCfg) (s : State)
    (h_tables : Block.tables ∈ bs) (h_port : Block.port ∈ bs) (h_segs : Block.segs ∈ bs) (h_nodes : Block.nodes ∈ bs) (h_cap : Block.cap ∈ bs) (h_zc : Block.zc ∈ bs) (h_ride : Block.ride ∈ bs) (h_leak : Block.leak ∈ bs) (h_mail : Block.mail ∈ bs) :
    erase bs (takeNodeWrite k c s) = erase bs s := by
  simp only [takeNodeWrite]
  repeat' split
  all_goals simp [*]

@[simp] theorem erase_takeZoneWrite {bs : List Block} (z : Nat) (c : ZoneCfg) (s : State)
    (h_tables : Block.tables ∈ bs) (h_zc : Block.zc ∈ bs) :
    erase bs (takeZoneWrite z c s) = erase bs s := by
  simp only [takeZoneWrite]
  all_goals simp [*]

@[simp] theorem erase_slotCountWritten {bs : List Block} (s : State)
    (h_port : Block.port ∈ bs) (h_segs : Block.segs ∈ bs) (h_cap : Block.cap ∈ bs) (h_zc : Block.zc ∈ bs) (h_mail : Block.mail ∈ bs) :
    erase bs (slotCountWritten s) = erase bs s := by
  simp only [slotCountWritten]
  repeat' split
  all_goals simp [*]

@[simp] theorem erase_segmentEnableChanged {bs : List Block} (i : Nat) (s : State)
    (h_port : Block.port ∈ bs) (h_segs : Block.segs ∈ bs) (h_nodes : Block.nodes ∈ bs) (h_cap : Block.cap ∈ bs) (h_zc : Block.zc ∈ bs) (h_seq : Block.seq ∈ bs) (h_ride : Block.ride ∈ bs) (h_leak : Block.leak ∈ bs) (h_mail : Block.mail ∈ bs) :
    erase bs (segmentEnableChanged i s) = erase bs s := by
  simp only [segmentEnableChanged]
  all_goals simp [*]

@[simp] theorem erase_settingWritten {bs : List Block} (k : Nat) (s : State)
    (h_port : Block.port ∈ bs) (h_segs : Block.segs ∈ bs) (h_nodes : Block.nodes ∈ bs) (h_cap : Block.cap ∈ bs) (h_zc : Block.zc ∈ bs) (h_seq : Block.seq ∈ bs) (h_ride : Block.ride ∈ bs) (h_leak : Block.leak ∈ bs) (h_mail : Block.mail ∈ bs) :
    erase bs (settingWritten k s) = erase bs s := by
  simp only [settingWritten]
  repeat' split
  all_goals simp [*]

@[simp] theorem erase_writeSetting {bs : List Block} (k v : Nat) (s : State)
    (h_tables : Block.tables ∈ bs) (h_port : Block.port ∈ bs) (h_segs : Block.segs ∈ bs) (h_nodes : Block.nodes ∈ bs) (h_cap : Block.cap ∈ bs) (h_zc : Block.zc ∈ bs) (h_seq : Block.seq ∈ bs) (h_ride : Block.ride ∈ bs) (h_leak : Block.leak ∈ bs) (h_mail : Block.mail ∈ bs) :
    erase bs (writeSetting k v s) = erase bs s := by
  simp only [writeSetting]
  repeat' split
  all_goals simp [*]

@[simp] theorem erase_offerEntry {bs : List Block} (t : TableId) (k : Nat) (l : List Byte) (s : State)
    (h_tables : Block.tables ∈ bs) (h_port : Block.port ∈ bs) (h_segs : Block.segs ∈ bs) (h_nodes : Block.nodes ∈ bs) (h_cap : Block.cap ∈ bs) (h_zc : Block.zc ∈ bs) (h_seq : Block.seq ∈ bs) (h_ride : Block.ride ∈ bs) (h_leak : Block.leak ∈ bs) (h_lines : Block.lines ∈ bs) (h_mail : Block.mail ∈ bs) :
    erase bs (offerEntry t k l s).1 = erase bs s := by
  simp only [offerEntry]
  repeat' split
  all_goals simp [*]

@[simp] theorem erase_raiseLoadEvent {bs : List Block} (c : LoadCause) (r : LoadRecord) (s : State)
    (h_port : Block.port ∈ bs) :
    erase bs (raiseLoadEvent c r s) = erase bs s := by
  simp only [raiseLoadEvent]
  all_goals simp [*]

@[simp] theorem erase_openLoad {bs : List Block} (r : LoadRecord) (s : State)
    (h_loader : Block.loader ∈ bs) :
    erase bs (openLoad r s) = erase bs s := by
  simp only [openLoad]
  all_goals simp [*]

@[simp] theorem erase_tableLoadRequest {bs : List Block} (t : TableId) (a b : Nat) (s : State)
    (h_loader : Block.loader ∈ bs) (h_port : Block.port ∈ bs) :
    erase bs (tableLoadRequest t a b s).2.2 = erase bs s := by
  simp only [tableLoadRequest]
  repeat' split
  all_goals simp [*]

theorem erase_takeEntry {bs : List Block} (t : TableId) (p : Progress) (l : List Byte)
    (h_tables : Block.tables ∈ bs) (h_port : Block.port ∈ bs) (h_segs : Block.segs ∈ bs) (h_nodes : Block.nodes ∈ bs) (h_cap : Block.cap ∈ bs) (h_zc : Block.zc ∈ bs) (h_seq : Block.seq ∈ bs) (h_ride : Block.ride ∈ bs) (h_leak : Block.leak ∈ bs) (h_lines : Block.lines ∈ bs) (h_mail : Block.mail ∈ bs) :
    erase bs (takeEntry t p l).state = erase bs p.state := by
  have ho := erase_offerEntry t p.next l p.state h_tables h_port h_segs h_nodes h_cap h_zc h_seq h_ride h_leak h_lines h_mail
  simp only [takeEntry]
  split
  · rfl
  · split <;> rename_i h <;> rw [h] at ho <;> exact ho

theorem erase_takeEntries {bs : List Block} (t : TableId) (l : List (List Byte)) (p : Progress)
    (h_tables : Block.tables ∈ bs) (h_port : Block.port ∈ bs) (h_segs : Block.segs ∈ bs) (h_nodes : Block.nodes ∈ bs) (h_cap : Block.cap ∈ bs) (h_zc : Block.zc ∈ bs) (h_seq : Block.seq ∈ bs) (h_ride : Block.ride ∈ bs) (h_leak : Block.leak ∈ bs) (h_lines : Block.lines ∈ bs) (h_mail : Block.mail ∈ bs) :
    erase bs (l.foldl (takeEntry t) p).state = erase bs p.state := by
  induction l generalizing p with
  | nil => rfl
  | cons x rest ih => simp [erase_takeEntry, *]

@[simp] theorem erase_afterData {bs : List Block} (t : TableId) (p : Progress)
    (h_loader : Block.loader ∈ bs) : erase bs (afterData t p) = erase bs p.state := by
  simp only [afterData]
  split <;> simp [*]

@[simp] theorem erase_tableDataRequest {bs : List Block} (l : List Byte) (s : State)
    (h_loader : Block.loader ∈ bs) (h_tables : Block.tables ∈ bs) (h_port : Block.port ∈ bs) (h_segs : Block.segs ∈ bs) (h_nodes : Block.nodes ∈ bs) (h_cap : Block.cap ∈ bs) (h_zc : Block.zc ∈ bs) (h_seq : Block.seq ∈ bs) (h_ride : Block.ride ∈ bs) (h_leak : Block.leak ∈ bs) (h_lines : Block.lines ∈ bs) (h_mail : Block.mail ∈ bs) :
    erase bs (tableDataRequest l s).2.2 = erase bs s := by
  simp only [tableDataRequest]
  repeat' split
  all_goals simp [erase_takeEntries, *]

@[simp] theorem erase_loadStalled {bs : List Block} (s : State)
    (h_loader : Block.loader ∈ bs) (h_port : Block.port ∈ bs) :
    erase bs (loadStalled s) = erase bs s := by
  simp only [loadStalled]
  repeat' split
  all_goals simp [*]

/-! ## The image, the link and the requests -/

@[simp] theorem erase_raiseImage {bs : List Block} (x : ImageResult) (s : State)
    (h_port : Block.port ∈ bs) :
    erase bs (raiseImage x s) = erase bs s := by
  simp only [raiseImage]
  all_goals simp [*]

@[simp] theorem erase_imageSaveRequest {bs : List Block} (s : State)
    (h_image : Block.image ∈ bs) :
    erase bs (imageSaveRequest s).2 = erase bs s := by
  simp only [imageSaveRequest]
  repeat' split
  all_goals simp [*]

@[simp] theorem erase_imageSaved {bs : List Block} (b : Bool) (s : State)
    (h_image : Block.image ∈ bs) (h_port : Block.port ∈ bs) :
    erase bs (imageSaved b s) = erase bs s := by
  simp only [imageSaved]
  repeat' split
  all_goals simp [*]

@[simp] theorem erase_imageEraseRequest {bs : List Block} (s : State)
    (h_image : Block.image ∈ bs) (h_port : Block.port ∈ bs) :
    erase bs (imageEraseRequest s).2 = erase bs s := by
  simp only [imageEraseRequest]
  repeat' split
  all_goals simp [*]

@[simp] theorem erase_changeLink {bs : List Block} (x : LinkState) (c : LinkCause) (s : State)
    (h_port : Block.port ∈ bs) (h_mail : Block.mail ∈ bs) :
    erase bs (changeLink x c s) = erase bs s := by
  simp only [changeLink]
  all_goals simp [*]

@[simp] theorem erase_startWindow {bs : List Block} (s : State)
    (h_port : Block.port ∈ bs) :
    erase bs (startWindow s) = erase bs s := by
  simp only [startWindow]
  all_goals simp [*]

@[simp] theorem erase_linkError {bs : List Block} (c : LinkCause) (s : State)
    (h_port : Block.port ∈ bs) (h_mail : Block.mail ∈ bs) :
    erase bs (linkError c s) = erase bs s := by
  simp only [linkError]
  repeat' split
  all_goals simp [*]

@[simp] theorem erase_autonomousCount {bs : List Block} (x : KeepTime) (s : State)
    (h_port : Block.port ∈ bs) (h_mail : Block.mail ∈ bs) :
    erase bs (autonomousCount x s) = erase bs s := by
  simp only [autonomousCount]
  repeat' split
  all_goals simp [*]

@[simp] theorem erase_supervisedCount {bs : List Block} (x : KeepTime) (s : State)
    (h_port : Block.port ∈ bs) (h_mail : Block.mail ∈ bs) :
    erase bs (supervisedCount x s) = erase bs s := by
  simp only [supervisedCount]
  repeat' split
  all_goals simp [*]

@[simp] theorem erase_keepaliveTaken {bs : List Block} (s : State)
    (h_port : Block.port ∈ bs) (h_mail : Block.mail ∈ bs) :
    erase bs (keepaliveTaken s) = erase bs s := by
  simp only [keepaliveTaken]
  repeat' split
  all_goals simp [*]

@[simp] theorem erase_closeTimePassed {bs : List Block} (s : State)
    (h_now : Block.now ∈ bs) (h_port : Block.port ∈ bs) (h_mail : Block.mail ∈ bs) :
    erase bs (closeTimePassed s) = erase bs s := by
  simp only [closeTimePassed]
  repeat' split
  all_goals simp [*]

@[simp] theorem erase_flagTakeRequest {bs : List Block} (x : BitVec 32) (s : State)
    (h_port : Block.port ∈ bs) :
    erase bs (flagTakeRequest x s).2.2 = erase bs s := by
  simp only [flagTakeRequest]
  repeat' split
  all_goals simp [*]

@[simp] theorem erase_carryOut {bs : List Block} (r : Request) (s : State)
    (h_tables : Block.tables ∈ bs) (h_image : Block.image ∈ bs) (h_loader : Block.loader ∈ bs) (h_port : Block.port ∈ bs) (h_segs : Block.segs ∈ bs) (h_nodes : Block.nodes ∈ bs) (h_cap : Block.cap ∈ bs) (h_zc : Block.zc ∈ bs) (h_seq : Block.seq ∈ bs) (h_ride : Block.ride ∈ bs) (h_leak : Block.leak ∈ bs) (h_lines : Block.lines ∈ bs) (h_mail : Block.mail ∈ bs) :
    erase bs (carryOut r s).2.2 = erase bs s := by
  simp only [carryOut]
  repeat' split
  all_goals simp [*]

@[simp] theorem erase_serve {bs : List Block} (tag : Byte) (r : Request) (s : State)
    (h_tables : Block.tables ∈ bs) (h_image : Block.image ∈ bs) (h_loader : Block.loader ∈ bs) (h_port : Block.port ∈ bs) (h_segs : Block.segs ∈ bs) (h_nodes : Block.nodes ∈ bs) (h_cap : Block.cap ∈ bs) (h_zc : Block.zc ∈ bs) (h_seq : Block.seq ∈ bs) (h_ride : Block.ride ∈ bs) (h_leak : Block.leak ∈ bs) (h_lines : Block.lines ∈ bs) (h_mail : Block.mail ∈ bs) :
    erase bs (serve tag r s) = erase bs s := by
  simp only [serve]
  all_goals simp [*]

@[simp] theorem erase_takeFrame {bs : List Block} (f : Frame) (s : State)
    (h_tables : Block.tables ∈ bs) (h_image : Block.image ∈ bs) (h_loader : Block.loader ∈ bs) (h_port : Block.port ∈ bs) (h_segs : Block.segs ∈ bs) (h_nodes : Block.nodes ∈ bs) (h_cap : Block.cap ∈ bs) (h_zc : Block.zc ∈ bs) (h_seq : Block.seq ∈ bs) (h_ride : Block.ride ∈ bs) (h_leak : Block.leak ∈ bs) (h_lines : Block.lines ∈ bs) (h_mail : Block.mail ∈ bs) :
    erase bs (takeFrame f s) = erase bs s := by
  simp only [takeFrame]
  repeat' split
  all_goals simp [*]

@[simp] theorem erase_acceptFrame {bs : List Block} (f : Frame) (s : State)
    (h_port : Block.port ∈ bs) :
    erase bs (acceptFrame f s) = erase bs s := by
  simp only [acceptFrame]
  repeat' split
  all_goals simp [*]

@[simp] theorem erase_countBroken {bs : List Block} (s : State)
    (h_port : Block.port ∈ bs) :
    erase bs (countBroken s) = erase bs s := by
  simp only [countBroken]
  all_goals simp [*]

@[simp] theorem erase_countMisaddressed {bs : List Block} (s : State)
    (h_port : Block.port ∈ bs) :
    erase bs (countMisaddressed s) = erase bs s := by
  simp only [countMisaddressed]
  all_goals simp [*]

@[simp] theorem erase_judgeFrame {bs : List Block} (l : List Byte) (s : State)
    (h_port : Block.port ∈ bs) :
    erase bs (judgeFrame l s) = erase bs s := by
  simp only [judgeFrame]
  repeat' split
  all_goals simp [*]

@[simp] theorem erase_takeHead {bs : List Block} (s : State)
    (h_tables : Block.tables ∈ bs) (h_image : Block.image ∈ bs) (h_loader : Block.loader ∈ bs) (h_port : Block.port ∈ bs) (h_segs : Block.segs ∈ bs) (h_nodes : Block.nodes ∈ bs) (h_cap : Block.cap ∈ bs) (h_zc : Block.zc ∈ bs) (h_seq : Block.seq ∈ bs) (h_ride : Block.ride ∈ bs) (h_leak : Block.leak ∈ bs) (h_lines : Block.lines ∈ bs) (h_mail : Block.mail ∈ bs) :
    erase bs (takeHead s) = erase bs s := by
  simp only [takeHead]
  repeat' split
  all_goals simp [*]

@[simp] theorem erase_request {bs : List Block} (tag : Byte) (r : Request) (s : State)
    (h_tables : Block.tables ∈ bs) (h_image : Block.image ∈ bs) (h_loader : Block.loader ∈ bs) (h_port : Block.port ∈ bs) (h_segs : Block.segs ∈ bs) (h_nodes : Block.nodes ∈ bs) (h_cap : Block.cap ∈ bs) (h_zc : Block.zc ∈ bs) (h_seq : Block.seq ∈ bs) (h_ride : Block.ride ∈ bs) (h_leak : Block.leak ∈ bs) (h_lines : Block.lines ∈ bs) (h_mail : Block.mail ∈ bs) :
    erase bs (request tag r s) = erase bs s := by
  simp only [request]
  repeat' split
  all_goals simp [*]

@[simp] theorem erase_relayArrives {bs : List Block} (f : Frame) (s : State)
    (h_tables : Block.tables ∈ bs) (h_image : Block.image ∈ bs) (h_loader : Block.loader ∈ bs) (h_port : Block.port ∈ bs) (h_segs : Block.segs ∈ bs) (h_nodes : Block.nodes ∈ bs) (h_cap : Block.cap ∈ bs) (h_zc : Block.zc ∈ bs) (h_seq : Block.seq ∈ bs) (h_ride : Block.ride ∈ bs) (h_leak : Block.leak ∈ bs) (h_lines : Block.lines ∈ bs) (h_mail : Block.mail ∈ bs) :
    erase bs (relayArrives f s) = erase bs s := by
  simp only [relayArrives]
  repeat' split
  all_goals simp [*]

@[simp] theorem erase_startSending {bs : List Block} (s : State)
    (h_port : Block.port ∈ bs) :
    erase bs (startSending s) = erase bs s := by
  simp only [startSending]
  repeat' split
  all_goals simp [*]

@[simp] theorem erase_finishSending {bs : List Block} (s : State)
    (h_port : Block.port ∈ bs) :
    erase bs (finishSending s) = erase bs s := by
  simp only [finishSending]
  repeat' split
  all_goals simp [*]

end Sys2Proof.Machine
end

