-- ==== Sys2Proof/WellFormed.lean ====
section
/-! DEFINITION. Which commands can occur: a payload fits a frame (240 bytes, section 11.1), a
complete upstream frame has the length its header states (R146), and a relayed frame is addressed to
a node address byte (section 11.2). Everything else about an operand is answered by the owning rule
(RANGE, MALFORMED, NO_NODE), or cannot be ill-formed by its type. `exec` gives every command a
meaning, ill-formed ones too. -/

namespace Sys2Proof

/-- Section 11.2: a node address byte is 0x80 + 32 × segment + address, address 1 to 30. -/
def isNodeAddressByte (b : Byte) : Bool :=
  decide (0x80 ≤ b.toNat) && decide (1 ≤ b.toNat % 32) && decide (b.toNat % 32 ≤ 30)

/-- A payload fits the envelope of section 11.1. -/
def payloadFits (payload : List Byte) : Bool := decide (payload.length ≤ 240)

/-- R146: the bytes are a frame judged as soon as it is complete: a header whose stated length is
above 240 is judged at the header, any other frame at its last CRC byte. -/
def completeFrame (bytes : List Byte) : Bool :=
  match bytes with
  | _ :: _ :: _ :: _ :: len :: rest =>
    if 240 < len.toNat then rest.isEmpty else rest.length == len.toNat + 2
  | _ => false

/-- The commands that can occur. -/
def WellFormed : Instr → Bool
  | .upstreamFrame bytes => completeFrame bytes
  | .tableData _ payload => payloadFits payload
  | .relayPoll _ dest payload => isNodeAddressByte dest && payloadFits payload
  | .relayItemRead _ dest payload => isNodeAddressByte dest && payloadFits payload
  | .relayItemWrite _ dest payload => isNodeAddressByte dest && payloadFits payload
  | .relayFeedSet _ dest payload => isNodeAddressByte dest && payloadFits payload
  | .powerOnReset => true
  | .resetHard _ => true
  | .resetSoft _ => true
  | .hardReset => true
  | .softReset => true
  | .upstreamByteTimeout => true
  | .rxFrameTaken => true
  | .transmitStart => true
  | .transmitDone => true
  | .keepalive _ => true
  | .keepaliveCloseTime => true
  | .statusSummary _ _ => true
  | .statusNode _ _ => true
  | .statusZone _ _ => true
  | .statusCapacity _ _ => true
  | .statusRide _ _ => true
  | .statusLeak _ _ => true
  | .statusSequencer _ _ => true
  | .statusSegment _ _ => true
  | .statusQueues _ _ => true
  | .flagTake _ _ => true
  | .tableLoad _ _ _ _ => true
  | .tableRead _ _ _ _ => true
  | .zoneOn _ _ => true
  | .zoneOff _ _ => true
  | .zoneReset _ _ => true
  | .seqRun _ _ _ => true
  | .seqStop _ => true
  | .leakClear _ _ => true
  | .epoClear _ => true
  | .rideRelease _ => true
  | .nodeEnable _ _ => true
  | .nodeDisable _ _ => true
  | .imageSave _ => true
  | .imageSaveComplete _ => true
  | .imageErase _ => true
  | .loadWindowExpiry => true
  | .relayTimerExpiry _ => true
  | .relayAnswerPlaced => true
  | .pollTimerExpiry _ => true
  | .sendComplete _ => true
  | .readbackMismatch _ _ => true
  | .replyFirstByte _ => true
  | .replyWindowExpiry _ => true
  | .replyComplete _ _ => true
  | .replySilence _ => true
  | .graceTimerExpiry => true
  | .capacityShedTaken => true
  | .capacityShedCompletion => true
  | .capacityDelivery _ => true
  | .inrushTimerExpiry _ => true
  | .retryTimerExpiry _ => true
  | .seqZoneQueueRequest => true
  | .seqZoneAnswer => true
  | .zoneStateDelivery => true
  | .epoFailNotice => true
  | .stepTimerExpiry => true
  | .autostart => true
  | .sequencerRideNotice => true
  | .energyFigureDelivery _ => true
  | .capacityRideNotice => true
  | .rideDeliveryZone => true
  | .confirmTimerExpiry => true
  | .bridgingInrushShed => true
  | .settleTimerExpiry => true
  | .recomputeTimerExpiry => true
  | .planShedTaken => true
  | .planShedCompletion => true
  | .episodeWindowExpiry => true
  | .leakGroupDelivery => true
  | .linkStateDelivery => true
  | .channelConfirmExpiry _ => true
  | .chatterTimerExpiry => true
  | .beaconTimerExpiry => true
  | .lineSample _ _ => true

end Sys2Proof
end

