-- ==== Sys2Proof/Laws/PerInstr.lean ====
section
/-! SUPPORT. A law of the syntax, one lemma per command: the frame in which a well-formed request or
relay arrives fits the envelope of section 11.1 and is addressed to the supervisor or to a node, so
that R146 counts it neither as broken nor as misaddressed. -/

namespace Sys2Proof.Laws.Fits

open Sys2Proof Sys2Proof.Machine

/-- Sections 11.1 and 11.2: the frame a command arrives in, where it arrives in one, has at most 240
payload bytes and a destination that R146 accepts. -/
def Statement (i : Instr) : Prop :=
  WellFormed i = true → ∀ f, arrivingFrame i = some f →
    f.payload.length ≤ 240 ∧ (f.dst = supervisorByte ∨ isNodeByte f.dst = true)

/-- A command that arrives in no frame. -/
theorem of_no_frame {i : Instr} (h : arrivingFrame i = none) : Statement i :=
  fun _ f hf => by rw [h] at hf; cases hf

/-- A management request whose payload is short. -/
theorem of_request {i : Instr} {tag : Byte} {r : Request}
    (h : arrivingFrame i = some (requestFrame tag r)) (hr : (requestPayload r).length ≤ 240) :
    Statement i :=
  fun _ f hf => by rw [h] at hf; cases hf; exact ⟨hr, .inl rfl⟩

/-- A relay of a well-formed payload to a node address byte. -/
theorem of_relay {i : Instr} {k : RelayKind} {tag dest : Byte} {payload : List Byte}
    (h : arrivingFrame i = some (relayFrame k tag dest payload))
    (hw : WellFormed i = (isNodeAddressByte dest && payloadFits payload)) : Statement i :=
  fun w f hf => by
    rw [h] at hf; cases hf
    rw [hw, Bool.and_eq_true] at w
    exact ⟨of_decide_eq_true w.2, .inr w.1⟩

theorem powerOnReset : Statement .powerOnReset := of_no_frame rfl

theorem resetHard (tag : Byte) : Statement (.resetHard tag) := of_request rfl (by simp [requestPayload])

theorem resetSoft (tag : Byte) : Statement (.resetSoft tag) := of_request rfl (by simp [requestPayload])

theorem hardReset : Statement .hardReset := of_no_frame rfl

theorem softReset : Statement .softReset := of_no_frame rfl

theorem upstreamFrame (bytes : List Byte) : Statement (.upstreamFrame bytes) := of_no_frame rfl

theorem upstreamByteTimeout : Statement .upstreamByteTimeout := of_no_frame rfl

theorem rxFrameTaken : Statement .rxFrameTaken := of_no_frame rfl

theorem transmitStart : Statement .transmitStart := of_no_frame rfl

theorem transmitDone : Statement .transmitDone := of_no_frame rfl

theorem keepalive (tag : Byte) : Statement (.keepalive tag) := of_request rfl (by simp [requestPayload])

theorem keepaliveCloseTime : Statement .keepaliveCloseTime := of_no_frame rfl

theorem statusSummary (tag part : Byte) : Statement (.statusSummary tag part) := of_request rfl (by simp [requestPayload])

theorem statusNode (tag entry : Byte) : Statement (.statusNode tag entry) := of_request rfl (by simp [requestPayload])

theorem statusZone (tag zone : Byte) : Statement (.statusZone tag zone) := of_request rfl (by simp [requestPayload])

theorem statusCapacity (tag part : Byte) : Statement (.statusCapacity tag part) := of_request rfl (by simp [requestPayload])

theorem statusRide (tag part : Byte) : Statement (.statusRide tag part) := of_request rfl (by simp [requestPayload])

theorem statusLeak (tag part : Byte) : Statement (.statusLeak tag part) := of_request rfl (by simp [requestPayload])

theorem statusSequencer (tag part : Byte) : Statement (.statusSequencer tag part) := of_request rfl (by simp [requestPayload])

theorem statusSegment (tag segment : Byte) : Statement (.statusSegment tag segment) := of_request rfl (by simp [requestPayload])

theorem statusQueues (tag part : Byte) : Statement (.statusQueues tag part) := of_request rfl (by simp [requestPayload])

theorem flagTake (tag : Byte) (flags : BitVec 32) : Statement (.flagTake tag flags) := of_request rfl (by simp [requestPayload])

theorem tableLoad (tag : Byte) (table : TableId) (start count : Byte) : Statement (.tableLoad tag table start count) := of_request rfl (by simp [requestPayload])

theorem tableData (tag : Byte) (payload : List Byte) : Statement (.tableData tag payload) := fun w f hf => by
  cases hf
  exact ⟨of_decide_eq_true w, .inl rfl⟩

theorem tableRead (tag : Byte) (table : TableId) (start count : Byte) : Statement (.tableRead tag table start count) := of_request rfl (by simp [requestPayload])

theorem zoneOn (tag zone : Byte) : Statement (.zoneOn tag zone) := of_request rfl (by simp [requestPayload])

theorem zoneOff (tag zone : Byte) : Statement (.zoneOff tag zone) := of_request rfl (by simp [requestPayload])

theorem zoneReset (tag zone : Byte) : Statement (.zoneReset tag zone) := of_request rfl (by simp [requestPayload])

theorem seqRun (tag start count : Byte) : Statement (.seqRun tag start count) := of_request rfl (by simp [requestPayload])

theorem seqStop (tag : Byte) : Statement (.seqStop tag) := of_request rfl (by simp [requestPayload])

theorem leakClear (tag group : Byte) : Statement (.leakClear tag group) := of_request rfl (by simp [requestPayload])

theorem epoClear (tag : Byte) : Statement (.epoClear tag) := of_request rfl (by simp [requestPayload])

theorem rideRelease (tag : Byte) : Statement (.rideRelease tag) := of_request rfl (by simp [requestPayload])

theorem nodeEnable (tag entry : Byte) : Statement (.nodeEnable tag entry) := of_request rfl (by simp [requestPayload])

theorem nodeDisable (tag entry : Byte) : Statement (.nodeDisable tag entry) := of_request rfl (by simp [requestPayload])

theorem imageSave (tag : Byte) : Statement (.imageSave tag) := of_request rfl (by simp [requestPayload])

theorem imageSaveComplete (crcMatches : Bool) : Statement (.imageSaveComplete crcMatches) := of_no_frame rfl

theorem imageErase (tag : Byte) : Statement (.imageErase tag) := of_request rfl (by simp [requestPayload])

theorem loadWindowExpiry : Statement .loadWindowExpiry := of_no_frame rfl

theorem relayPoll (tag dest : Byte) (payload : List Byte) : Statement (.relayPoll tag dest payload) := of_relay rfl rfl

theorem relayItemRead (tag dest : Byte) (payload : List Byte) : Statement (.relayItemRead tag dest payload) := of_relay rfl rfl

theorem relayItemWrite (tag dest : Byte) (payload : List Byte) : Statement (.relayItemWrite tag dest payload) := of_relay rfl rfl

theorem relayFeedSet (tag dest : Byte) (payload : List Byte) : Statement (.relayFeedSet tag dest payload) := of_relay rfl rfl

theorem relayTimerExpiry (slot : Fin 8) : Statement (.relayTimerExpiry slot) := of_no_frame rfl

theorem relayAnswerPlaced : Statement .relayAnswerPlaced := of_no_frame rfl

theorem pollTimerExpiry (segment : Fin 4) : Statement (.pollTimerExpiry segment) := of_no_frame rfl

theorem sendComplete (segment : Fin 4) : Statement (.sendComplete segment) := of_no_frame rfl

theorem readbackMismatch (segment : Fin 4) (index : Byte) : Statement (.readbackMismatch segment index) := of_no_frame rfl

theorem replyFirstByte (segment : Fin 4) : Statement (.replyFirstByte segment) := of_no_frame rfl

theorem replyWindowExpiry (segment : Fin 4) : Statement (.replyWindowExpiry segment) := of_no_frame rfl

theorem replyComplete (segment : Fin 4) (bytes : List Byte) : Statement (.replyComplete segment bytes) := of_no_frame rfl

theorem replySilence (segment : Fin 4) : Statement (.replySilence segment) := of_no_frame rfl

theorem graceTimerExpiry : Statement .graceTimerExpiry := of_no_frame rfl

theorem capacityShedTaken : Statement .capacityShedTaken := of_no_frame rfl

theorem capacityShedCompletion : Statement .capacityShedCompletion := of_no_frame rfl

theorem capacityDelivery (receiver : Receiver) : Statement (.capacityDelivery receiver) := of_no_frame rfl

theorem inrushTimerExpiry (zone : Fin 32) : Statement (.inrushTimerExpiry zone) := of_no_frame rfl

theorem retryTimerExpiry (zone : Fin 32) : Statement (.retryTimerExpiry zone) := of_no_frame rfl

theorem seqZoneQueueRequest : Statement .seqZoneQueueRequest := of_no_frame rfl

theorem seqZoneAnswer : Statement .seqZoneAnswer := of_no_frame rfl

theorem zoneStateDelivery : Statement .zoneStateDelivery := of_no_frame rfl

theorem epoFailNotice : Statement .epoFailNotice := of_no_frame rfl

theorem stepTimerExpiry : Statement .stepTimerExpiry := of_no_frame rfl

theorem autostart : Statement .autostart := of_no_frame rfl

theorem sequencerRideNotice : Statement .sequencerRideNotice := of_no_frame rfl

theorem energyFigureDelivery (receiver : Receiver) : Statement (.energyFigureDelivery receiver) := of_no_frame rfl

theorem capacityRideNotice : Statement .capacityRideNotice := of_no_frame rfl

theorem rideDeliveryZone : Statement .rideDeliveryZone := of_no_frame rfl

theorem confirmTimerExpiry : Statement .confirmTimerExpiry := of_no_frame rfl

theorem bridgingInrushShed : Statement .bridgingInrushShed := of_no_frame rfl

theorem settleTimerExpiry : Statement .settleTimerExpiry := of_no_frame rfl

theorem recomputeTimerExpiry : Statement .recomputeTimerExpiry := of_no_frame rfl

theorem planShedTaken : Statement .planShedTaken := of_no_frame rfl

theorem planShedCompletion : Statement .planShedCompletion := of_no_frame rfl

theorem episodeWindowExpiry : Statement .episodeWindowExpiry := of_no_frame rfl

theorem leakGroupDelivery : Statement .leakGroupDelivery := of_no_frame rfl

theorem linkStateDelivery : Statement .linkStateDelivery := of_no_frame rfl

theorem channelConfirmExpiry (channel : Fin 32) : Statement (.channelConfirmExpiry channel) := of_no_frame rfl

theorem chatterTimerExpiry : Statement .chatterTimerExpiry := of_no_frame rfl

theorem beaconTimerExpiry : Statement .beaconTimerExpiry := of_no_frame rfl

theorem lineSample (line : Fin 11) (drive : PinDrive) : Statement (.lineSample line drive) := of_no_frame rfl

end Sys2Proof.Laws.Fits
end

