-- ==== Sys2Proof/Laws/Places.lean ====
section
/-! SUPPORT. The places of the response queue that are kept (R147): how each operation of the relay counts
them, and what the deciding of an answer can do. -/

namespace Sys2Proof.Machine

/-! ## Counting -/

/-- Replacing one entry of a list changes a count by that entry alone. -/
theorem countP_set_add {α : Type} (p : α → Bool) (x : α) :
    ∀ (l : List α) (k : Nat) (h : k < l.length),
      (l.set k x).countP p + (p l[k]).toNat = l.countP p + (p x).toNat
  | a :: l, 0, _ => by
    cases ha : p a <;> cases hx : p x <;> simp [ha, hx]
  | a :: l, k + 1, h => by
    have ih := countP_set_add p x l k (by simpa using h)
    simp only [List.set_cons_succ, List.countP_cons, List.getElem_cons_succ]
    omega

@[simp] theorem keptPlaces_keepPlace (b : Bool) (s : State) :
    keptPlaces (keepPlace b s) = b.toNat + s.port.slots.toList.countP keepsPlace := rfl

@[simp] theorem keptPlaces_pushResponse (r : Response) (s : State) :
    keptPlaces (pushResponse r s) = keptPlaces s := rfl

/-- What leaves the Upstream Port alone keeps every place. -/
theorem keptPlaces_congr {s t : State} (h : t.port = s.port) : keptPlaces t = keptPlaces s := by
  simp [keptPlaces, h]

/-- Setting a slot changes the kept places by that slot alone. -/
theorem keptPlaces_setSlot (n : Nat) (x : Option RelaySlot) (s : State) (h : n < 8) :
    keptPlaces (setSlot n x s) + (keepsPlace (slotAt s n)).toNat =
      keptPlaces s + (keepsPlace x).toNat := by
  have hk := countP_set_add keepsPlace x s.port.slots.toList n (by simpa using h)
  have hn : slotAt s n = s.port.slots.toList[n]'(by simpa using h) := by
    simp [slotAt, nth, h]
  have hs : (setSlot n x s).port.slots.toList = s.port.slots.toList.set n x := by
    simp [put]
  simp only [keptPlaces, setSlot_port] at *
  rw [hs, hn]
  omega

/-! ## The operations of the relay -/

@[simp] theorem keepsPlace_waitingSlot (s : State) (target : Nat) (k : RelayKind) (tag dest : Byte) :
    keepsPlace (some (waitingSlot s target k tag dest)) = true := rfl

@[simp] theorem keepsPlace_of_waiting {x : RelaySlot} (h : x.state = .waiting) :
    keepsPlace (some x) = true := by simp [keepsPlace, h]

@[simp] theorem keepsPlace_none : keepsPlace none = false := rfl

@[simp] theorem keepsPlace_expired (x : RelaySlot) (t : Timer) :
    keepsPlace (some { x with timer := t, state := .expired }) = false := rfl

@[simp] theorem keepsPlace_answering (x : RelaySlot) (t : Timer) (answer : Frame) (pending : Bool) :
    keepsPlace (some { x with timer := t, state := .answering answer pending }) = false := rfl

/-- R147: an accepted relay takes over the place that was kept for the frame. -/
theorem keptPlaces_accepted (n : Nat) (x : RelaySlot) (s : State) (h : n < 8)
    (free : slotAt s n = none) (waiting : x.state = .waiting) :
    keptPlaces (setSlot n (some x) (keepPlace false s)) = keptPlaces (keepPlace true s) := by
  have hk := keptPlaces_setSlot n (some x) (keepPlace false s) h
  have hf : slotAt (keepPlace false s) n = none := free
  rw [hf, keepsPlace_of_waiting waiting] at hk
  simp at hk ⊢
  omega

/-- A WAITING slot keeps one of the places. -/
theorem keptPlaces_pos (n : Nat) (x : RelaySlot) (s : State) (h : n < 8)
    (here : slotAt s n = some x) (waiting : x.state = .waiting) : 1 ≤ keptPlaces s := by
  have hk := keptPlaces_setSlot n none s h
  rw [here, keepsPlace_of_waiting waiting] at hk
  simp at hk
  omega

/-- R153: what the deciding of an answer can do: it joins the response queue, or it is held behind the
answers that wait. -/
theorem decideAnswer_cases (n : Nat) (x : RelaySlot) (answer : Frame) (pending : Bool) (s : State) :
    (placesHold s = true ∧ s.port.answering = [] ∧
      decideAnswer n x answer pending s =
        setSlot n (if pending then some { x with timer := .stopped, state := .expired } else none)
          (pushResponse ⟨answer, none⟩ s)) ∨
    (¬(placesHold s = true ∧ s.port.answering = []) ∧
      decideAnswer n x answer pending s =
        modPort (fun p => { p with answering := p.answering ++ [n] })
          (setSlot n (some { x with timer := .stopped, state := .answering answer pending }) s)) := by
  unfold decideAnswer afterAnswer
  split <;> rename_i h
  · exact .inl ⟨by simp_all, by simp_all, rfl⟩
  · exact .inr ⟨by simpa using h, rfl⟩

/-- R147: the deciding of a WAITING slot's answer fills the place that was kept for it, and no other. -/
theorem decideAnswer_fills_its_place (n : Nat) (x : RelaySlot) (answer : Frame) (pending : Bool)
    (s : State) (h : n < 8) (here : slotAt s n = some x) (waiting : x.state = .waiting)
    (room : placesHold s = true) (first : s.port.answering = []) :
    (decideAnswer n x answer pending s).port.responses = s.port.responses ++ [⟨answer, none⟩] ∧
      (decideAnswer n x answer pending s).port.answering = [] ∧
      keptPlaces (decideAnswer n x answer pending s) + 1 = keptPlaces s := by
  obtain ⟨-, -, e⟩ | ⟨no, -⟩ := decideAnswer_cases n x answer pending s
  · have hk := keptPlaces_setSlot n
      (if pending then some { x with timer := .stopped, state := .expired } else none)
      (pushResponse ⟨answer, none⟩ s) h
    have hp : slotAt (pushResponse ⟨answer, none⟩ s) n = some x := here
    rw [hp, keepsPlace_of_waiting waiting] at hk
    refine ⟨by simp [e], by simp [e, first], ?_⟩
    rw [e]
    cases pending <;> simpa using hk
  · exact absurd ⟨room, first⟩ no

/-- R147: the frames queued and the kept places stay within the queue's 8 when an answer is decided. -/
theorem placesHold_decideAnswer (n : Nat) (x : RelaySlot) (answer : Frame) (pending : Bool) (s : State)
    (h : n < 8) (here : slotAt s n = some x) (waiting : x.state = .waiting)
    (room : placesHold s = true) (first : s.port.answering = []) :
    placesHold (decideAnswer n x answer pending s) = true := by
  obtain ⟨hr, -, hk⟩ := decideAnswer_fills_its_place n x answer pending s h here waiting room first
  simp only [placesHold, decide_eq_true_eq] at room ⊢
  rw [hr, List.length_append, List.length_singleton]
  omega

end Sys2Proof.Machine
end

