-- ==== Sys2Proof/Tests/Slice0.lean ====
section
/-! SUPPORT. The model's own tests, each one command on a small state, with values worked in the spec;
the smoke test of `WellFormed`; and, for every obligation with hypotheses, a witness that meets them. -/

namespace Sys2Proof.Tests

open Sys2Proof Sys2Proof.Machine

/- One theorem at a time: checked side by side, these kernel evaluations need a stack each. -/
set_option Elab.async false

/-! ## Builders -/

/-- The state a command leaves. -/
def after (c : Instr) (s : State) : State :=
  match exec c s with
  | .next t => t
  | .fault _ => s
  | .refused _ => s

/-- Bytes written as numbers. -/
def bytesOf (l : List Nat) : List Byte := l.map (BitVec.ofNat 8 ·)

/-- The state with a node entry configured and running. -/
def withNode (k : Nat) (c : NodeCfg) (x : NodeState) (s : State) : State :=
  modNode k (fun r => { r with state := x })
    { s with tables := { s.tables with nodes := put s.tables.nodes k c } }

/-- The state with an item present in a node's record. -/
def withItem (k code value : Nat) (s : State) : State :=
  modNode k (fun r => { r with slots := put r.slots code ⟨true, value, 0, 0, false, none⟩ }) s

/-- The state with a zone configured, in a state. -/
def withZone (z : Nat) (c : ZoneCfg) (x : ZoneState) (s : State) : State :=
  modZone z (fun r => { r with state := x })
    { s with tables := { s.tables with zones := put s.tables.zones z c } }

/-- The state with a setting written, with no other effect. -/
def withSetting (k v : Nat) (s : State) : State :=
  { s with tables := { s.tables with settings := put s.tables.settings k v } }

/-- The state with a step of the Sequence Table. -/
def withStep (k : Nat) (c : StepCfg) (s : State) : State :=
  { s with tables := { s.tables with steps := put s.tables.steps k c } }

/-- The state with a leak channel configured. -/
def withChannel (k : Nat) (c : ChannelCfg) (r : ChannelRun) (s : State) : State :=
  setChannel k r { s with tables := { s.tables with channels := put s.tables.channels k c } }

/-- The state with a leak map entry. -/
def withGroup (g : Nat) (c : LeakMapCfg) (x : GroupState) (s : State) : State :=
  modLeak (fun l => { l with groups := put l.groups g x })
    { s with tables := { s.tables with leakMap := put s.tables.leakMap g c } }

def rectifier (segment address rated : Nat) : NodeCfg :=
  ⟨true, segment, address, .rectifier, rated, true, .change, .enabled⟩

def feedNode (segment address : Nat) : NodeCfg :=
  ⟨true, segment, address, .feed, 0, true, .off, .enabled⟩

def battery (segment address : Nat) : NodeCfg :=
  ⟨true, segment, address, .battery, 0, true, .off, .enabled⟩

/-- The node table of section 1.8: rectifiers 4 and 5, feed node 9, battery 12, on segment 1. -/
def rack (s : State) : State :=
  withNode 4 (rectifier 1 3 3300) .active <| withNode 5 (rectifier 1 4 3300) .active <|
    withNode 9 (feedNode 1 10) .active <| withNode 12 (battery 1 7) .active s

/-- The zones on feed node 9, of the four tiers. -/
def zoneOf (output tier : Nat) : ZoneCfg := ⟨true, 9, output, tier, 60, 50, 2000, 3⟩

/-- The exchange on the wire of segment 1, in a phase. -/
def onWire (e : Exchange) (p : Phase) (address : Nat) (s : State) : State :=
  modSeg 1 (fun g => { g with
    state := .exchange
    current := some ⟨e, p, nodeByte 1 address, [], 10, if p = .waiting then .running 10 else .stopped,
      false⟩ }) s

/-- A state in which every block has something in it and every law holds: zone 0 ON, zone 6 INRUSH,
zone 8 QUEUED and zone 10 SHED; a POLL on the wire of segment 1 with a FEED_SET and two POLLs behind
it; channel 3 PENDING and its group in WATCH; two rectifiers contributing, one battery copied; the AC
lines lost and the loss not confirmed yet. -/
def shelf : State :=
  let s := withZone 0 (zoneOf 0 0) .on <| withZone 6 (zoneOf 2 1) .inrush <|
    withZone 8 (zoneOf 1 2) .queued <| withZone 10 (zoneOf 3 3) .shed <| rack State.reset
  let s := onWire (pollExchange 4) .sending 3 s
  let s := modSeg 1 (fun g => { g with
    queue := [feedExchange 9 2 true, pollExchange 5, pollExchange 9] }) s
  let s := modZc (fun c => { c with
    queue := [8], readmit := [10], ride := .suspect, groups := put c.groups 2 .watch }) s
  let lost : LineRun := ⟨some .low, none, .running 1⟩
  let s := { s with lines := put (put s.lines 0 lost) 1 lost }
  let s := modRide (fun r => { r with
    state := .suspect, indication := true, linePart := true, batteries := 1
    copies := put r.copies 12 ⟨true, 0, 0⟩ }) s
  let s := withChannel 3 ⟨true, 0, 0, 2, false, 2000, 3⟩ ⟨.pending, 0, .running 2000⟩ s
  let s := withGroup 2 ⟨2, 0x4100#32⟩ .watch s
  modCap (fun c => { c with count := 2, available := 3300, committed := 110 }) s

/-- The shelf with a zone in each of the other states: 28 LOCKOUT, 29 ISOLATED, 30 OFF, and 31 OFF and
waiting for adoption. -/
def fullShelf : State :=
  let far (z : Nat) (x : ZoneState) (s : State) : State :=
    withZone z { zoneOf 0 3 with feedEntry := z } x s
  modZone 31 (fun r => { r with adoptPending := true }) <|
    far 28 .lockout <| far 29 .isolated <| far 30 .off <| far 31 .off shelf

/-- The shelf with a delivery or two in flight. -/
def shelfMail (f : Mail → Mail) : State := modMail f shelf

/-! ## Well-formedness: each check refuses an ill-formed term -/

theorem test_wf_frame_shorter_than_its_length :
    WellFormed (.upstreamFrame (bytesOf [0, 1, 1, 7, 2, 0, 0])) = false := by decide

theorem test_wf_frame_longer_than_its_length :
    WellFormed (.upstreamFrame (bytesOf [0, 1, 1, 7, 0, 0, 0, 0])) = false := by decide

theorem test_wf_frame_without_header : WellFormed (.upstreamFrame (bytesOf [0, 1])) = false := by
  decide

theorem test_wf_oversized_header_is_complete :
    WellFormed (.upstreamFrame (bytesOf [0, 1, 1, 7, 241])) = true ∧
    WellFormed (.upstreamFrame (bytesOf [0, 1, 1, 7, 241, 0])) = false := by decide

theorem test_wf_payload_too_long :
    WellFormed (.tableData 0#8 (List.replicate 240 0#8)) = true ∧
    WellFormed (.tableData 0#8 (List.replicate 241 0#8)) = false := by decide +kernel

theorem test_wf_relay_destination :
    WellFormed (.relayPoll 0#8 0x81#8 []) = true ∧ WellFormed (.relayPoll 0#8 0x9F#8 []) = false ∧
    WellFormed (.relayItemRead 0#8 0x80#8 []) = false ∧
    WellFormed (.relayItemWrite 0#8 0x01#8 []) = false ∧
    WellFormed (.relayFeedSet 0#8 0x00#8 []) = false := by decide

/-! ## Values worked in the spec -/

/-- Section 11.1: the CRC of the nine characters "123456789". -/
theorem test_crc_check_value :
    crc16 (bytesOf [0x31, 0x32, 0x33, 0x34, 0x35, 0x36, 0x37, 0x38, 0x39]) = 0x29B1#16 := by
  decide +kernel

/-- Section 6.9, events 2, 4 and 5: the effective energy. -/
theorem test_effective_energy :
    energyFigure 26 243 36000 = 30701 ∧ energyFigure 26 243 31100 = 26523 ∧
      energyFigure 26 243 26200 = 22344 := by decide +kernel

/-- Section 6.9, event 2: hold-up time and shed target at entry. -/
theorem test_hold_up_and_target :
    holdUp 30701 12600 = 243 ∧ shedTarget 30701 13200 300 = 10233 ∧ holdUp 26523 9300 = 285 ∧
      shedTarget 26523 13200 250 = 10609 ∧ holdUp 0 0 = 65535 := by decide

/-- Section 1.8, event 1: the scan puts P4 on the wire and queues P5, P9 and P12. -/
theorem test_poll_timer_scan :
    let t := after (.pollTimerExpiry 1) (rack State.reset)
    (segAt t 1).queue = [pollExchange 5, pollExchange 9, pollExchange 12] ∧
      (segAt t 1).current.map (·.ex) = some (pollExchange 4) ∧ t.now = 500 := by decide +kernel

/-- Section 1.8, events 4 and 5: a readback failure at byte 5 of an enable that has not used its retry
puts it on the wire again ahead of the POLLs, marked. -/
theorem test_readback_mismatch_retries :
    let s := modSeg 1 (fun g => { g with queue := [pollExchange 5, pollExchange 9, pollExchange 12] })
      (onWire (feedExchange 9 2 true) .sending 10 (rack State.reset))
    let t := after (.readbackMismatch 1 5#8) s
    (segAt t 1).current.map (·.ex) = some { feedExchange 9 2 true with retryUsed := true } ∧
      (segAt t 1).queue = [pollExchange 5, pollExchange 9, pollExchange 12] ∧
      (segAt t 1).counters = ⟨0, 1, 0, 0, 1, 0⟩ ∧ inFlagSet t.port.flags .segFault = true := by
  decide +kernel

/-- Section 1.8, event 10: a POLL that gets no reply counts one miss and is not retried. -/
theorem test_reply_window_expiry_counts_a_miss :
    let t := after (.replyWindowExpiry 1) (onWire (pollExchange 5) .waiting 4 (rack State.reset))
    (nodeAt t 5).misses = 1 ∧ (nodeAt t 5).state = .active ∧ (segAt t 1).state = .idle ∧
      (segAt t 1).counters = ⟨0, 0, 1, 0, 0, 0⟩ ∧ nth (segAt t 1).polled 5 = true := by
  decide +kernel

/-- Section 2.9, event 4: the third consecutive violating TEMP sample takes the entry to DEGRADED and
raises LIMIT. -/
theorem test_reply_complete_degrades :
    let s := onWire (pollExchange 4) .receiving 3 (rack State.reset)
    let s := { s with tables := { s.tables with
      limits := put s.tables.limits 4 ⟨true, 0, 70, 5, 3, .degrade, 2⟩ } }
    let s := modNode 4 (fun r => { r with
      slots := put r.slots 4 ⟨true, 73, 0, 2, false, some 72⟩ }) s
    let t := after (.replyComplete 1
      (frameBytes ⟨supervisorByte, 0xA3#8, 0x50#8, 0#8, bytesOf [4, 0, 74]⟩)) s
    (nodeAt t 4).state = .degraded ∧
      nth (nodeAt t 4).slots 4 = ⟨true, 74, 0, 3, true, some 72⟩ ∧
      inFlagSet t.port.flags .limit = true ∧ inFlagSet t.port.flags .nodeChange = true := by
  decide +kernel

/-- Section 3.9, event 4: the shed computed at the expiry of the grace timer is 12, 11, 6, and leaves
11800. -/
theorem test_grace_expiry_sheds :
    let zone (tier inrush steady : Nat) : ZoneCfg := ⟨true, 9, 0, tier, inrush, steady, 2000, 3⟩
    let s := withZone 0 (zone 0 4000 4000) .on <| withZone 1 (zone 0 4000 4000) .on <|
      withZone 2 (zone 1 2000 2000) .on <| withZone 5 (zone 2 1800 1800) .on <|
      withZone 6 (zone 2 1500 1500) .on <| withZone 11 (zone 3 1800 1200) .on <|
      withZone 12 (zone 3 1500 1000) .on State.reset
    let s := modCap (fun c => { c with
      available := 13200, committed := 15500, state := .deficit, grace := .running,
      graceTimer := .running 2000 }) s
    let t := after .graceTimerExpiry s
    t.cap.lastShed = some ⟨13200, 15500, 11800, [12, 11, 6], false⟩ ∧
      t.mail.capShed = [[12, 11, 6]] ∧ t.cap.outstanding = true ∧ t.cap.sheds = 1 := by
  decide +kernel

/-- Section 3.10: zones of tier 0 are never walked; the shed is empty and exhausted, and raises
CAPACITY_SHORT. -/
theorem test_grace_expiry_exhausted :
    let s := withZone 0 ⟨true, 9, 0, 0, 4000, 4000, 2000, 3⟩ .on State.reset
    let s := modCap (fun c => { c with
      available := 6600, committed := 8000, state := .deficit, grace := .running,
      graceTimer := .running 2000 }) s
    let t := after .graceTimerExpiry s
    t.cap.lastShed = some ⟨6600, 8000, 8000, [], true⟩ ∧ t.cap.outstanding = false ∧
      t.cap.short = true ∧ inFlagSet t.port.flags .capacityShort = true := by decide +kernel

/-- Section 4.14, event 5 as event 4 leaves the queue: zone 4 of tier 1 joins behind zone 3. -/
theorem test_zone_on_joins_its_tier :
    let s := withZone 3 (zoneOf 0 1) .queued <| withZone 8 (zoneOf 2 2) .queued <|
      withZone 4 (zoneOf 1 1) .off <| withZone 14 (zoneOf 3 3) .queued <| rack State.reset
    let s := modZc (fun c => { c with queue := [3, 8, 14], ride := .suspect }) s
    (after (.zoneOn 1#8 4#8) s).zc.queue = [3, 4, 8, 14] := by decide +kernel

/-- Section 4.14, event 6: the delivery of BALANCED opens admission; both slots are granted. -/
theorem test_capacity_delivery_grants :
    let zone (output : Nat) : ZoneCfg := ⟨true, 9, output, 1, 2500, 2000, 2000, 3⟩
    let s := withZone 3 (zone 0) .queued <| withZone 4 (zone 1) .queued <|
      withZone 0 ⟨true, 10, 0, 0, 3000, 3000, 2000, 3⟩ .on <| rack State.reset
    let s := withSetting 15 2 (modZc (fun c => { c with queue := [3, 4], cap := .suspended }) s)
    let s := modCap (fun c => { c with available := 14000, committed := 3000 }) s
    let s := modMail (fun m => { m with capToZone := [⟨.balanced, 14000, 3000⟩] }) s
    let t := after (.capacityDelivery .zoneController) s
    (zoneAt t 3).state = .inrush ∧ (zoneAt t 4).state = .inrush ∧ t.zc.queue = [] ∧
      t.cap.committed = 8000 ∧
      (segAt t 1).current.map (·.ex) = some (feedExchange 9 0 true) ∧
      (segAt t 1).queue = [feedExchange 9 1 true] := by decide +kernel

/-- Section 4.14, event 11: the window of zone 3 runs out; it is queued again behind its retry delay,
its output disabled. -/
theorem test_inrush_window_runs_out :
    let s := withZone 3 ⟨true, 9, 0, 1, 2500, 2000, 2000, 3⟩ .inrush <| rack State.reset
    let s := modZone 3 (fun r => { r with acked := true, inrush := .running 2000 }) s
    let s := modCap (fun c => { c with available := 14000, committed := 2500 }) (withSetting 16 3000 s)
    let t := after (.inrushTimerExpiry 3) s
    zoneAt t 3 = ⟨.queued, 1, false, false, false, .running 5000, .stopped⟩ ∧
      t.cap.committed = 0 ∧
      (segAt t 1).current.map (·.ex) = some (feedExchange 9 0 false) := by decide +kernel

/-- Section 4.15, event 1: a group that enters ALARM isolates an ON and an INRUSH zone. -/
theorem test_leak_delivery_isolates :
    let s := withZone 8 (zoneOf 2 2) .on <| withZone 14 (zoneOf 0 3) .inrush <| rack State.reset
    let s := withGroup 2 ⟨1, 0x4100#32⟩ .alarm s
    let s := modMail (fun m => { m with leakToZone := [⟨2, .watch, .alarm⟩] })
      (modCap (fun c => { c with available := 1000, committed := 110 }) s)
    let t := after .leakGroupDelivery s
    (zoneAt t 8).state = .isolated ∧ (zoneAt t 14).state = .isolated ∧ t.cap.committed = 0 ∧
      (segAt t 1).current.map (·.ex) = some (feedExchange 9 2 false) ∧
      (segAt t 1).queue = [feedExchange 9 0 false] := by decide +kernel

/-- Section 5.9, event 3: the energy figure completes WAIT_CHARGE, the mark completes at once, and the
third step asks for zone 0. -/
theorem test_energy_delivery_runs_on :
    let s := withStep 0 ⟨.waitCharge, 20000, 60000⟩ <| withStep 1 ⟨.mark, 1, 0⟩ <|
      withStep 2 ⟨.zoneOn, 0, 0⟩ State.reset
    let s := modSeq (fun q => { q with
      state := .running, desc := some ⟨0, 10⟩, phase := .waiting, stepInst := 1,
      timer := .running 60000 }) s
    let t := after (.energyFigureDelivery .sequencer)
      (modMail (fun m => { m with energyToSeq := [20400] }) s)
    t.seq.state = .running ∧ t.seq.pointer = 2 ∧ t.seq.phase = .asking ∧
      t.mail.seqAsk = [⟨3, 0⟩] ∧ inFlagSet t.port.flags .seqMark = true := by decide +kernel

/-- R106, R162: one TABLE_DATA clears segment 3's enable, which meets the start condition, and then
writes the descriptor's start: the program that starts is the one that stood at the test. -/
theorem test_enable_write_starts_the_descriptor_of_its_test :
    let s := withSetting 9 1 <| withSetting 19 0 <| withSetting 20 1 <|
      withStep 0 ⟨.delay, 50, 0⟩ <| withStep 5 ⟨.delay, 60, 0⟩ <|
      modSeq (fun q => { q with autostart := .armed }) State.reset
    let s := (List.range 3).foldl (fun s i => modSeg i (fun g => { g with firstScan := .complete }) s) s
    let t := after (.tableData 1#8 ((List.range 11).flatMap fun k => be4 (if k = 10 then 5 else 0)))
      { s with loader := ⟨some ⟨.settings, 9, 11⟩, .running 5000⟩ }
    t.seq.autostart = .started ∧ t.seq.desc.map (·.start) = some 0 ∧ setting t 19 = 5 := by
  decide +kernel

/-- R106: the first report starts nothing while another enabled segment's first scan is pending. -/
theorem test_first_scan_reports_start_the_program :
    let s := withStep 0 ⟨.delay, 50, 0⟩ (modMail (fun m => { m with firstScans := 2 })
      (modSeq (fun q => { q with autostart := .armed }) State.reset))
    let u := (List.range 4).foldl (fun s i => modSeg i (fun g => { g with firstScan := .complete }) s)
      (after .autostart s)
    (after .autostart s).seq.autostart = .armed ∧ (after .autostart s).mail.firstScans = 1 ∧
      (after .autostart u).seq.autostart = .started ∧ (after .autostart u).mail.firstScans = 0 := by
  decide +kernel

/-- Section 5.9, event 13: the delay expires, the last step marks, and the program is DONE. -/
theorem test_step_timer_ends_the_program :
    let s := withStep 8 ⟨.delay, 2000, 0⟩ <| withStep 9 ⟨.mark, 2, 0⟩ State.reset
    let s := modSeq (fun q => { q with
      state := .running, desc := some ⟨0, 10⟩, pointer := 8, phase := .waiting, stepInst := 9,
      timer := .running 2000, skips := 1 }) s
    let t := after .stepTimerExpiry s
    t.seq.state = .done ∧ t.seq.pointer = 9 ∧ t.seq.skips = 1 ∧ t.seq.phase = .none ∧
      inFlagSet t.port.flags .seqEnd = true := by decide +kernel

/-- Section 6.10, event 5: the third episode reaches the limit and sets CONSERVE. -/
theorem test_confirm_expiry_third_episode :
    let s := modRide (fun r => { r with state := .suspect, confirm := .running 200, episodes := 2 })
      State.reset
    let t := after .confirmTimerExpiry s
    t.ride.state = .bridging ∧ t.ride.bridgeLine = true ∧ t.ride.episodes = 3 ∧
      t.ride.conserve = true ∧ t.mail.rideToZone = [.conserve true, .state .bridging] := by
  decide +kernel

/-- Section 6.10, event 7: RIDE_RELEASE clears the counter and CONSERVE, at the Zone Controller too. -/
theorem test_ride_release :
    let s := modRide (fun r => { r with episodes := 3, conserve := true, window := .running 9 })
      (modZc (fun c => { c with conserve := true }) State.reset)
    let t := after (.rideRelease 1#8) s
    t.ride.episodes = 0 ∧ t.ride.conserve = false ∧ t.zc.conserve = false ∧
      inFlagSet t.port.flags .rideChange = true := by decide +kernel

/-- Section 7.7, event 3: the second WET channel meets the vote of group 2. -/
theorem test_channel_confirm_alarms :
    let s := withChannel 3 ⟨true, 0, 0, 2, false, 2000, 3⟩ ⟨.pending, 0, .running 2000⟩ <|
      withChannel 12 ⟨true, 20, 1, 2, true, 0, 3⟩ ⟨.wet, 0, .stopped⟩ <|
      withGroup 2 ⟨2, 0x4100#32⟩ .watch State.reset
    let t := after (.channelConfirmExpiry 3) s
    (channelAt t 3).state = .wet ∧ groupAt t 2 = .alarm ∧ t.leak.pattern = .fast ∧
      t.port.leakAlarm = true ∧ t.mail.leakToZone = [⟨2, .watch, .alarm⟩] := by decide +kernel

/-- Section 7.7, event 5: group 2 goes to DRYING and group 4 to ALARM in one handling; the beacon stays
FAST, and its line and timer run on. -/
theorem test_beacon_is_chosen_once :
    let s := withChannel 12 ⟨true, 20, 1, 2, true, 0, 3⟩ ⟨.wet, 0, .stopped⟩ <|
      withChannel 13 ⟨true, 20, 2, 4, true, 0, 3⟩ ⟨.dry, 0, .stopped⟩ <|
      withGroup 2 ⟨1, 0x4100#32⟩ .alarm <| withGroup 4 ⟨1, 0xC000#32⟩ .clear <|
      withNode 20 ⟨true, 1, 12, .leak, 0, true, .off, .enabled⟩ .active State.reset
    let s := modLeak (fun l => { l with
      pattern := .fast, beaconLine := false, beaconTimer := .running 77 }) s
    let t := after (.replyComplete 1 (frameBytes ⟨0#8, 0xAC#8, 0x50#8, 0#8,
      bytesOf [21, 0, 0, 22, 0, 1]⟩)) (onWire (pollExchange 20) .receiving 12 s)
    groupAt t 2 = .drying ∧ groupAt t 4 = .alarm ∧ t.leak.pattern = .fast ∧
      t.leak.beaconLine = false ∧ t.leak.beaconTimer = .running 77 := by decide +kernel

/-- R84, R142: a ZONE ON that comes after the ALARM and before its delivery is refused. -/
theorem test_zone_on_reads_the_group_as_it_stands :
    let s := withZone 8 (zoneOf 0 2) .off <| withGroup 2 ⟨2, 0x4100#32⟩ .alarm <| rack State.reset
    let t := after (.zoneOn 1#8 8#8) (modMail (fun m => { m with leakToZone := [⟨2, .clear, .alarm⟩] }) s)
    (zoneAt t 8).state = .off ∧ nth t.zc.groups 2 = .clear ∧
      t.port.responses.map (·.frame.payload) = [[0x07#8, 3#8]] := by decide +kernel

/-- R76: the completion names the INRUSH zones shed, by index descending. -/
theorem test_inrush_shed_is_completed :
    let s := withZone 3 (zoneOf 0 1) .inrush <| withZone 8 (zoneOf 2 2) .inrush <| rack State.reset
    let t := after .bridgingInrushShed (modMail (fun m => { m with rideToZone := [.state .bridging] }) s)
    t.ride.inrushShed = some [8, 3] ∧ t.zc.readmit = [8, 3] := by decide +kernel

/-- R175: a counter takes two bytes. -/
theorem test_counters_take_two_bytes :
    (rideFields (modRide (fun r => { r with episodes := 3 }) State.reset)).contains (be2 3) = true ∧
      (summaryFields (modPort (fun p => { p with errors := 2 }) State.reset)).contains
        (be2 2) = true := by decide +kernel

/-- Section 7.7, events 8 and 9: LEAK_CLEAR of a dry DRYING group clears it and releases the zone that
no other group holds. -/
theorem test_leak_clear_releases :
    let s := withGroup 2 ⟨2, 0x4100#32⟩ .drying <| withGroup 4 ⟨1, 0xC000#32⟩ .drying <|
      withZone 8 (zoneOf 0 2) .isolated <| withZone 14 (zoneOf 1 3) .isolated <| rack State.reset
    let s := modZc (fun c => { c with groups := put (put c.groups 2 .drying) 4 .drying }) s
    let t := after (.leakClear 1#8 2#8) s
    groupAt t 2 = .clear ∧ groupAt t 4 = .drying ∧ (zoneAt t 8).state = .off ∧
      (zoneAt t 14).state = .isolated := by decide +kernel

/-- Section 8.7: the events of losing and regaining the RMC, each from the state before it. -/
theorem test_keepalive_supervises_and_counts :
    let link (x : LinkState) (start errors good now : Nat) : State :=
      { modPort (fun p => { p with
          link := x, window := some ⟨start, 500, 3000⟩, errors := errors, goodRun := good })
          State.reset with now := now }
    let seen (s : State) : LinkState × Nat × Nat := (s.port.link, s.port.errors, s.port.goodRun)
    seen (after (.keepalive 0#8) State.reset) = (.supervised, 0, 0) ∧
      seen (after (.keepalive 0#8) (link .supervised 0 0 0 1000)) = (.supervised, 0, 0) ∧
      seen (after (.keepalive 0#8) (link .supervised 4000 1 0 4200)) = (.supervised, 2, 0) ∧
      seen (after (.keepalive 0#8) (link .autonomous 7200 0 0 8000)) = (.autonomous, 0, 1) ∧
      seen (after (.keepalive 0#8) (link .autonomous 8000 0 1 8300)) = (.autonomous, 0, 0) ∧
      seen (after (.keepalive 0#8) (link .autonomous 10300 0 2 11300)) = (.supervised, 0, 0) := by
  decide +kernel

/-- Section 8.7, event 5: the third error, a late one, makes the link AUTONOMOUS. -/
theorem test_close_time_makes_autonomous :
    let s := modPort (fun p => { p with
      link := .supervised, window := some ⟨4200, 500, 3000⟩, errors := 2 }) State.reset
    let t := after .keepaliveCloseTime s
    t.now = 7200 ∧ t.port.link = .autonomous ∧ t.port.errors = 0 ∧
      inFlagSet t.port.flags .linkChange = true := by decide +kernel

/-- Section 8.4: a relay of a read to segment 1 waits 120 ms in the lowest slot; a FEED_SET is
GATED. -/
theorem test_relay_takes_a_slot :
    let t := after (.relayItemRead 0x31#8 0xA7#8 [6#8]) (rack State.reset)
    (slotAt t 0).map (fun x => (x.timer, x.target)) = some (.running 120, 12) ∧
      (segAt t 1).current.map (·.ex.owner) = some (.relaySlot 0) := by decide +kernel

/-- Section 8.1: an accepted relay keeps a place for its later answer. With six responses queued one relay
is taken, and its place leaves one for the next request; with seven, its place is the last, the next
request waits in the receive buffer, and the relay's answer joins as the eighth. -/
theorem test_relay_keeps_a_place :
    let queued (n : Nat) : State := after (.relayItemRead 0x31#8 0xA7#8 [6#8]) (modPort (fun p => { p with
      responses := List.replicate n ⟨⟨1#8, 0#8, 0x20#8, 0#8, []⟩, none⟩ }) (rack State.reset))
    let next (n : Nat) : State := after (.statusSummary 0x32#8 0#8) (queued n)
    (next 6).port.rx = [] ∧ (next 6).port.responses.length = 7 ∧
      (next 7).port.rx.length = 1 ∧ (next 7).port.responses.length = 7 ∧
      (after (.relayTimerExpiry 0) (next 7)).port.responses.length = 8 := by decide +kernel

theorem test_relay_feed_set_is_gated :
    ((after (.relayFeedSet 0x31#8 0xAA#8 [0#8, 1#8]) (rack State.reset)).port.responses.map
      (·.frame.payload)) = [[0x43#8, 4#8]] := by decide +kernel

/-- Section 9.6, events 2 to 4: entries for zones 4 and 5 are written; a save makes the next answer
BUSY. -/
theorem test_table_data_writes_zones :
    let s := { State.reset with loader := ⟨some ⟨.zone, 4, 4⟩, .running 5000⟩ }
    let entry := encodeZone (zoneOf 0 1)
    let t := after (.tableData 1#8 (entry ++ encodeZone (zoneOf 1 1))) s
    t.loader = ⟨some ⟨.zone, 6, 2⟩, .running 5000⟩ ∧ zoneCfg t 4 = zoneOf 0 1 ∧
      (zoneAt t 5).adoptPending = true ∧
      t.port.responses.map (·.frame.payload) =
        [bytesOf [0x05, 0, 2, 2, 0, 255, 2]] := by decide +kernel

theorem test_table_data_during_a_save_is_busy :
    let s := { State.reset with loader := ⟨some ⟨.zone, 4, 4⟩, .running 5000⟩ }
    let u := after (.imageSave 1#8) s
    let t := after (.tableData 1#8 (encodeZone (zoneOf 0 1))) u
    t.loader = s.loader ∧ u.image.status = .invalid ∧
      t.port.responses.map (·.frame.payload) = [bytesOf [0x0E, 0], bytesOf [0x05, 1]] := by
  decide +kernel

/-- Section 10.4: the held press is accepted 20 ms after it began; a level below the filter time is
only a candidate. -/
theorem test_line_sample_accepts_a_press :
    let line (since now : Nat) : State :=
      { State.reset with
        now := now - 1
        lines := put State.reset.lines 2 ⟨some .high, some ⟨.low, since⟩, .running now⟩ }
    let t := after (.lineSample 2 (.driven .low)) (line 30 50)
    let u := after (.lineSample 2 (.driven .low)) (line 31 50)
    let v := after (.lineSample 2 (.driven .high)) (line 0 12)
    lineAt t 2 = ⟨some .low, none, .running 51⟩ ∧ t.zc.epoLatch = true ∧
      lineAt u 2 = ⟨some .high, some ⟨.low, 31⟩, .running 51⟩ ∧ u.zc.epoLatch = false ∧
      lineAt v 2 = ⟨some .high, none, .running 13⟩ := by decide +kernel

/-- Section 11.3: requests decode from the kinds and payloads the section lists, written out. -/
theorem test_requests_decode :
    parseRequest 0x01#8 [] = some .keepalive ∧
      parseRequest 0x02#8 (bytesOf [7, 3]) = some (.status .segment 3#8) ∧
      parseRequest 0x03#8 (bytesOf [0, 0, 0x10, 1]) = some (.flagTake 0x1001#32) ∧
      parseRequest 0x04#8 (bytesOf [2, 4, 2]) = some (.tableLoad .zone 4#8 2#8) ∧
      parseRequest 0x07#8 (bytesOf [31, 2]) = some (.zone 31#8 .reset) ∧
      parseRequest 0x07#8 (bytesOf [31, 3]) = none ∧
      parseRequest 0x08#8 (bytesOf [0, 10]) = some (.seqRun 0#8 10#8) ∧
      parseRequest 0x0D#8 (bytesOf [47, 1]) = some (.node 47#8 true) ∧
      parseRequest 0x10#8 (bytesOf [1]) = some (.reset true) ∧
      parseRequest 0x10#8 [] = none := by decide +kernel

/-- Section 11.6: the entries decode as the section lays them out, with every field at its bounds. -/
theorem test_entries_decode :
    decodeNode (bytesOf [1, 3, 30, 2, 0xFF, 0xFF, 1, 2, 1]) =
        some ⟨true, 3, 30, .feed, 65535, true, .every, .disabled⟩ ∧
      decodeZone (bytesOf [1, 47, 3, 3, 1, 2, 3, 4, 5, 6, 7]) =
        some ⟨true, 47, 3, 3, 258, 772, 1286, 7⟩ ∧
      decodeStep (bytesOf [5, 1, 0, 0xEA, 0x60]) = some ⟨.mark, 256, 60000⟩ ∧
      decodeLeakMap (bytesOf [2, 0x80, 0, 0x41, 0]) = some ⟨2, 0x80004100#32⟩ ∧
      decodeSetting (bytesOf [0, 1, 0x51, 0x80]) = some 86400 := by decide +kernel

/-! ## Witnesses: the hypotheses of each obligation, met together -/

/-- The shelf with the port changed. -/
def shelfPort (f : Port → Port) : State := modPort f shelf

/-- A relay slot of entry 4 that waits for its answer. -/
def waitingRelay : Option RelaySlot := some ⟨0#8, 4, false, 0xA3#8, 0x40#8, 120, .running 120, .waiting⟩

/-- A link record at a time. -/
def linkAt (x : LinkState) (start errors good now : Nat) : State :=
  { modPort (fun p => { p with
      link := x, window := some ⟨start, 500, 3000⟩, errors := errors, goodRun := good }) shelf with
    now := now }

/-- The shelf with an armed autostart from step 60 and `n` first-scan reports that wait; every enabled
segment's first scan is COMPLETE where `scanned` holds. -/
def armed (scanned : Bool) (n : Nat) : State :=
  let s := withSetting 19 60 <| withSetting 20 2 <| withStep 60 ⟨.waitHeadroom, 0, 9⟩ <|
    modSeq (fun q => { q with autostart := .armed }) (shelfMail fun m => { m with firstScans := n })
  (List.range 4).foldl (fun s i => modSeg i (fun g => { g with
    firstScan := if scanned then .complete else .pending }) s) s

/-- The shelf with a command waiting. -/
def shelfStep : State := { shelf with pending := [.channelConfirmExpiry 3] }

theorem witness_StepTakesTheFrontCommand :
    ({ shelf with pending := [.transmitStart] } : State).pending = [.transmitStart] ∧
      shelf.pending = [] := by decide

/-- The premises of the invariants, met by a state that is not the reset state, and a step from it. -/
theorem witness_StepKeeps_lines :
    PortLaw shelfStep ∧ BridgingToldLaw shelfStep ∧ BridgeLaw shelfStep ∧ LeakLaw shelfStep := by
  decide +kernel

/-- Seven responses queued and a relay that waits: the places are all filled or kept. -/
theorem witness_StepKeeps_places :
    KeptPlaceLaw { shelfPort (fun p => { p with
      responses := List.replicate 7 ⟨⟨1#8, 0#8, 0x20#8, 0#8, []⟩, none⟩
      slots := put p.slots 7 waitingRelay }) with pending := [.transmitStart] } := by decide +kernel

theorem witness_StepKeeps_exchanges : SegmentLaw shelfStep ∧ GateLaw shelfStep := by decide +kernel

theorem witness_StepKeeps_zones : ZoneListsLaw shelfStep ∧ CapacityLaw shelfStep := by decide +kernel

theorem witness_StepKeeps_admission : AdmissionLaw shelfStep := by decide +kernel

theorem witness_StepKeeps_isolation : IsolationLaw shelfStep := by decide +kernel

theorem witness_StepKeeps_figures : FiguresLaw shelfStep ∧ NodeLaw shelfStep := by decide +kernel

theorem witness_StepKeeps_settings : SettingsLaw shelfStep ∧ ProgramLaw shelfStep := by decide +kernel

theorem witness_StepKeeps_steps : ∃ t, step shelfStep = .next t := ⟨_, rfl⟩

theorem witness_ColdResetStartsEveryBlock :
    let t := after .powerOnReset shelf
    (shelfPort fun p => { p with reset := .due .hard }).port.reset = .due .hard ∧
      inFlagSet t.port.flags .leakFault = false ∧ inFlagSet t.port.flags .leakAlarm = false := by
  decide +kernel

theorem witness_SoftResetKeepsTables :
    let s := withGroup 2 ⟨1, 1#32⟩ .alarm (shelfPort fun p => { p with reset := .due .soft })
    let t := after .softReset (withChannel 3 ⟨false, 0, 0, 0, false, 0, 1⟩ ⟨.dry, 0, .stopped⟩
      (shelfPort fun p => { p with reset := .due .soft }))
    s.port.reset = .due .soft ∧ groupAt s 2 = .alarm ∧ shelf.port.reset ≠ .due .soft ∧
      shelf.port.reset ≠ .due .hard ∧ inFlagSet t.port.flags .leakFault = false ∧
      inFlagSet t.port.flags .leakAlarm = false := by decide +kernel

/-- A request is taken at once on the shelf: the hypothesis of every request's statement. -/
theorem witness_Ready : Ready shelf := by decide +kernel

theorem witness_ResponsesAreSentBeforeReports_reset :
    Ready shelf ∧ (shelfPort fun p => { p with reset := .asked .soft }).port.reset ≠ .none ∧
      (shelfPort fun p => { p with sending := some ⟨[0#8], some .soft⟩ }).port.sending =
        some ⟨[0#8], some .soft⟩ := by decide +kernel

theorem witness_ReceivedFramesAreJudged :
    (⟨0#8, 1#8, 5#8, 0#8, List.replicate 240 0#8⟩ : Frame).payload.length ≤ 240 ∧
      (∀ f : Frame, f.payload.length ≤ 240 → frameBytes f ≠ []) ∧
      arrivingFrame (.seqStop 1#8) = some ⟨0#8, 1#8, 9#8, 1#8, []⟩ ∧
      (shelfPort fun p => { p with rx := [⟨0#8, 1#8, 9#8, 1#8, []⟩] }).port.rx ≠ [] ∧
      (let full := shelfPort fun p => { p with
        responses := List.replicate 8 ⟨⟨1#8, 0#8, 0x20#8, 0#8, []⟩, none⟩ }
       8 ≤ full.port.responses.length + keptPlaces full) ∧
      (let owed := shelfPort fun p => { p with slots := Vector.replicate 8 waitingRelay }
       8 ≤ owed.port.responses.length + keptPlaces owed) ∧
      (shelfPort fun p => { p with answering := [0] }).port.answering ≠ [] := by
  refine ⟨Nat.le_of_eq List.length_replicate, fun f _ h => ?_, rfl, by decide, by decide, by decide,
    by decide⟩
  simp [frameBytes, frameBody] at h

theorem witness_BufferedFrameIsServedAsItsCommand :
    let f : Frame := ⟨0#8, 1#8, 9#8, 1#8, []⟩
    let bad : Frame := ⟨0#8, 1#8, 9#8, 1#8, [0#8]⟩
    let s := shelfPort fun p => { p with rx := [f] }
    arrivingFrame (.seqStop 1#8) = some f ∧ s.port.rx = [f] ∧
      s.port.responses.length + keptPlaces s < 8 ∧
      s.port.answering = [] ∧ s.port.reset = .none ∧ bad.dst = supervisorByte ∧
      parseRequest bad.kind bad.payload = none ∧ shelf.port.rx = [] := by decide +kernel

theorem witness_ResponsesAreSentBeforeReports :
    let r : Response := ⟨⟨1#8, 0#8, 0x20#8, 0#8, []⟩, none⟩
    let s := shelfPort fun p => { p with responses := [r] }
    (shelfPort fun p => { p with sending := some ⟨[], none⟩ }).port.sending = some ⟨[], none⟩ ∧
      s.port.sending = none ∧ s.port.responses = r :: [] ∧ shelf.port.responses = [] ∧
      shelf.port.reports = noticeFrame 0 0 [0x00#8, 0x00#8] :: [noticeFrame 5 1 [0x04#8]] ∧
      (shelfPort fun p => { p with reports := [] }).port.reports = [] := by decide +kernel

/-- The bounds of the window are 500 and 3000: the times 499, 500, 2999 and 3000 after its start. -/
theorem witness_KeepaliveIsCounted :
    let late := after (.keepalive 1#8) (linkAt .supervised 0 2 0 3000)
    Ready shelf ∧ shelf.port.link = .unarmed ∧ Ready (linkAt .supervised 0 2 0 3000) ∧
      late.port.link ≠ (linkAt .supervised 0 2 0 3000).port.link ∧
      (after (.keepalive 1#8) (linkAt .supervised 0 1 0 2999)).port.link = .supervised ∧
      errorThreshold shelf ≤ 2 + 1 ∧ ¬errorThreshold shelf ≤ 1 + 1 ∧
      (500 ≤ 500 - 0 ∧ 500 - 0 < 3000) ∧ (500 ≤ 2999 - 0 ∧ 2999 - 0 < 3000) ∧
      (linkAt .autonomous 0 0 2 500).port.window = some ⟨0, 500, 3000⟩ := by decide +kernel

theorem witness_KeepaliveIsCounted_closeTime :
    shelf.port.window = none ∧ (linkAt .supervised 0 2 0 0).port.window = some ⟨0, 500, 3000⟩ ∧
      (linkAt .unarmed 0 0 0 0).port.link = .unarmed ∧
      (linkAt .autonomous 0 0 1 0).port.link = .autonomous ∧
      errorThreshold (linkAt .supervised 0 2 0 0) ≤ 2 + 1 := by decide +kernel

/-- Flag 23 is the last one; bit 24 names none. -/
theorem witness_FlagsAreNoticedAndTaken_take :
    Ready shelf ∧ (0x01000000#32 : BitVec 32) >>> 24 ≠ 0#32 ∧
      (0x00FFFFFF#32 : BitVec 32) >>> 24 = 0#32 := by decide +kernel

/-- A queue of 15 notices has room for one more, and one of 16 has none. -/
theorem witness_FlagsAreNoticedAndTaken :
    let queued (n : Nat) : State := withSetting 32 16777215
      (shelfPort fun p => { p with reports := List.replicate n (noticeFrame 0 0 []) })
    let f : Frame := ⟨0#8, 1#8, 9#8, 1#8, []⟩
    inFlagSet (noticeMask (withSetting 32 0 shelf)) .limit = false ∧
      inFlagSet (noticeMask (queued 15)) .limit = true ∧ (queued 15).port.reports.length < 16 ∧
      16 ≤ (queued 16).port.reports.length ∧ EventFlag.limit ≠ .noticeLost ∧
      inFlagSet (noticeMask (queued 15)) .noticeLost = true ∧
      inFlagSet (noticeMask (withSetting 32 512 (queued 16))) .noticeLost = false ∧
      inFlagSet (noticeMask (withSetting 32 512 (queued 16))) .limit = true ∧
      f.payload.length ≤ 240 ∧ f.src = rmcByte ∧ f.dst = supervisorByte ∧
      4 ≤ (shelfPort fun p => { p with rx := [f, f, f, f] }).port.rx.length := by decide +kernel

theorem witness_StatusRequestsOnlyAnswer :
    Ready shelf ∧ (partsOf (summaryFields shelf))[(0#8).toNat]?.isSome = true ∧
      (partsOf (summaryFields shelf)).length ≤ (255#8).toNat ∧
      (∀ f ∈ summaryFields shelf, f.length ≤ 235) := by decide +kernel

theorem witness_TableDataIsCounted_load :
    let s := { shelf with image := { shelf.image with saving := some Tables.empty } }
    let u := { shelf with loader := ⟨some ⟨.zone, 4, 4⟩, .running 9⟩ }
    Ready s ∧ s.image.saving.isSome = true ∧ shelf.image.saving = none ∧
      tableSize .zone ≤ (32#8).toNat ∧ tableSize .zone < (31#8).toNat + (2#8).toNat ∧
      (31#8).toNat + (1#8).toNat ≤ tableSize .zone ∧ Ready u ∧ u.loader.record.isSome = true ∧
      shelf.loader.record = none ∧ u.loader = ⟨some ⟨.zone, 4, 4⟩, .running 9⟩ ∧
      shelf.loader.timer = .stopped := by decide +kernel

theorem witness_TableDataIsCounted :
    let s := { shelf with image := { shelf.image with saving := some Tables.empty } }
    let u := { shelf with loader := ⟨some ⟨.zone, 4, 4⟩, .running 9⟩ }
    Ready s ∧ s.image.saving.isSome = true ∧ Ready shelf ∧ shelf.image.saving = none ∧
      shelf.loader.record = none ∧ Ready u ∧ u.image.saving = none ∧
      u.loader.record = some ⟨.zone, 4, 4⟩ ∧ 1 % entrySize .zone ≠ 0 ∧ 22 % entrySize .zone = 0 := by
  decide +kernel

/-- The first and the last setting, and the partners. -/
theorem witness_SettingIsWrittenWithinItsRange :
    ∀ k ∈ [0, 19, 20, 32, 35, 36, 40],
      let s := { shelf with loader := ⟨some ⟨.settings, k, 1⟩, .running 9⟩ }
      Ready s ∧ s.image.saving = none ∧ s.loader.record = some ⟨.settings, k, 0 + 1⟩ ∧ k < 41 := by
  decide +kernel

/-- Zones 6 and 10 in INRUSH, the slot count at 3, and re-admission open or not: the count written 2
leaves no surplus, and written 1 or 0 it leaves zone 10. -/
theorem witness_SettingIsWrittenWithinItsRange_slots :
    let s (open' : Bool) : State :=
      let s := modZone 10 (fun r => { r with state := .inrush }) shelf
      let s := modZc (fun c => { c with readmit := [] }) (withSetting 15 3 (withSetting 17 0 s))
      let s := { s with loader := ⟨some ⟨.settings, 15, 0 + 1⟩, .running 9⟩ }
      if open' then modZc (fun c => { c with cap := .balanced, ride := .normal, link := .supervised }) s
      else s
    Ready (s true) ∧ (s true).image.saving = none ∧ ZoneListsLaw (s true) ∧ ZoneListsLaw (s false) ∧
      inrushCount (s true) = 2 ∧ slotCount (s true) = 3 ∧ readmitOpen (s true) = true ∧
      readmitOpen (s false) = false ∧ max 1 (min 4 2) ≠ slotCount (s true) ∧
      max 1 (min 4 0) ≠ slotCount (s true) ∧
      (after (.tableData 1#8 (be4 1)) (s false)).zc.readmit = [10] ∧
      (zoneAt (after (.tableData 1#8 (be4 0)) (s true)) 10).state = .queued := by decide +kernel

/-- An enable that is set, with the start condition then met and not met, and one that is cleared. -/
theorem witness_SettingIsWrittenWithinItsRange_autostart :
    let load (enable : Nat) (s : State) : State :=
      { withSetting 9 enable s with loader := ⟨some ⟨.settings, 3 * 3, 0 + 1⟩, .running 9⟩ }
    let off (scanned : Bool) : State := load 0 <| modSeg 3 (fun g => { g with
      state := .disabled, pollTimer := .stopped }) (armed scanned 0)
    let started (s : State) (v : Nat) : Bool :=
      (after (.tableData 1#8 (be4 v)) s).seq.autostart == .started
    Ready (off true) ∧ segEnabled (off true) 3 = false ∧ (segAt (off true) 3).state = .disabled ∧
      started (off true) 1 = true ∧ started (off false) 1 = false ∧
      started (load 1 (armed true 0)) 0 = true ∧ started (load 1 (armed false 0)) 0 = false ∧
      SettingsLaw (off true) ∧ SettingsLaw (load 1 (armed true 0)) := by
  decide +kernel

/-- Segments 1 and 3, of which 1 carries exchanges of every kind and 3 is disabled; value 1 enables. -/
theorem witness_SettingIsWrittenWithinItsRange_segments :
    let load (i : Nat) (s : State) : State := { s with loader := ⟨some ⟨.settings, 3 * i, 1⟩, .running 9⟩ }
    let off := load 3 (withSetting 9 0 (modSeg 3 (fun g => { g with
      state := .disabled, pollTimer := .stopped }) shelf))
    let relayed : Exchange := ⟨.poll, 4, .relay 0x40#8 7#8 [], .relaySlot 7, false⟩
    let disable := feedExchange 9 3 false
    let enable := feedExchange 9 2 true
    let slot : RelaySlot := ⟨7#8, 4, false, 0xA3#8, 0x40#8, 120, .running 120, .waiting⟩
    let on := load 1 (modSeg 1 (fun g => { g with queue := [disable, enable, relayed] })
      (shelfPort fun p => { p with slots := put p.slots 7 (some slot) }))
    Ready off ∧ off.image.saving = none ∧ off.loader.record = some ⟨.settings, 3 * 3, 0 + 1⟩ ∧
      segEnabled off 3 = false ∧ (segAt off 3).state = .disabled ∧ Ready on ∧
      on.loader.record = some ⟨.settings, 3 * 1, 0 + 1⟩ ∧ segEnabled on 1 = true ∧
      (segAt on 1).state ≠ .disabled ∧ (nodeCfg on 4).inUse = true ∧ (nodeCfg on 4).segment = 1 ∧
      (nodeAt on 4).state ≠ .disabled ∧ (nodeAt on 4).state ≠ .lost ∧
      relayed ∈ (segAt on 1).queue ∧ slotAt on 7 = some slot ∧ ZoneListsLaw on ∧
      disable ∈ (segAt on 1).queue ∧ zoneOfPair on 9 3 = some 10 ∧ runs on 10 = false ∧
      enable ∈ (segAt on 1).queue ∧ zoneOfPair on 9 2 = some 6 ∧ (zoneAt on 6).state = .inrush ∧
      (zoneAt on 6).acked = false ∧ disable.kind = .feedSet 3 false ∧ enable.kind = .feedSet 2 true := by
  decide +kernel

/-- An acceptable NODE entry, the last of its table. -/
theorem witness_AcceptedEntriesAreStored_node :
    let load (table : TableId) (k : Nat) (s : State) : State :=
      { s with loader := ⟨some ⟨table, k, 1⟩, .running 9⟩ }
    let node := rectifier 3 30 65535
    Ready (load .node 47 shelf) ∧ (load .node 47 shelf).image.saving = none ∧
      (load .node 47 shelf).loader.record = some ⟨.node, 47, 1⟩ ∧ 47 < tableSize .node ∧
      (encodeNode node).length = entrySize .node ∧ decodeNode (encodeNode node) = some node ∧
      (nodeCfg shelf 47).inUse = false ∧ node.segment ≤ 3 ∧ 1 ≤ node.address ∧ node.address ≤ 30 ∧
      (∀ j < 48, j ≠ 47 → (nodeCfg shelf j).inUse = true →
        (nodeCfg shelf j).segment ≠ 3 ∨ (nodeCfg shelf j).address ≠ 30) ∧
      (∀ i < 4, (segAt shelf i).queue.any (isDisableFor 47) = false ∧
        (segAt shelf i).current.toList.any (fun x => isDisableFor 47 x.ex) = false) ∧
      ∀ z < 32, (zoneCfg shelf z).inUse = true → (zoneCfg shelf z).feedEntry = 47 →
        (zoneAt shelf z).disablePending = false := by
  decide +kernel

/-- An acceptable entry of each other table: the last one of the table, its owner ready. -/
theorem witness_AcceptedEntriesAreStored :
    let line : LineCfg := ⟨false, .pullDown, .high, 65535, 255⟩
    23 < tableSize .limit ∧ Ready shelf ∧ 31 < tableSize .zone ∧
      (zoneAt shelf 31).state = .off ∧ (zoneAt shelf 31).disablePending = false ∧
      (∀ y < 32, y ≠ 31 → (zoneCfg shelf y).inUse = true →
        (zoneCfg shelf y).feedEntry ≠ 47 ∨ (zoneCfg shelf y).output ≠ 3) ∧
      31 < tableSize .leakChannel ∧ (channelCfg shelf 31).inUse = false ∧
      groupAt shelf 7 ≠ .alarm ∧ groupAt shelf 7 ≠ .drying ∧
      7 < tableSize .leakMap ∧ groupAt shelf 7 = .clear ∧ 63 < tableSize .sequence ∧
      shelf.seq.state ≠ .running ∧ shelf.seq.state ≠ .held ∧
      decodeStep (encodeStep ⟨.mark, 256, 0⟩) = some ⟨.mark, 256, 0⟩ ∧ 10 < tableSize .line ∧
      decodeLine (encodeLine line) = some line ∧ (lineCfg shelf 10).enable ≠ line.enable := by
  decide +kernel

/-- The further conditions under which an entry is refused, fields one past their ranges. -/
theorem witness_RefusedEntriesChangeNoTable_more :
    let locked := withGroup 2 ⟨2, 0#32⟩ .alarm shelf
    let disabling := modSeg 1 (fun g => { g with queue := [feedExchange 9 2 false] }) shelf
    let owing := modZone 0 (fun r => { r with disablePending := true }) shelf
    let refused (c : NodeCfg) : Bool := decide (c.segment ≤ 3 ∧ 1 ≤ c.address ∧ c.address ≤ 30)
    decodeNode (bytesOf [1, 0, 1, 4, 0, 0, 1, 0, 0]) = none ∧ refused (rectifier 4 1 0) = false ∧
      refused (rectifier 0 0 0) = false ∧ refused (rectifier 0 31 0) = false ∧
      (nodeCfg shelf 4).segment = 1 ∧ (nodeCfg shelf 4).address = 3 ∧
      (segAt disabling 1).queue.any (isDisableFor 9) = true ∧
      (zoneCfg owing 0).feedEntry = 9 ∧ (zoneCfg owing 0).inUse = true ∧
      (zoneAt owing 0).disablePending = true ∧ (zoneCfg shelf 0).output = 0 ∧
      47 < (zoneOf 0 0).feedEntry + 39 ∧ groupAt locked (channelCfg locked 3).group = .alarm ∧
      decodeStep (bytesOf [6, 0, 0, 0, 0]) = none ∧ Ready locked ∧ Ready disabling ∧ Ready owing := by
  decide +kernel

/-- Each of the five conditions under which an entry is refused. -/
theorem witness_RefusedEntriesChangeNoTable :
    let load (table : TableId) (k : Nat) (s : State) : State :=
      { s with loader := ⟨some ⟨table, k, 1⟩, .running 9⟩ }
    let running := modSeq (fun q => { q with state := .running, desc := some ⟨3, 2⟩ }) shelf
    Ready (load .node 4 shelf) ∧ (nodeCfg shelf 4).inUse = true ∧ (nodeAt shelf 4).state ≠ .disabled ∧
      (zoneAt shelf 0).state ≠ .off ∧ (channelCfg shelf 3).inUse = true ∧
      (channelAt shelf 3).state = .pending ∧ groupAt shelf 2 ≠ .clear ∧
      Ready (load .sequence 4 running) ∧ running.seq.state = .running ∧
      running.seq.desc = some ⟨3, 2⟩ ∧ 3 ≤ 4 ∧ 4 < 3 + 2 ∧
      (encodeNode (rectifier 1 3 0)).length = entrySize .node := by decide +kernel

/-- The last entry of a table, and one past it. -/
theorem witness_TableReadReturnsWholeEntries :
    Ready shelf ∧ tableSize .settings ≤ (41#8).toNat ∧
      tableSize .settings < (40#8).toNat + (2#8).toNat ∧ (1#8 : Byte) ≠ 0#8 ∧
      (40#8).toNat < tableSize .settings ∧ (40#8).toNat + (1#8).toNat ≤ tableSize .settings := by
  decide +kernel

/-- Entries with every field at the greatest value its width admits. -/
theorem witness_TableEntriesDecodeAsEncoded :
    let node : NodeCfg := ⟨true, 255, 255, .leak, 65535, true, .every, .disabled⟩
    let limit : LimitCfg := ⟨true, 65535, 65535, 65535, 255, .degrade, 65535⟩
    let zone : ZoneCfg := ⟨true, 255, 255, 255, 65535, 65535, 65535, 255⟩
    let channel : ChannelCfg := ⟨true, 255, 255, 255, true, 65535, 255⟩
    let line : LineCfg := ⟨true, .pullDown, .high, 65535, 255⟩
    decodeNode (encodeNode node) = some node ∧ decodeLimit (encodeLimit limit) = some limit ∧
      decodeZone (encodeZone zone) = some zone ∧ decodeChannel (encodeChannel channel) = some channel ∧
      decodeLeakMap (encodeLeakMap ⟨255, 0xFFFFFFFF#32⟩) = some ⟨255, 0xFFFFFFFF#32⟩ ∧
      decodeStep (encodeStep ⟨.mark, 65535, 65535⟩) = some ⟨.mark, 65535, 65535⟩ ∧
      decodeLine (encodeLine line) = some line ∧
      decodeSetting (be4 4294967295) = some 4294967295 := by decide +kernel

theorem witness_SavedTablesAreRestored_erase :
    let s := { shelf with image := { shelf.image with saving := some Tables.empty } }
    Ready s ∧ s.image.saving.isSome = true ∧ Ready shelf ∧ shelf.image.saving = none := by
  decide +kernel

theorem witness_SavedTablesAreRestored :
    let s := { shelf with image := { shelf.image with saving := some Tables.empty } }
    Ready s ∧ s.image.saving = some Tables.empty ∧ shelf.image.saving = none := by decide +kernel

/-- The zones' conditions: past the table, under the latch, in each state, held by a group. -/
theorem witness_ZoneIsQueuedOnRequest :
    let latched := modZc (fun c => { c with epoLatch := true }) shelf
    let held := withGroup 2 ⟨2, 0x1000#32⟩ .alarm
      (modZc (fun c => { c with groups := put c.groups 2 .alarm })
        (withZone 12 (zoneOf 3 3) .off shelf))
    let off := withZone 31 ⟨true, 5, 0, 1, 60, 50, 2000, 3⟩ .off shelf
    31 < (32#8).toNat ∧ (31#8).toNat ≤ 31 ∧ Ready latched ∧ latched.zc.epoLatch = true ∧
      shelf.zc.epoLatch = false ∧ (zoneCfg shelf 1).inUse = false ∧ Ready held ∧
      (zoneAt held 12).state = .off ∧ leakHolds held 12 = true ∧ (zoneCfg shelf 8).inUse = true ∧
      (zoneAt shelf 8).state = .queued ∧ runs shelf 0 = true ∧ Ready off ∧
      (zoneCfg off 31).inUse = true ∧ (zoneAt off 31).state = .off ∧ leakHolds off 31 = false ∧
      admissionOpen (modZc (fun c => { c with ride := .suspect }) off) = false := by decide +kernel

theorem witness_ZonesAreTakenOffAndCleared :
    Ready shelf ∧ ZoneListsLaw shelf ∧ 31 < (32#8).toNat ∧ (zoneAt shelf 31).state = .off ∧
      (zoneAt shelf 8).state = .queued ∧ (zoneAt shelf 10).state = .shed ∧ runs shelf 0 = true ∧
      runs shelf 6 = true := by decide +kernel

theorem witness_ZonesAreTakenOffAndCleared_clear :
    let locked := withZone 31 (zoneOf 3 3) .lockout shelf
    let latch (line : Bool) : State := modZc (fun c => { c with epoLatch := true, epoLine := line }) shelf
    Ready locked ∧ 31 < (32#8).toNat ∧ (zoneAt locked 31).state = .lockout ∧
      (zoneAt shelf 31).state ≠ .lockout ∧ Ready (latch true) ∧ (latch true).zc.epoLine = true ∧
      shelf.zc.epoLatch = false ∧ (latch false).zc.epoLatch = true ∧ (latch false).zc.epoLine = false ∧
      ZoneListsLaw (latch false) ∧ (zoneAt (latch false) 0).state ≠ .queued ∧
      (modZc (fun c => { c with queue := [] }) (latch false)).zc.queue = [] := by decide +kernel

/-- The queue of one zone, with admission open: granted, passed over and not fitting. -/
theorem witness_ArbiterGrantsTheFirstThatFits :
    let s (available : Nat) : State :=
      modCap (fun c => { c with available := available }) <|
        modZc (fun c => { c with cap := .balanced, ride := .normal, link := .supervised }) <|
        modZone 8 (fun r => { r with retry := .running 7 }) (withSetting 15 2 (withGroup 2 ⟨2, 0x4000#32⟩ .watch shelf))
    let ended (s : State) : State := modZone 8 (fun r => { r with retry := .stopped }) (atTime 7 s)
    ZoneListsLaw (s 170) ∧ (zoneAt (s 170) 8).retry = .running 7 ∧ ¬ArbiterRests (ended (s 170)) ∧
      (ended (s 170)).zc.queue.find? (eligible (ended (s 170))) = some 8 ∧
      slotCount (s 170) = inrushCount (ended (s 170)) + 1 ∧ ArbiterRests (ended (s 169)) ∧
      ArbiterRests (ended shelf) := by decide +kernel

theorem witness_ArbiterGrantsTheFirstThatFits_segments :
    SegmentLaw (modZone 8 (fun r => { r with retry := .running 7 }) shelf) := by decide +kernel

/-- Zone 6's window runs, after `attempts` failures. -/
def windowed (attempts : Nat) : State :=
  modZone 6 (fun r => { r with inrush := .running 7, attempts := attempts }) shelf

theorem witness_FailedAttemptRetriesOrLocksOut_window :
    ZoneListsLaw (windowed 2) ∧ (zoneAt (windowed 2) 6).state = .inrush ∧
      (zoneAt (windowed 2) 6).inrush = .running 7 ∧
      (zoneAt (windowed 2) 6).attempts + 1 = (zoneCfg (windowed 2) 6).lockout ∧
      (zoneAt (windowed 1) 6).attempts + 1 ≠ (zoneCfg (windowed 1) 6).lockout ∧
      retryDelay (windowed 1) ≠ 0 ∧ retryDelay (withSetting 16 0 (windowed 1)) = 0 := by
  decide +kernel

theorem witness_FailedAttemptRetriesOrLocksOut_retry :
    let q := modZone 8 (fun r => { r with retry := .running 7 }) shelf
    ZoneListsLaw q ∧ (zoneAt q 8).state = .queued ∧ (zoneAt q 8).retry = .running 7 ∧
      (zoneAt shelf 31).inrush = .stopped ∧ (zoneAt shelf 31).retry = .stopped := by decide +kernel

theorem witness_FailedAttemptRetriesOrLocksOut_law :
    ZoneListsLaw (windowed 1) ∧ ZoneListsLaw (withSetting 16 0 (windowed 1)) := by decide +kernel

/-- Zone 6 in a state, and the reply of its feed node 9 on the wire. -/
def zone6At (x : ZoneState) (acked adopt : Bool) : State :=
  modZc (fun c => { c with readmit := if x = .shed then [6, 10] else [10] }) <|
    modZone 6 (fun r => { r with state := x, acked := acked, adoptPending := adopt }) <|
    onWire (pollExchange 9) .receiving 10 shelf

/-- Each state that a Z_STATE reading acts on, and a reading. -/
theorem witness_FeedReportMovesTheZone :
    let c : Current := ⟨pollExchange 9, .receiving, 0xAA#8, [], 10, .stopped, false⟩
    let f : Frame := ⟨0#8, 0xAA#8, 0x50#8, 0#8, bytesOf [18, 0, 1]⟩
    (segAt (zone6At .on false false) 1).current = some c ∧ goodReply c (frameBytes f) = some f ∧
      f.kind = telemetryByte ∧ (nodeCfg shelf 9).inUse = true ∧
      (nodeCfg shelf 9).kind = .feed ∧ (nodeAt shelf 9).state ≠ .disabled ∧
      zoneOfPair shelf 9 2 = some 6 ∧ (itemsTaken .feed f.payload) = [⟨18, 1⟩] := by decide +kernel

theorem witness_FeedReportMovesTheZone_lists :
    ZoneListsLaw (zone6At .inrush true false) ∧ ZoneListsLaw (zone6At .on false false) ∧
      ZoneListsLaw (zone6At .off false true) ∧ ZoneListsLaw (zone6At .shed false false) :=
  ⟨by decide +kernel, by decide +kernel, by decide +kernel, by decide +kernel⟩

/-- A zone that stays QUEUED, zone 6, which the reading of its output does not grant. -/
theorem witness_FeedReportMovesTheZone_queued :
    let s := modZc (fun c => { c with queue := [6, 8] }) (zone6At .queued false false)
    ZoneListsLaw s ∧ (zoneAt s 6).state = .queued := by decide +kernel

theorem witness_FeedReportMovesTheZone_segments :
    SegmentLaw (zone6At .on false false) := by decide +kernel

/-- The three ways in which an adopted zone that reads good is switched off, and none of them. -/
theorem witness_FeedReportMovesTheZone_adoption :
    let s := zone6At .off false true
    let held := withGroup 2 ⟨2, 0x40#32⟩ .alarm s
    let latched := modZc (fun c => { c with epoLatch := true }) s
    let barred := modZc (fun c => { c with link := .autonomous, action := .shed, shedTier := 1 }) s
    leakHolds held 6 = true ∧ leakHolds latched 6 = false ∧ latched.zc.epoLatch = true ∧
      leakHolds barred 6 = false ∧ barred.zc.epoLatch = false ∧ linkBars barred 6 = true ∧
      leakHolds s 6 = false ∧ s.zc.epoLatch = false ∧ linkBars s 6 = false := by decide +kernel

theorem witness_ShedRequestsAreCarriedOut :
    let s := shelfMail fun m => { m with
      capShed := [[6, 0, 31]], planShed := [[0]], rideToZone := [.conserve true, .state .bridging] }
    [6, 0, 31].Nodup ∧ (∀ z ∈ [6, 0, 31], z < 32) ∧ s.zc.ride ≠ .normal ∧
      s.mail.capShed = [6, 0, 31] :: [] ∧ s.mail.planShed = [0] :: [] ∧
      s.mail.rideToZone.find? (fun x => !isConserve x) = some (.state .bridging) ∧
      shelf.mail.rideToZone.find? (fun x => !isConserve x) ≠ some (.state .bridging) := by
  decide +kernel

/-- Re-admission open, and a request that names running zones and one that does not run. -/
theorem witness_ShedRequestsAreCarriedOut_open :
    let s := modZc (fun c => { c with cap := .balanced, ride := .normal, link := .supervised })
      (withSetting 17 0 (shelfMail fun m => { m with capShed := [[6, 0, 31]], planShed := [[0]] }))
    ZoneListsLaw s ∧ readmitOpen s = true ∧ runs s 6 = true ∧ runs s 0 = true ∧
      s.mail.capShed = [6, 0, 31] :: [] ∧ s.mail.planShed = [0] :: [] := by decide +kernel

/-- Two shed requests and a QUEUED zone that lacks only a slot, with admission open. -/
def shedding : State :=
  modCap (fun c => { c with available := 170 }) <|
    modZc (fun c => { c with cap := .balanced, ride := .normal, link := .supervised }) <|
    modZone 8 (fun r => { r with retry := .stopped }) <| withSetting 17 1 <|
    withGroup 2 ⟨2, 0x4000#32⟩ .watch <|
    shelfMail fun m => { m with capShed := [[6, 0, 31]], planShed := [[0]] }

/-- Re-admission closed by CONSERVE alone, by the link alone and by the energy figure alone. -/
theorem witness_ShedRequestsAreCarriedOut_closed :
    ZoneListsLaw shedding ∧
      readmitOpen (modZc (fun c => { c with conserve := true, energy := 1 }) shedding) = false ∧
      readmitOpen (modZc (fun c => { c with
        link := .autonomous, action := .shed, energy := 1 }) shedding) = false ∧
      readmitOpen (modZc (fun c => { c with energy := 0 }) shedding) = false ∧
      shedding.mail.capShed = [6, 0, 31] :: [] ∧ shedding.mail.planShed = [0] :: [] := by
  decide +kernel

/-- The shed of zone 6 frees the slot that zone 8 is granted. -/
theorem witness_ShedRequestsAreCarriedOut_granted :
    let s := modZc (fun c => { c with energy := 0 }) shedding
    (zoneAt s 8).state = .queued ∧
      (zoneAt (after .capacityShedTaken s) 8).state = .inrush := by decide +kernel

/-- Reserve counts below and above the number of contributions, two, and none. -/
theorem witness_AvailablePowerHoldsTheReserve :
    let s (k : Nat) : State := withSetting 13 k shelf
    SettingsFit shelf.tables.settings ∧
      ((contributors shelf).map (contribution shelf)).length = 2 ∧ reserveCount (s 3) = 3 ∧
      reserveCount (s 2) = 2 ∧ reserveCount (s 1) = 1 ∧ reserveCount (s 0) = 0 ∧
      (recomputeAvailable (s 2)).cap.available = 0 ∧
      (recomputeAvailable (s 0)).cap.available = 6600 := by decide +kernel

theorem witness_CapacityIsSuspendedAndSheds :
    let deficit (g : Grace) (o : Bool) : State := modCap (fun c => { c with
      available := 50, state := .deficit, grace := g, graceTimer := .running 9, outstanding := o })
      (shelfMail fun m => { m with capShedDone := [⟨[], []⟩], planShedDone := [⟨[0], [1]⟩] })
    shelf.cap.graceTimer = .stopped ∧ (deficit .running false).cap.graceTimer = .running 9 ∧
      (deficit .running true).cap.outstanding = true ∧ (deficit .running false).cap.outstanding = false ∧
      (deficit .expired true).mail.capShedDone = ⟨[], []⟩ :: [] ∧
      (deficit .expired true).cap.state = .deficit ∧ (deficit .expired true).cap.grace = .expired ∧
      (deficit .running true).cap.grace ≠ .expired ∧
      (deficit .expired true).cap.available < (deficit .expired true).cap.committed ∧
      (deficit .expired true).mail.planShedDone = ⟨[0], [1]⟩ :: [] := by decide +kernel

/-- A group that holds a zone in every state, and one that does not hold zone 6, enter ALARM; a group
leaves DRYING. -/
theorem witness_LeakNewsIsolatesAndReleases :
    let s := modMail (fun m => { m with leakToZone := [⟨7, .watch, .alarm⟩] })
      (withGroup 7 ⟨1, 0xFFFFFFBF#32⟩ .alarm fullShelf)
    let u := withZone 14 (zoneOf 3 3) .isolated
      (shelfMail fun m => { m with leakToZone := [⟨2, .drying, .clear⟩] })
    let x (z : Nat) : ZoneState := (zoneAt s z).state
    ZoneListsLaw s ∧ s.mail.leakToZone = ⟨7, .watch, .alarm⟩ :: [] ∧ (7 : Nat) < 8 ∧
      [0, 8, 10, 28, 29, 30, 31].all (fun z => groupHolds s 7 z && (zoneCfg s z).inUse) = true ∧
      [x 0, x 8, x 10, x 28, x 29, x 30, x 31] =
        [.on, .queued, .shed, .lockout, .isolated, .off, .off] ∧
      (zoneAt s 30).adoptPending = false ∧ (zoneAt s 31).adoptPending = true ∧
      groupHolds s 7 6 = false ∧ x 6 ≠ .queued ∧ ZoneListsLaw u ∧
      u.mail.leakToZone = ⟨2, .drying, .clear⟩ :: [] ∧ groupHolds u 2 14 = true ∧
      (zoneAt u 14).state = .isolated := by decide +kernel

/-- The shed tier at both ends of its range, 1 and 3. -/
theorem witness_NewsShedsAndReadmits_link :
    let s (action : LinkAction) (tier : Nat) : State :=
      shelfMail fun m => { m with linkToZone := [⟨.autonomous, action, tier⟩] }
    ZoneListsLaw (s .shed 1) ∧ (s .shed 1).mail.linkToZone = ⟨.autonomous, .shed, 1⟩ :: [] ∧
      1 ≤ (zoneCfg shelf 6).tier ∧ (zoneCfg shelf 6).tier ≤ 3 ∧ runs shelf 6 = true ∧
      (s .shed 3).mail.linkToZone = ⟨.autonomous, .shed, 3⟩ :: [] ∧ 3 ≤ (zoneCfg shelf 10).tier ∧
      (zoneCfg shelf 0).tier < 1 ∧ (zoneAt shelf 0).state ≠ .queued ∧
      (s .hold 3).mail.linkToZone = ⟨.autonomous, .hold, 3⟩ :: [] := by decide +kernel

/-- The return to SUPERVISED, which opens re-admission or leaves it closed. -/
theorem witness_NewsShedsAndReadmits_linkReturn :
    let s (x : Bool) : State := modZc (fun c => { c with
        cap := .balanced, ride := .normal, conserve := x, link := .autonomous, action := .shed }) <|
      withSetting 17 0 <| shelfMail fun m => { m with linkToZone := [⟨.supervised, .shed, 3⟩] }
    ZoneListsLaw (s false) ∧ (s false).mail.linkToZone = ⟨.supervised, .shed, 3⟩ :: [] ∧
      ZoneListsLaw (s true) ∧ (s false).zc.readmit ≠ [] ∧ readmitOpen (s false) = false ∧
      (after .linkStateDelivery (s false)).zc.readmit = [] ∧
      (after .linkStateDelivery (s true)).zc.readmit = (s true).zc.readmit := by decide +kernel

theorem witness_NewsShedsAndReadmits :
    let s := shelfMail fun m => { m with capToZone := [⟨.balanced, 0, 0⟩], energyToZone := [0] }
    let ride (l : List RideNews) : State := shelfMail fun m => { m with rideToZone := l }
    s.mail.capToZone = ⟨.balanced, 0, 0⟩ :: [] ∧ s.mail.energyToZone = 0 :: [] ∧
      (ride [.state .normal]).mail.rideToZone = .state .normal :: [] ∧
      (ride [.conserve true]).mail.rideToZone = .conserve true :: [] ∧
      (ride [.state .bridging, .conserve true]).mail.rideToZone =
        .state .bridging :: .conserve true :: [] := by decide +kernel

theorem witness_CapacityIsSuspendedAndSheds_notice :
    let s (b : Bool) : State := shelfMail fun m => { m with rideToCap := [b] }
    let u := modCap (fun c => { c with available := 50 }) (s true)
    (s false).mail.rideToCap = false :: [] ∧ (s true).mail.rideToCap = true :: [] ∧
      (s true).cap.committed ≤ (s true).cap.available ∧ u.cap.available < u.cap.committed ∧
      graceTime u ≠ 0 ∧ graceTime (withSetting 14 0 u) = 0 := by decide +kernel

/-- Step 63 is the last one; a program of all 64 steps. -/
theorem witness_SeqRunStartsAProgram :
    let latched := modZc (fun c => { c with epoLatch := true }) shelf
    let seq (x : SeqState) (normal : Bool) : State :=
      modSeq (fun q => { q with state := x, rideNormal := normal }) shelf
    Ready shelf ∧ 63 < (64#8).toNat ∧ 64 < (63#8).toNat + (2#8).toNat ∧ (63#8).toNat ≤ 63 ∧
      (1#8 : Byte) ≠ 0#8 ∧ (63#8).toNat + (1#8).toNat ≤ 64 ∧ (0#8).toNat + (64#8).toNat ≤ 64 ∧
      Ready latched ∧ latched.zc.epoLatch = true ∧ shelf.zc.epoLatch = false ∧
      Ready (seq .running true) ∧ (seq .held false).seq.state = .held ∧
      (seq .idle true).seq.rideNormal = true ∧ (seq .idle false).seq.rideNormal = false := by
  decide +kernel

/-- The shelf with its program idle in NORMAL, and no headroom left. -/
def idleProgram : State :=
  modSeq (fun q => { q with state := .idle, rideNormal := true })
    (modCap (fun c => { c with available := 110 }) shelf)

theorem witness_SeqRunStartsAProgram_runs :
    idleProgram.seq.state ≠ .held ∧ idleProgram.seq.rideNormal = true ∧ Ready idleProgram := by
  decide +kernel

/-- First steps that wait, one of each kind that can. -/
theorem witness_SeqRunStartsAProgram_waits :
    ∀ x ∈ [⟨.zoneOn, 31, 0⟩, ⟨.delay, 1, 0⟩, ⟨.waitOn, 6, 0⟩, ⟨.waitHeadroom, 1, 9⟩,
      (⟨.waitCharge, 1, 9⟩ : StepCfg)], ¬EndsAtOnce idleProgram x := by
  simp only [List.forall_mem_cons, List.not_mem_nil, false_implies, implies_true, EndsAtOnce]
  decide +kernel

/-- First steps that end at once, one of each kind; those of a zone that is not there are skipped. -/
theorem witness_SeqRunStartsAProgram_ends :
    ∀ x ∈ [⟨.zoneOn, 32, 0⟩, ⟨.delay, 0, 0⟩, ⟨.waitOn, 0, 0⟩, ⟨.waitHeadroom, 0, 9⟩,
      ⟨.waitCharge, 0, 9⟩, (⟨.mark, 0, 0⟩ : StepCfg)], EndsAtOnce idleProgram x := by
  simp only [List.forall_mem_cons, List.not_mem_nil, false_implies, implies_true, EndsAtOnce]
  decide +kernel

theorem witness_SeqRunStartsAProgram_skips :
    SkippedAtOnce idleProgram ⟨.zoneOn, 32, 0⟩ ∧ SkippedAtOnce idleProgram ⟨.waitOn, 1, 0⟩ ∧
      ¬SkippedAtOnce idleProgram ⟨.waitOn, 0, 0⟩ := by
  simp only [SkippedAtOnce]
  decide +kernel

theorem witness_ProgramIsHeldFailedAndAutostarted_stop :
    let seq (x : SeqState) (a : Autostart) : State :=
      modSeq (fun q => { q with state := x, autostart := a }) shelf
    Ready (seq .running .none) ∧ Ready (seq .held .none) ∧ Ready (seq .idle .armed) ∧ Ready shelf := by
  decide +kernel

/-- A program of two steps, at its first and at its last. -/
theorem witness_StepEndsByAnswerOrTimer :
    let prog (p : Nat) (ph : StepPhase) (a : QueueAnswer) : State :=
      modMail (fun m => { m with seqAnswer := [⟨4, a⟩] })
        (modSeq (fun q => { q with
          state := .running, desc := some ⟨62, 2⟩, pointer := p, phase := ph, stepInst := 4,
          timer := .running 9 }) shelf)
    let s := prog 62 .asking .queued
    s.mail.seqAnswer = ⟨4, .queued⟩ :: [] ∧ s.seq.state = .running ∧ s.seq.phase = .asking ∧
      s.seq.stepInst = 4 ∧ s.seq.pointer ≠ lastStep (descOf s) ∧
      (prog 63 .asking .refused).seq.pointer = lastStep (descOf (prog 63 .asking .refused)) ∧
      (prog 63 .waiting .queued).seq.phase ≠ .asking ∧
      (prog 63 .waiting .queued).seq.timer = .running 9 ∧
      (currentStep (prog 63 .waiting .queued)).kind = .delay ∧
      (currentStep (withStep 63 ⟨.waitOn, 0, 9⟩ (prog 63 .waiting .queued))).kind ≠ .delay := by
  decide +kernel

theorem witness_WaitStepEndsByDelivery :
    let prog (k : StepKind) (operand : Nat) : State :=
      withStep 62 ⟨k, operand, 9⟩ <| modSeq (fun q => { q with
          state := .running, desc := some ⟨62, 2⟩, pointer := 62, phase := .waiting }) <|
        shelfMail fun m => { m with
          zoneToSeq := [⟨6, .inrush, .on⟩], capToSeq := [⟨.balanced, 100, 50⟩], energyToSeq := [50] }
    waitsFor .waitOn (prog .waitOn 6) = true ∧ (currentStep (prog .waitOn 6)).operand = 6 ∧
      (prog .waitOn 6).mail.zoneToSeq = ⟨6, .inrush, .on⟩ :: [] ∧
      (prog .waitOn 6).seq.pointer ≠ lastStep (descOf (prog .waitOn 6)) ∧
      (currentStep (prog .waitOn 7)).operand ≠ 6 ∧ waitsFor .waitOn (prog .waitCharge 6) = false ∧
      waitsFor .waitHeadroom (prog .waitHeadroom 50) = true ∧
      (currentStep (prog .waitHeadroom 50)).operand ≤ 100 - 50 ∧
      100 - 50 < (currentStep (prog .waitHeadroom 51)).operand ∧
      waitsFor .waitCharge (prog .waitCharge 50) = true ∧
      (currentStep (prog .waitCharge 50)).operand ≤ 50 ∧
      50 < (currentStep (prog .waitCharge 51)).operand := by decide +kernel

theorem witness_ProgramIsHeldFailedAndAutostarted :
    let s (x : SeqState) (b : Bool) : State := modSeq (fun q => { q with state := x })
      (withStep 0 ⟨.delay, 1, 0⟩ (shelfMail fun m => { m with rideToSeq := [b], epoFail := 1 }))
    (s .running false).mail.rideToSeq = false :: [] ∧ (s .held true).mail.rideToSeq = true :: [] ∧
      (s .idle true).seq.state ≠ .held ∧ (s .held true).seq.state = .held ∧
      (currentStep (s .held true)).kind = .delay ∧ (currentStep (s .held true)).operand ≠ 0 ∧
      shelf.mail.epoFail = 0 ∧ (s .running true).mail.epoFail = 0 + 1 := by decide +kernel

/-- No report; a report and no start; a report and a start, under the latch, out of NORMAL and in it. -/
theorem witness_ProgramIsHeldFailedAndAutostarted_autostart :
    let latched := modZc (fun c => { c with epoLatch := true }) (armed true 1)
    let away := modSeq (fun q => { q with rideNormal := false }) (armed true 1)
    shelf.mail.firstScans = 0 ∧ (armed false 1).mail.firstScans = 0 + 1 ∧
      ¬StartConditionMet (armed false 1).seq (armed false 1) ∧
      StartConditionMet (armed true 1).seq (armed true 1) ∧ (armed true 1).mail.firstScans = 0 + 1 ∧
      SettingsLaw (armed true 1) ∧ SettingsLaw latched ∧ SettingsLaw away ∧
      (armed true 1).zc.epoLatch = false ∧ (armed true 1).seq.rideNormal = true ∧
      (after .autostart (armed true 1)).seq.pointer = 61 ∧
      (after .autostart latched).seq.fail = some ⟨60, .epo⟩ ∧
      (after .autostart away).seq.state = .held := by decide +kernel

/-- An image whose settings arm an autostart, with segment 0 enabled or with no segment enabled. -/
def armedImage (enable : Nat) : State :=
  let s := withSetting 0 enable <| withSetting 3 0 <| withSetting 6 0 <| withSetting 9 0 <|
    withSetting 18 1 State.reset
  { s with image := ⟨.valid, s.tables, imageCrc s.tables, none⟩ }

theorem armedImage_restores (enable : Nat) : imageRestores (armedImage enable).image = true := by
  simp [imageRestores, armedImage]

/-- A reset that arms a program starts it where no segment is enabled. -/
theorem witness_ColdResetStartsEveryBlock_autostart :
    (after .powerOnReset (armedImage 0)).seq.autostart = .started := by
  simp only [after, exec, execPowerOnReset, coldReset, armedImage_restores]
  decide +kernel

theorem witness_ColdResetStartsEveryBlock_settings : SettingsLaw (armedImage 0) := by
  simp only [armedImage]
  decide +kernel

/-- And it leaves the program armed where one is enabled. -/
theorem witness_ColdResetStartsEveryBlock_armed :
    (after .powerOnReset (armedImage 1)).seq.autostart = .armed := by
  simp only [after, exec, execPowerOnReset, coldReset, armedImage_restores]
  decide +kernel

theorem witness_ZoneIsQueuedOnRequest_sequencer :
    let s (z : Nat) : State := withZone 31 ⟨true, 5, 0, 1, 60, 50, 2000, 3⟩ .off
      (shelfMail fun m => { m with seqAsk := [⟨1, z⟩] })
    (s 31).mail.seqAsk = ⟨1, 31⟩ :: [] ∧ (31 : Nat) < 32 ∧ (zoneAt (s 31) 31).state = .off ∧
      leakHolds (s 31) 31 = false ∧ (zoneCfg (s 31) 31).inUse = true ∧
      (zoneCfg (s 1) 1).inUse = false ∧ (zoneAt (s 8) 8).state = .queued ∧
      (s 31).zc.epoLatch = false ∧ (modZc (fun c => { c with epoLatch := true }) (s 31)).zc.epoLatch = true := by
  decide +kernel

theorem witness_RideReleaseLiftsConserve :
    let s := modRide (fun r => { r with conserve := true, window := .running 9 }) shelf
    Ready s ∧ s.ride.conserve = true ∧ shelf.ride.conserve = false ∧ s.ride.window = .running 9 ∧
      shelf.ride.window = .stopped := by decide +kernel

/-- AC-sense line 1 accepts a level at its filter time, 20 ms, with line 0 lost already: a rise in
NORMAL and in RESTORING, with the confirm time at 0 and above; a fall in SUSPECT and in BRIDGING, with
the settle time at 0 and above. -/
theorem witness_IndicationMovesTheRideState :
    let s (x : RideState) (l : Level) : State :=
      modRide (fun r => { r with
        state := x, indication := l == .high, linePart := l == .high }) { shelf with
        now := 49
        lines := put shelf.lines 1 ⟨some (if l = .low then .high else .low), some ⟨l, 30⟩,
          .running 50⟩ }
    let t (x : RideState) (l : Level) : State := after (.lineSample 1 (.driven l)) (s x l)
    (lineAt (s .normal .low) 1).timer = .running 50 ∧
      (lineAt (t .normal .low) 1).accepted = some .low ∧
      (s .normal .low).ride.indication = false ∧ (t .normal .low).ride.indication = true ∧
      (t .restoring .low).ride.indication = true ∧ (s .suspect .high).ride.indication = true ∧
      (t .suspect .high).ride.indication = false ∧ (t .bridging .high).ride.indication = false ∧
      confirmTime shelf ≠ 0 ∧ confirmTime (withSetting 22 0 shelf) = 0 ∧ settleTime shelf ≠ 0 ∧
      settleTime (withSetting 23 0 shelf) = 0 ∧
      (lineAt (after (.lineSample 1 (.driven .low)) shelf) 1).accepted = (lineAt shelf 1).accepted := by
  decide +kernel

theorem witness_RideTimersEnterBridgingAndNormal :
    let s := modRide (fun r => { r with confirm := .running 9 }) shelf
    let u := modRide (fun r => { r with state := .restoring, settle := .running 9 }) shelf
    s.ride.confirm = .running 9 ∧ s.ride.state = .suspect ∧ u.ride.settle = .running 9 ∧
      u.ride.state = .restoring ∧ shelf.ride.confirm = .stopped ∧ shelf.ride.settle = .stopped := by
  decide +kernel

theorem witness_RecomputeEvaluatesAPlan :
    let s := modRide (fun r => { r with state := .bridging, recompute := .running 9 }) shelf
    shelf.ride.recompute = .stopped ∧ s.ride.recompute = .running 9 ∧ s.ride.state = .bridging := by
  decide +kernel

/-- Battery 12 leaves ACTIVE by its last miss, by a disable and enters it by a good reply, in BRIDGING
and not. -/
theorem witness_RecomputeEvaluatesAPlan_battery :
    let s (x : RideState) (active : Bool) : State :=
      modRide (fun r => { r with
        state := x, copies := put r.copies 12 ⟨active, 0, 0⟩, elapsed := .counting 0 }) <|
      modNode 12 (fun r => { r with state := if active then .active else .lost, misses := 14 }) shelf
    let f : Frame := ⟨0#8, 0xA7#8, 0x50#8, 0#8, []⟩
    let on (p : Phase) (s : State) : State := onWire (pollExchange 12) p 7 s
    let occasion (c : Instr) (s : State) : Option Occasion :=
      (after c s).ride.lastPlan.map (fun p => p.occasion)
    Ready (s .bridging true) ∧ (nodeCfg shelf 12).inUse = true ∧ (nodeCfg shelf 12).kind = .battery ∧
      (nodeAt (s .bridging true) 12).state = .active ∧ (nodeAt (s .bridging false) 12).state = .lost ∧
      occasion (.replyWindowExpiry 1) (on .waiting (s .bridging true)) = some .battery ∧
      occasion (.replySilence 1) (on .receiving (s .bridging true)) = some .battery ∧
      occasion (.readbackMismatch 1 0#8) (on .sending (s .bridging true)) = some .battery ∧
      occasion (.nodeDisable 1#8 12#8) (s .bridging true) = some .battery ∧
      occasion (.nodeDisable 1#8 12#8) (s .suspect true) = none ∧
      occasion (.replyComplete 1 (frameBytes f)) (on .receiving (s .bridging false)) =
        some .battery := by decide +kernel

/-- Leak line 3, channel 0, accepts a level; leak node 20 speaks for channel 12, answers, is disabled
and is lost; line 3 is disabled. -/
theorem witness_LeakChannelsFollowTheirSources :
    let leakNode : NodeCfg := ⟨true, 1, 12, .leak, 0, true, .off, .enabled⟩
    let s := withChannel 0 ⟨true, 0, 0, 2, false, 0, 3⟩ ⟨.dry, 0, .stopped⟩ <|
      withChannel 12 ⟨true, 20, 1, 2, true, 0, 3⟩ ⟨.dry, 0, .stopped⟩ <|
      withNode 20 leakNode .active shelf
    let line : State := { s with
      now := 49, lines := put s.lines 3 ⟨some .high, some ⟨.low, 30⟩, .running 50⟩ }
    let c (p : Phase) (x : Timer) : Current := ⟨pollExchange 20, p, 0xAC#8, [], 10, x, false⟩
    let f : Frame := ⟨0#8, 0xAC#8, 0x50#8, 0#8, bytesOf [21, 0, 1]⟩
    let off : LineCfg := ⟨false, .pullUp, .low, 20, 1⟩
    let load : State := { s with loader := ⟨some ⟨.line, 0 + 3, 0 + 1⟩, .running 9⟩ }
    (lineAt line 3).timer = .running 50 ∧
      (lineAt (after (.lineSample 3 (.driven .low)) line) 3).accepted = some .low ∧
      (lineAt line 3).accepted ≠ some .low ∧ LeakLaw line ∧
      (segAt (onWire (pollExchange 20) .receiving 12 s) 1).current = some (c .receiving .stopped) ∧
      goodReply (c .receiving .stopped) (frameBytes f) = some f ∧ f.kind = telemetryByte ∧
      (nodeCfg s 20).inUse = true ∧ (nodeCfg s 20).kind = .leak ∧ (nodeAt s 20).state ≠ .disabled ∧
      Ready s ∧ (20#8).toNat ≤ 47 ∧
      (segAt (onWire (pollExchange 20) .waiting 12 s) 1).current = some (c .waiting (.running 10)) ∧
      lostThreshold (modNode 20 (fun r => { r with misses := 15 }) s) ≤ min 15 (15 + 1) ∧
      (nodeAt s 20).state ≠ .lost ∧ Ready load ∧ load.image.saving = none ∧
      load.loader.record = some ⟨.line, 0 + 3, 0 + 1⟩ ∧ (encodeLine off).length = 6 ∧
      decodeLine (encodeLine off) = some off ∧ (lineCfg load (0 + 3)).enable = true ∧
      (channelCfg load 0).inUse = true ∧ LeakLaw load := by decide +kernel

theorem witness_LeakClearAndTimersAct :
    Ready shelf ∧ 7 < (8#8).toNat ∧ (7#8).toNat ≤ 7 ∧ shelf.mail.leakToZone = [] ∧
      groupAt (after (.leakClear 1#8 2#8) (withGroup 2 ⟨2, 0#32⟩ .drying shelf)) 2 ≠
        groupAt (withGroup 2 ⟨2, 0#32⟩ .drying shelf) 2 := by decide +kernel

theorem witness_LeakClearAndTimersAct_timers :
    (channelAt shelf 3).timer = .running 2000 ∧ shelf.leak.chatter = .running 10000 ∧
      (modLeak (fun l => { l with beaconTimer := .running 9 }) shelf).leak.beaconTimer = .running 9 ∧
      (channelAt shelf 31).timer = .stopped ∧ shelf.leak.beaconTimer = .stopped ∧
      (modLeak (fun l => { l with chatter := .stopped }) shelf).leak.chatter = .stopped := by
  decide +kernel

theorem witness_NodeRequestMovesTheEntry :
    let out := withNode 47 { rectifier 1 9 100 with service := .disabled } .disabled shelf
    Ready shelf ∧ 47 < (48#8).toNat ∧ (47#8).toNat ≤ 47 ∧ (nodeCfg shelf 47).inUse = false ∧
      (nodeCfg shelf 4).inUse = true ∧ (nodeAt shelf 4).state ≠ .disabled ∧ Ready out ∧
      (nodeCfg out 47).inUse = true ∧ (nodeAt out 47).state = .disabled := by decide +kernel

/-- Address byte 0xA3 is entry 4's; 0xA1 is nobody's. -/
theorem witness_RelayIsJudgedByTheGate :
    let full := shelfPort fun p => { p with
      slots := Vector.replicate 8 (some ⟨0#8, 4, false, 0xA3#8, 0x40#8, 120, .stopped, .expired⟩) }
    let stuck := modSeg 1 (fun g => { g with queue := List.replicate 20 (pollExchange 5) }) shelf
    Ready shelf ∧ isNodeByte 0xA3#8 = true ∧ relayTarget shelf 0xA3#8 = some 4 ∧
      isNodeByte 0xA1#8 = true ∧ relayTarget shelf 0xA1#8 = none ∧
      (itemsOf (bytesOf [0x40, 0, 1])).any protectedItem = true ∧
      (itemsOf (bytesOf [0x46, 0, 1])).any protectedItem = false ∧
      (itemsOf (bytesOf [0x45, 0, 1])).any protectedItem = true ∧ Ready full ∧ freeSlot full = none ∧
      (segAt stuck 1).state = .exchange ∧ 20 ≤ (segAt stuck 1).queue.length := by decide +kernel

theorem witness_RelayIsJudgedByTheGate_accepted :
    Ready shelf ∧ isNodeByte 0xA3#8 = true ∧ relayTarget shelf 0xA3#8 = some 4 ∧
      freeSlot shelf = some 0 ∧ (segAt shelf (nodeCfg shelf 4).segment).state ≠ .disabled ∧
      (segAt shelf (nodeCfg shelf 4).segment).queue.length < 20 ∧
      (itemsOf (bytesOf [0x00, 0, 1])).any protectedItem = false := by decide +kernel

theorem witness_RelayTimeoutIsAnswered :
    let slot (x : RelayState) : RelaySlot := ⟨0#8, 4, false, 0xA3#8, 0x40#8, 120, .running 120, x⟩
    let reply : Frame := ⟨1#8, 0xA3#8, 0x20#8, 0#8, [0x40#8, 8#8]⟩
    let s := shelfPort fun p => { p with slots := put p.slots 7 (some (slot .waiting)) }
    let u := shelfPort fun p => { p with
      slots := put p.slots 7 (some (slot (.answering reply true))), answering := [7] }
    slotAt s 7 = some (slot .waiting) ∧ (slot .waiting).timer = .running 120 ∧
      s.port.responses.length + keptPlaces s ≤ 8 ∧ s.port.answering = [] ∧
      u.port.responses.length + keptPlaces u < 8 ∧
      u.port.answering = 7 :: [] ∧ slotAt u 7 = some (slot (.answering reply true)) ∧
      (slot (.answering reply true)).state = .answering reply true ∧ shelf.port.answering = [] ∧
      slotAt shelf 0 = none := by decide +kernel

theorem witness_PollTimerScansAndAges :
    (segAt (modSeg 0 (fun g => { g with pollTimer := .stopped }) shelf) 0).pollTimer = .stopped ∧
      (segAt shelf 1).pollTimer = .running 500 ∧ (segAt shelf 1).state ≠ .disabled ∧
      owedOn shelf 1 = [] ∧
      (segAt shelf 1).queue.length + (allEntries.filter (isScanned shelf 1)).length ≤ 20 ∧
      isScanned shelf 1 4 = true ∧
      (let owing := modZone 10 (fun r => { r with disablePending := true }) shelf
       owedOn owing 1 = [10] ∧ (segAt owing 1).queue.length +
        (allEntries.filter (isScanned owing 1)).length + (owedOn owing 1).length ≤ 20) ∧
      (segAt shelf 1).state = .exchange ∧
      (let full := modSeg 1 (fun g => { g with
        queue := List.replicate 20 ⟨.control, 9, .relay 0x42#8 7#8 [], .relaySlot 0, false⟩ }) shelf
       (allEntries.filter fun k => isScanned full 1 k && !(segAt full 1).queue.any (isPollFor k)).length -
        (20 - (segAt full 1).queue.length) = 4) ∧
      allPolled (modSeg 1 (fun g => { g with polled := Vector.replicate 48 true }) shelf) 1 = true := by
  decide +kernel

theorem witness_ExchangeMovesThroughItsPhases :
    let on (p : Phase) : State := onWire (pollExchange 4) p 3 shelf
    ((segAt (on .sending) 1).current.map (·.phase)) = some .sending ∧
      ((segAt (on .waiting) 1).current.map (·.phase)) = some .waiting ∧
      ((segAt (on .receiving) 1).current.map (·.phase)) = some .receiving ∧
      (segAt shelf 0).current = none := by decide +kernel

/-- A reply window that expires on an exchange out of WAITING, its timer stopped and running. -/
theorem witness_ExchangeMovesThroughItsPhases_window :
    let s (x : Timer) : State := modSeg 1 (fun g => { g with
      current := g.current.map fun c => { c with phase := .receiving, timer := x } }) shelf
    (segAt (s .stopped) 1).current.map (·.timer) = some .stopped ∧
      (segAt (s (.running 9)) 1).current.map (·.timer) = some (.running 9) ∧
      exec (.replyWindowExpiry 1) (s .stopped) = .next (s .stopped) := by
  refine ⟨by decide, by decide, rfl⟩

/-- The ends of an exchange before another: with none, a FEED_SET and an URGENT one at the head of the
queue. -/
theorem witness_ExchangeMovesThroughItsPhases_next :
    let s (p : Phase) (q : List Exchange) : State :=
      modSeg 1 (fun g => { g with queue := q }) (onWire (pollExchange 4) p 3 shelf)
    let stale : State := modSeg 1 (fun g => { g with
      current := g.current.map fun c => { c with stale := true } }) (s .receiving [pollExchange 5])
    let urgent := feedExchange 9 3 false
    let next (c : Instr) (s : State) : Option Exchange := (segAt (after c s) 1).current.map (·.ex)
    urgent.cls = .urgent ∧
      (segAt (after (.replySilence 1) (s .receiving [])) 1).current = none ∧
      next (.replyWindowExpiry 1) (s .waiting [urgent, pollExchange 5]) = some urgent ∧
      next (.replySilence 1) stale = some (pollExchange 5) := by decide +kernel

theorem witness_ExchangeMovesThroughItsPhases_law :
    SegmentLaw (modSeg 1 (fun g => { g with queue := [feedExchange 9 3 false, pollExchange 5] })
      (onWire (pollExchange 4) .waiting 3 shelf)) := by decide +kernel

/-- A scan's first POLL, and a relay, on a segment that is IDLE with an empty queue. -/
theorem witness_ExchangeMovesThroughItsPhases_idle :
    let s := modSeg 1 (fun g => { g with state := .idle, current := none, queue := [] }) shelf
    (segAt s 1).pollTimer = .running 500 ∧ (segAt s 1).state = .idle ∧ owedOn s 1 = [] ∧
      (List.range 48).filter (isScanned s 1) = 4 :: [5, 9, 12] ∧ Ready s ∧
      isNodeByte 0xA3#8 = true ∧ relayTarget s 0xA3#8 = some 4 ∧ freeSlot s = some 0 ∧
      (itemsOf (bytesOf [0x00, 0, 1])).any protectedItem = false ∧ ZoneListsLaw s ∧
      runs s 0 = true ∧ (nodeCfg s (zoneCfg s 0).feedEntry).inUse = true := by decide +kernel

/-- A grant that puts its enable onto the wire of an IDLE segment. -/
theorem witness_ExchangeMovesThroughItsPhases_grant :
    let s := modCap (fun c => { c with available := 170 }) <|
      modZc (fun c => { c with cap := .balanced, ride := .normal, link := .supervised }) <|
      modZone 8 (fun r => { r with retry := .running 7 }) <| withSetting 15 2 <|
      withGroup 2 ⟨2, 0x4000#32⟩ .watch <|
      modSeg 1 (fun g => { g with state := .idle, current := none, queue := [] }) shelf
    let u := modZone 8 (fun r => { r with retry := .stopped }) (atTime 7 s)
    ZoneListsLaw s ∧ (zoneAt s 8).retry = .running 7 ∧ ¬ArbiterRests u ∧
      u.zc.queue.find? (eligible u) = some 8 ∧
      (segAt (after (.retryTimerExpiry 8) s) 1).current.map (·.ex) =
        some (feedExchange 9 1 true) := by decide +kernel

theorem witness_ExchangeMovesThroughItsPhases_grantLaw :
    SegmentLaw (modSeg 1 (fun g => { g with state := .idle, current := none, queue := [] }) shelf) := by
  decide +kernel

/-- Each of the four ways to fail, and both kinds of exchange. -/
theorem witness_FailedExchangeIsRetriedOrMissed :
    let on (e : Exchange) (p : Phase) : State := onWire e p 3 (rack State.reset)
    let c (e : Exchange) (p : Phase) : Current :=
      ⟨e, p, 0xA3#8, [], 10, if p = .waiting then .running 10 else .stopped, false⟩
    let urgent := feedExchange 9 2 false
    (segAt (on (pollExchange 4) .waiting) 1).current = some (c (pollExchange 4) .waiting) ∧
      (segAt (on urgent .sending) 1).current = some (c urgent .sending) ∧
      (segAt (on urgent .receiving) 1).current = some (c urgent .receiving) ∧
      (c (pollExchange 4) .waiting).timer ≠ .stopped ∧ goodReply (c urgent .receiving) [] = none ∧
      urgent.cls ≠ .poll ∧ urgent.retryUsed = false ∧
      (segAt (on urgent .sending) 1).queue.any (fun e => clashes e urgent) = false ∧
      (segAt (on urgent .sending) 1).counters.readback ≤ 65535 ∧
      (nodeCfg (rack State.reset) 4).inUse = true ∧ (nodeAt (rack State.reset) 4).state ≠ .disabled := by
  decide +kernel

/-- The owners of an exchange that fails for good: an enable at and below the lockout limit, a disable
of a zone that runs and of one that does not, with the retry used. -/
theorem witness_FailedExchangeIsRetriedOrMissed_final :
    let used (output : Nat) (on : Bool) : Exchange := { feedExchange 9 output on with retryUsed := true }
    let failing (n : Nat) : State :=
      modZone 6 (fun r => { r with attempts := n }) (onWire (used 2 true) .receiving 10 shelf)
    let disable (output : Nat) : State := onWire (used output false) .receiving 10 shelf
    ZoneListsLaw (failing 2) ∧ ZoneListsLaw (disable 3) ∧ (used 2 true).retryUsed = true ∧
      (zoneAt (failing 2) 6).attempts + 1 = (zoneCfg (failing 2) 6).lockout ∧
      (zoneAt (failing 1) 6).attempts + 1 ≠ (zoneCfg (failing 1) 6).lockout ∧
      (zoneAt (after (.replySilence 1) (failing 2)) 6).state = .lockout ∧
      runs (disable 2) 6 = true ∧ runs (disable 3) 10 = false ∧
      (zoneAt (after (.replySilence 1) (disable 3)) 10).disablePending = true := by decide +kernel

/-- The enable of zone 6 on the wire, about to fail or to be refused, where the law of the segments
holds. -/
theorem witness_FailedExchangeIsRetriedOrMissed_law :
    let failing := modZone 6 (fun r => { r with attempts := 2 }) <|
      modSeg 1 (fun g => { g with queue := [pollExchange 5, pollExchange 9] }) <|
      onWire { feedExchange 9 2 true with retryUsed := true } .receiving 10 shelf
    SegmentLaw failing ∧ ZoneListsLaw failing := by decide +kernel

/-- A relay that fails for good: of class POLL, and of class CONTROL with its retry used, each status,
its slot WAITING, EXPIRED and answered, with a place free and with none. -/
theorem witness_FailedExchangeIsRetriedOrMissed_relay :
    let slot (x : RelayState) : RelaySlot := ⟨7#8, 4, false, 0xA3#8, 0x40#8, 120, .stopped, x⟩
    let s (cls : ExClass) (p : Phase) (x : RelayState) : State :=
      onWire ⟨cls, 4, .relay 0x40#8 7#8 [], .relaySlot 7, cls == .control⟩ p 3
        (shelfPort fun p => { p with slots := put p.slots 7 (some (slot x)) })
    let full := modPort (fun p => { p with
      responses := List.replicate 8 ⟨⟨1#8, 0#8, 0x20#8, 0#8, []⟩, none⟩ }) (s .poll .waiting .waiting)
    let answers (c : Instr) (s : State) : List (List Byte) :=
      (after c s).port.responses.map (·.frame.payload)
    answers (.replyWindowExpiry 1) (s .poll .waiting .waiting) = [bytesOf [0x40, 8]] ∧
      answers (.replySilence 1) (s .control .receiving .waiting) = [bytesOf [0x40, 9]] ∧
      answers (.replySilence 1) (s .control .receiving .expired) = [] ∧
      slotAt (s .poll .waiting (.answering ⟨1#8, 0xA3#8, 0x20#8, 7#8, []⟩ true)) 7 =
        some (slot (.answering ⟨1#8, 0xA3#8, 0x20#8, 7#8, []⟩ true)) ∧
      ¬(full.port.responses.length + keptPlaces full ≤ 8 ∧ full.port.answering = []) ∧
      (after (.replyWindowExpiry 1) full).port.answering = [7] := by decide +kernel

/-- The room rule: a CONTROL exchange meets 19 and 20 queued ones, an URGENT one 23 and 24. -/
theorem witness_FailedExchangeIsRetriedOrMissed_room :
    let s (e : Exchange) (n : Nat) : State := modSeg 1 (fun g => { g with
      queue := List.replicate n ⟨.urgent, 5, .feedSet 0 false, .zoneController, false⟩ })
      (onWire e .receiving 10 shelf)
    let retries (e : Exchange) (n : Nat) : Nat :=
      (segAt (after (.replySilence 1) (s e n)) 1).counters.retries
    retries (feedExchange 9 2 true) 19 = 1 ∧ retries (feedExchange 9 2 true) 20 = 0 ∧
      retries (feedExchange 9 3 false) 23 = 1 ∧ retries (feedExchange 9 3 false) 24 = 0 ∧
      (s (feedExchange 9 3 false) 23).segs.toList.any (fun g =>
        g.queue.any (fun e => clashes e (feedExchange 9 3 false))) = false := by decide +kernel

/-- A requeue that meets the other FEED_SET of its pair. -/
theorem witness_FailedExchangeIsRetriedOrMissed_pair :
    let s := modSeg 1 (fun g => { g with queue := [feedExchange 9 2 false] })
      (onWire (feedExchange 9 2 true) .receiving 10 shelf)
    (segAt s 1).queue.any (isFeedSet 9 2 true) = false ∧
      (segAt s 1).queue.any (isFeedSet 9 2 !true) = true ∧
      (segAt (after (.replySilence 1) s) 1).counters.retries = 0 := by decide +kernel

theorem witness_GoodReplyIsInspectedAndHandedOn :
    let c (e : Exchange) (address : Nat) : Current :=
      ⟨e, .receiving, nodeByte 1 address, [], 10, .stopped, false⟩
    let poll := onWire (pollExchange 4) .receiving 3 shelf
    let enable := onWire (feedExchange 9 2 true) .receiving 10 shelf
    let relayed : Exchange := ⟨.poll, 4, .relay 0x40#8 7#8 [], .relaySlot 7, false⟩
    let relay := onWire relayed .receiving 3 (shelfPort fun p => { p with
      slots := put p.slots 7 (some ⟨7#8, 4, false, 0xA3#8, 0x40#8, 120, .running 120, .waiting⟩) })
    (segAt poll 1).current = some (c (pollExchange 4) 3) ∧
      (goodReply (c (pollExchange 4) 3) (frameBytes ⟨0#8, 0xA3#8, 0x50#8, 0#8, []⟩)).isSome = true ∧
      (segAt enable 1).current = some (c (feedExchange 9 2 true) 10) ∧ ZoneListsLaw enable ∧
      zoneOfPair enable 9 2 = some 6 ∧ feedAckAccepts 2 (bytesOf [2, 0]) = true ∧
      (zoneAt enable 6).state = .inrush ∧ (zoneAt enable 6).acked = false ∧
      (goodReply (c (feedExchange 9 2 true) 10)
        (frameBytes ⟨0#8, 0xAA#8, 0x51#8, 0#8, bytesOf [2, 0]⟩)).isSome = true ∧
      (segAt relay 1).current = some (c relayed 3) ∧
      (slotAt relay 7).map (·.state) = some .waiting ∧
      (goodReply (c relayed 3) (frameBytes ⟨0#8, 0xA3#8, 0x52#8, 0#8, []⟩)).isSome = true := by
  decide +kernel

/-- A refused enable at and below the lockout limit, a refused disable of a zone that does not run, and
the relay's answer with no place free and in the slots of an answered relay. -/
theorem witness_GoodReplyIsInspectedAndHandedOn_refused :
    let failed (n : Nat) : State :=
      modZone 6 (fun r => { r with attempts := n }) (onWire (feedExchange 9 2 true) .receiving 10 shelf)
    let disable := onWire (feedExchange 9 3 false) .receiving 10 shelf
    let slot (x : RelayState) : RelaySlot := ⟨7#8, 4, false, 0xA3#8, 0x40#8, 120, .stopped, x⟩
    let relay (x : RelayState) : State := shelfPort fun p => { p with
      slots := put p.slots 7 (some (slot x)) }
    let full := modPort (fun p => { p with
      responses := List.replicate 8 ⟨⟨1#8, 0#8, 0x20#8, 0#8, []⟩, none⟩ }) (relay .waiting)
    feedAckAccepts 2 (bytesOf [2, 1]) = false ∧
      (goodReply ⟨feedExchange 9 2 true, .receiving, 0xAA#8, [], 10, .stopped, false⟩
        (frameBytes ⟨0#8, 0xAA#8, 0x51#8, 0#8, bytesOf [2, 1]⟩)).isSome = true ∧
      ZoneListsLaw (failed 2) ∧ (zoneAt (failed 2) 6).attempts + 1 = (zoneCfg (failed 2) 6).lockout ∧
      (zoneAt (failed 1) 6).attempts + 1 ≠ (zoneCfg (failed 1) 6).lockout ∧
      zoneOfPair disable 9 3 = some 10 ∧ runs disable 10 = false ∧
      (zoneAt disable 10).state ≠ .queued ∧ (zoneAt disable 10).disablePending = false ∧
      ¬(full.port.responses.length + keptPlaces full ≤ 8 ∧ full.port.answering = []) ∧
      slotAt (relay .expired) 7 = some (slot .expired) ∧
      slotAt (relay (.answering ⟨1#8, 0xA3#8, 0x20#8, 7#8, []⟩ true)) 7 =
        some (slot (.answering ⟨1#8, 0xA3#8, 0x20#8, 7#8, []⟩ true)) := by decide +kernel

/-- Samples at a bound, one past it and in the release band; a report in each mode, and one that finds
the report queue full. -/
theorem witness_ReplyIsCheckedAndReported :
    let c : Current := ⟨pollExchange 4, .receiving, 0xA3#8, [], 10, .stopped, false⟩
    let f : Frame := ⟨0#8, 0xA3#8, 0x50#8, 0#8, bytesOf [4, 0, 71]⟩
    let limited (violation : Bool) : State :=
      modNode 4 (fun r => { r with slots := put r.slots 4 ⟨true, 71, 0, 1, violation, some 69⟩ }) <|
        { (onWire (pollExchange 4) .receiving 3 shelf) with
          tables := { shelf.tables with
            limits := put shelf.tables.limits 4 ⟨true, 0, 70, 5, 3, .degrade, 2⟩
            settings := put shelf.tables.settings 32 0 } }
    let s := limited false
    let full := modPort (fun p => { p with reports := List.replicate 16 (noticeFrame 0 0 []) }) s
    (segAt s 1).current = some c ∧ goodReply c (frameBytes f) = some f ∧
      (nodeCfg s 4).inUse = true ∧ (nodeAt s 4).state ≠ .disabled ∧
      itemsTaken .rectifier f.payload = [⟨4, 71⟩] ∧ (nth s.tables.limits 4).enabled = true ∧
      (nth s.tables.limits 4).high < 71 ∧ ¬(nth s.tables.limits 4).high < 70 ∧
      (nth (nodeAt (limited true) 4).slots 4).violation = true ∧ ¬(66 + 5 ≤ 70) ∧ 65 + 5 ≤ 70 ∧
      (nth s.tables.limits 5).enabled = false ∧ noticeMask s = 0#24 ∧
      (nodeCfg s 4).reportMode = .change ∧ ¬2 < max (71 - 69) (69 - 71) ∧ 2 < max (72 - 69) (69 - 72) ∧
      s.port.reports.length < 16 ∧ 16 ≤ full.port.reports.length := by decide +kernel

/-- A level that has held for the filter time, 20 ms, and one that has held 19 ms. -/
theorem witness_LineSampleIsFilteredAndDelivered :
    let line (i since : Nat) : State := { fullShelf with
      lines := put shelf.lines i ⟨some .high, some ⟨.low, since⟩, .running 50⟩ }
    (lineAt shelf 0).timer = .running 1 ∧
      (lineAt (setLine 0 ⟨none, none, .stopped⟩ shelf) 0).timer = .stopped ∧
      (lineCfg shelf 2).bias = .pullUp ∧ (lineAt (line 2 30) 2).timer = .running 50 ∧
      (lineAt (line 2 30) 2).accepted ≠ some .low ∧ (lineCfg shelf 2).filter ≤ 50 - 30 ∧
      50 - 31 < (lineCfg shelf 2).filter ∧ (lineCfg shelf 2).active = .low ∧
      (line 2 30).zc.epoLatch = false ∧ ZoneListsLaw (line 2 30) ∧
      [0, 6, 8, 10, 28, 29, 30, 31].map (fun z => (zoneAt (line 2 30) z).state) =
        [.on, .inrush, .queued, .shed, .lockout, .isolated, .off, .off] ∧
      (zoneAt (line 2 30) 30).adoptPending = false ∧ (zoneAt (line 2 30) 31).adoptPending = true ∧
      (channelCfg (withChannel 7 ⟨true, 0, 0, 2, false, 0, 3⟩ ⟨.dry, 0, .stopped⟩ shelf) 7).confirm = 0 := by
  decide +kernel

end Sys2Proof.Tests
end

namespace Sys2Proof.Machine

/-! ## The queue of a segment (R3 to R6, R11)

Inserting before the first member that fails a test is what both joins do. -/

theorem perm_insert {α : Type} (p : α → Bool) (e : α) (q : List α) :
    (q.takeWhile p ++ e :: q.dropWhile p).Perm (e :: q) := by
  simpa [List.takeWhile_append_dropWhile] using
    List.perm_middle (a := e) (l₁ := q.takeWhile p) (l₂ := q.dropWhile p)

theorem pairwise_insert {α : Type} {R : α → α → Prop} (p : α → Bool) (e : α)
    (trans : ∀ a b c, R a b → R b c → R a c) :
    ∀ q : List α, (∀ x ∈ q, p x = true → R x e) → (∀ x ∈ q, p x = false → R e x) →
      q.Pairwise R → (q.takeWhile p ++ e :: q.dropWhile p).Pairwise R
  | [], _, _, _ => by simp
  | x :: q, before, after, h => by
    obtain ⟨hx, hq⟩ := List.pairwise_cons.mp h
    have ih := pairwise_insert p e trans q (fun y hy => before y (.tail _ hy))
      (fun y hy => after y (.tail _ hy)) hq
    cases hp : p x
    · have hex := after x (.head _) hp
      simp only [List.takeWhile_cons, List.dropWhile_cons, hp, Bool.false_eq_true, if_false,
        List.nil_append]
      exact List.pairwise_cons.mpr ⟨fun y hy => (List.mem_cons.mp hy).elim (· ▸ hex)
        (fun hy => trans _ _ _ hex (hx y hy)), h⟩
    · simp only [List.takeWhile_cons, List.dropWhile_cons, hp, if_true, List.cons_append]
      refine List.pairwise_cons.mpr ⟨fun y hy => ?_, ih⟩
      rcases List.mem_cons.mp ((perm_insert p e q).mem_iff.mp hy) with rfl | hy
      · exact before x (.head _) hp
      · exact hx y hy

theorem joinTail_perm (e : Exchange) (q : List Exchange) : (joinTail e q).Perm (e :: q) :=
  perm_insert _ e q

theorem joinHead_perm (e : Exchange) (q : List Exchange) : (joinHead e q).Perm (e :: q) :=
  perm_insert _ e q

@[simp] theorem mem_joinTail {x e : Exchange} {q : List Exchange} :
    x ∈ joinTail e q ↔ x = e ∨ x ∈ q := by
  rw [(joinTail_perm e q).mem_iff, List.mem_cons]

@[simp] theorem mem_joinHead {x e : Exchange} {q : List Exchange} :
    x ∈ joinHead e q ↔ x = e ∨ x ∈ q := by
  rw [(joinHead_perm e q).mem_iff, List.mem_cons]

@[simp] theorem length_joinTail (e : Exchange) (q : List Exchange) :
    (joinTail e q).length = q.length + 1 := (joinTail_perm e q).length_eq

theorem clashes_comm (x y : Exchange) : clashes x y = clashes y x := by
  unfold clashes
  rw [Bool.beq_comm]
  rcases x.kind with _ | ⟨a, _⟩ | _ <;> rcases y.kind with _ | ⟨b, _⟩ | _ <;> simp [Bool.beq_comm]

/-- R4 to R6: an exchange placed by `p` in a lawful queue leaves it lawful, where its class has the room
and none of its pair stands there. -/
theorem queueLaw_insert {e : Exchange} {q : List Exchange} {p : Exchange → Bool} (h : QueueLaw q)
    (matched : classMatches e = true) (room : classRoom e.cls q.length = true)
    (free : ∀ x ∈ q, clashes x e = false)
    (before : ∀ x, p x = true → classRank x.cls ≤ classRank e.cls)
    (after : ∀ x, p x = false → classRank e.cls ≤ classRank x.cls) :
    QueueLaw (q.takeWhile p ++ e :: q.dropWhile p) := by
  obtain ⟨hlen, hplain, hsorted, hclash, hmatch⟩ := h
  have perm := perm_insert p e q
  have hle := List.length_filter_le (fun e : Exchange => e.cls != .urgent) q
  refine ⟨?_, ?_, pairwise_insert (R := fun x y => classRank x.cls ≤ classRank y.cls) p e
    (fun _ _ _ => Nat.le_trans) q (fun x _ => before x) (fun x _ => after x) hsorted, ?_, ?_⟩
  · rw [perm.length_eq, List.length_cons]
    cases hc : e.cls <;> simp [hc, classRoom] at room <;> omega
  · rw [(perm.filter _).length_eq, List.filter_cons]
    cases hc : e.cls <;> simp [hc, classRoom] at room ⊢ <;> omega
  · rw [perm.pairwise_iff (fun {x y} hxy => clashes_comm x y ▸ hxy)]
    exact List.pairwise_cons.mpr ⟨fun x hx => clashes_comm x e ▸ free x hx, hclash⟩
  · intro x hx
    rcases List.mem_cons.mp (perm.mem_iff.mp hx) with rfl | hx
    · exact matched
    · exact hmatch x hx

theorem queueLaw_joinTail {e : Exchange} {q : List Exchange} (h : QueueLaw q)
    (matched : classMatches e = true) (room : classRoom e.cls q.length = true)
    (free : ∀ x ∈ q, clashes x e = false) : QueueLaw (joinTail e q) :=
  queueLaw_insert h matched room free (fun _ hx => of_decide_eq_true hx)
    (fun _ hx => Nat.le_of_not_le (of_decide_eq_false hx))

theorem queueLaw_joinHead {e : Exchange} {q : List Exchange} (h : QueueLaw q)
    (matched : classMatches e = true) (room : classRoom e.cls q.length = true)
    (free : ∀ x ∈ q, clashes x e = false) : QueueLaw (joinHead e q) :=
  queueLaw_insert h matched room free (fun _ hx => Nat.le_of_lt (of_decide_eq_true hx))
    (fun _ hx => Nat.le_of_not_lt (of_decide_eq_false hx))

/-- R7, R16, R18: what leaves a queue leaves it lawful. -/
theorem queueLaw_filter {q : List Exchange} (p : Exchange → Bool) (h : QueueLaw q) :
    QueueLaw (q.filter p) := by
  obtain ⟨hlen, hplain, hsorted, hclash, hmatch⟩ := h
  have sub : (q.filter p).Sublist q := List.filter_sublist
  exact ⟨sub.length_le.trans hlen, (sub.filter _).length_le.trans hplain, hsorted.sublist sub,
    hclash.sublist sub, fun x hx => hmatch x (sub.subset hx)⟩

theorem queueLaw_nil : QueueLaw [] := ⟨by simp, by simp, .nil, .nil, by simp⟩

theorem queueLaw_tail {e : Exchange} {q : List Exchange} (h : QueueLaw (e :: q)) : QueueLaw q := by
  obtain ⟨hlen, hplain, hsorted, hclash, hmatch⟩ := h
  have sub : q.Sublist (e :: q) := List.sublist_cons_self e q
  exact ⟨sub.length_le.trans hlen, (sub.filter _).length_le.trans hplain, hsorted.sublist sub,
    hclash.sublist sub, fun x hx => hmatch x (sub.subset hx)⟩

/-! ## Join requests (R3 to R5) -/

/-- R3 to R5: what a join request at a queue can come to. -/
inductive OfferOutcome (e : Exchange) (q : List Exchange) : Offer → Prop
  /-- The request is refused. -/
  | refused : OfferOutcome e q ⟨.refused, q, false⟩
  /-- One that sends the same stands there already. -/
  | stands (a : JoinAnswer) (ha : a ≠ .refused)
      (same : ∃ x ∈ q, x.target = e.target ∧ x.kind = e.kind) : OfferOutcome e q ⟨a, q, false⟩
  /-- The exchange joins. -/
  | joins (room : classRoom e.cls q.length = true) (free : ∀ x ∈ q, clashes x e = false) :
      OfferOutcome e q ⟨.accepted, joinTail e q, false⟩
  /-- A disable takes the place of the enables of its pair. -/
  | replaces (output : Nat) (kind : e.kind = .feedSet output false)
      (off : ∀ x ∈ q, isFeedSet e.target output false x = false)
      (on : ∃ x ∈ q, isFeedSet e.target output true x = true) :
      OfferOutcome e q
        ⟨.accepted, joinTail e (q.filter (fun x => !isFeedSet e.target output true x)), true⟩

theorem isFeedSet_iff {target output : Nat} {on : Bool} {e : Exchange} :
    isFeedSet target output on e = true ↔ e.target = target ∧ e.kind = .feedSet output on := by
  simp [isFeedSet]

theorem isPollFor_iff {target : Nat} {e : Exchange} :
    isPollFor target e = true ↔ e.target = target ∧ e.kind = .poll := by
  simp [isPollFor]

/-- Two exchanges clash just when they are POLLs for one entry or FEED_SETs for one pair. -/
theorem clashes_iff {x y : Exchange} : clashes x y = true ↔ x.target = y.target ∧
    ((x.kind = .poll ∧ y.kind = .poll) ∨
      ∃ output a b, x.kind = .feedSet output a ∧ y.kind = .feedSet output b) := by
  unfold clashes
  rw [Bool.and_eq_true, beq_iff_eq]
  refine and_congr_right fun _ => ?_
  cases x.kind <;> cases y.kind <;> simp
  exact eq_comm

theorem clashes_eq_false_of_poll {x e : Exchange} (kind : e.kind = .poll)
    (h : isPollFor e.target x = false) : clashes x e = false := by
  rw [Bool.eq_false_iff] at h ⊢
  intro hc
  obtain ⟨ht, ⟨hk, -⟩ | ⟨_, _, _, -, hk⟩⟩ := clashes_iff.mp hc
  · exact h (isPollFor_iff.mpr ⟨ht, hk⟩)
  · simp [kind] at hk

theorem clashes_eq_false_of_feedSet {x e : Exchange} {output : Nat} {on : Bool}
    (kind : e.kind = .feedSet output on) (same : isFeedSet e.target output on x = false)
    (other : isFeedSet e.target output (!on) x = false) : clashes x e = false := by
  rw [Bool.eq_false_iff]
  intro hc
  obtain ⟨ht, ⟨-, hk⟩ | ⟨_, b, _, hx, hk⟩⟩ := clashes_iff.mp hc
  · simp [kind] at hk
  · simp only [kind, ExKind.feedSet.injEq] at hk
    obtain ⟨rfl, -⟩ := hk
    by_cases hb : b = on
    · exact Bool.eq_false_iff.mp same (isFeedSet_iff.mpr ⟨ht, hb ▸ hx⟩)
    · exact Bool.eq_false_iff.mp other (isFeedSet_iff.mpr ⟨ht, Bool.eq_not.mpr hb ▸ hx⟩)

theorem clashes_eq_false_of_relay {x e : Exchange} {kind tag : Byte} {payload : List Byte}
    (he : e.kind = .relay kind tag payload) : clashes x e = false := by
  rw [Bool.eq_false_iff]
  intro hc
  obtain ⟨-, ⟨-, hk⟩ | ⟨_, _, _, -, hk⟩⟩ := clashes_iff.mp hc <;> simp [he] at hk

theorem offerRoom_outcome {e : Exchange} {q : List Exchange}
    (free : ∀ x ∈ q, clashes x e = false) : OfferOutcome e q (offerRoom e q) := by
  unfold offerRoom
  split
  · exact .joins ‹_› free
  · exact .refused

theorem offerTo_outcome (e : Exchange) (q : List Exchange) : OfferOutcome e q (offerTo e q) := by
  have none_of (p : Exchange → Bool) (h : ¬q.any p = true) : ∀ x ∈ q, p x = false := by
    simpa using h
  have some_of (p : Exchange → Bool) (h : q.any p = true) : ∃ x ∈ q, p x = true := by
    simpa using h
  unfold offerTo
  split
  next kind =>
    split
    next any =>
      obtain ⟨x, hx, h⟩ := some_of _ any
      exact .stands _ (by simp) ⟨x, hx, kind ▸ isPollFor_iff.mp h⟩
    next no => exact offerRoom_outcome fun x hx => clashes_eq_false_of_poll kind (none_of _ no x hx)
  next output kind =>
    split
    · exact .refused
    next off =>
      split
      next any =>
        obtain ⟨x, hx, h⟩ := some_of _ any
        exact .stands _ (by simp) ⟨x, hx, kind ▸ isFeedSet_iff.mp h⟩
      next no => exact offerRoom_outcome fun x hx =>
          clashes_eq_false_of_feedSet kind (none_of _ no x hx) (none_of _ off x hx)
  next output kind =>
    split
    next any =>
      obtain ⟨x, hx, h⟩ := some_of _ any
      exact .stands _ (by simp) ⟨x, hx, kind ▸ isFeedSet_iff.mp h⟩
    next off =>
      split
      next on => exact .replaces output kind (none_of _ off) (some_of _ on)
      next no => exact offerRoom_outcome fun x hx =>
          clashes_eq_false_of_feedSet kind (none_of _ off x hx) (none_of _ no x hx)
  next kind => exact offerRoom_outcome fun x hx => clashes_eq_false_of_relay kind

/-- R3 to R6: a join request leaves a lawful queue lawful. -/
theorem queueLaw_offerTo {e : Exchange} {q : List Exchange} (h : QueueLaw q)
    (matched : classMatches e = true) : QueueLaw (offerTo e q).queue := by
  have outcome := offerTo_outcome e q
  generalize offerTo e q = o at outcome
  cases outcome with
  | refused => exact h
  | stands => exact h
  | joins room free => exact queueLaw_joinTail h matched room free
  | replaces output kind off on =>
    obtain ⟨x, hx, hon⟩ := on
    have fewer : (q.filter fun x => !isFeedSet e.target output true x).length < q.length :=
      List.length_filter_lt_length_iff_exists.mpr ⟨x, hx, by simp [hon]⟩
    have urgent : e.cls = .urgent := by simpa [classMatches, kind] using matched
    have ⟨hlen, _⟩ := h
    refine queueLaw_joinTail (queueLaw_filter _ h) matched ?_ fun y hy => ?_
    · simp only [urgent, classRoom, decide_eq_true_eq]; omega
    · obtain ⟨hy, hno⟩ := List.mem_filter.mp hy
      exact clashes_eq_false_of_feedSet kind (off y hy) (by simpa using hno)

/-- R11: a requeue leaves a lawful queue lawful. -/
theorem queueLaw_requeue {e : Exchange} {q q' : List Exchange} (h : QueueLaw q)
    (matched : classMatches e = true) (notPoll : e.kind ≠ .poll) (hq : requeue e q = some q') :
    QueueLaw q' := by
  have place (free : ∀ x ∈ q, clashes x { e with retryUsed := true } = false)
      (hr : (if classRoom e.cls q.length then some (joinHead { e with retryUsed := true } q) else none)
        = some q') : QueueLaw q' := by
    split at hr
    next room => cases hr; exact queueLaw_joinHead h matched room free
    next => cases hr
  unfold requeue at hq
  dsimp only at hq
  split at hq
  next output on kind =>
    split at hq
    · cases hq; exact h
    next same =>
      split at hq
      · cases hq
      next other =>
        simp only [Bool.not_eq_true, List.any_eq_false] at same other
        exact place (fun x hx => clashes_eq_false_of_feedSet kind (same x hx) (other x hx)) hq
  next kind => exact absurd kind notPoll
  next kind => exact place (fun x hx => clashes_eq_false_of_relay kind) hq

end Sys2Proof.Machine


namespace Sys2Proof.Machine

/-! ## Segments by index, and what a join does to one (R3 to R6) -/

theorem segAt_modSeg (i : Nat) (f : Segment → Segment) (s : State) (j : Nat) :
    segAt (modSeg i f s) j = if i = j ∧ j < 4 then f (segAt s j) else segAt s j := by
  unfold segAt
  rw [modSeg_segs]
  split
  next h => obtain ⟨rfl, hi⟩ := h; rw [nth_put_self _ _ _ hi]; rfl
  next h =>
    by_cases hij : i = j
    · rw [put_of_le _ _ _ (by omega)]
    · rw [nth_put_of_ne _ _ hij]

@[simp] theorem segAt_modSeg_same (f : Segment → Segment) (s : State) {i : Nat} (hi : i < 4) :
    segAt (modSeg i f s) i = f (segAt s i) := by simp [segAt_modSeg, hi]

@[simp] theorem segAt_modSeg_ne (f : Segment → Segment) (s : State) {i j : Nat} (h : i ≠ j) :
    segAt (modSeg i f s) j = segAt s j := by simp [segAt_modSeg, h]

/-- There are four segments; past them stands a DISABLED one. -/
theorem segAt_of_le (s : State) {j : Nat} (h : 4 ≤ j) : segAt s j = default := by
  simp [segAt, nth, h]

theorem lt_of_state_ne_disabled {s : State} {j : Nat} (h : (segAt s j).state ≠ .disabled) : j < 4 :=
  Nat.lt_of_not_le fun hj => h (by rw [segAt_of_le s hj]; rfl)

theorem lt_of_current {s : State} {j : Nat} {c : Current} (h : (segAt s j).current = some c) : j < 4 :=
  Nat.lt_of_not_le fun hj => by rw [segAt_of_le s hj] at h; cases h

theorem segAt_congr {s t : State} (h : t.segs = s.segs) (j : Nat) : segAt t j = segAt s j := by
  simp [segAt, h]

theorem put_put {α : Type} {n : Nat} (v : Vector α n) (k : Nat) (x y : α) :
    put (put v k x) k y = put v k y := by
  simp [put]

theorem modSeg_congr {i : Nat} {f g : Segment → Segment} {s : State}
    (h : f (segAt s i) = g (segAt s i)) : modSeg i f s = modSeg i g s := by
  simp only [modSeg, h]

theorem modSeg_id {i : Nat} {f : Segment → Segment} {s : State} (h : f (segAt s i) = segAt s i) :
    modSeg i f s = s := by
  have hp : put s.segs i (segAt s i) = s.segs := put_nth s.segs i
  simp only [modSeg, h, hp]

theorem modSeg_modSeg (i : Nat) (f g : Segment → Segment) (s : State) :
    modSeg i f (modSeg i g s) = modSeg i (fun x => f (g x)) s := by
  by_cases hi : i < 4
  · have h := segAt_modSeg_same g s hi
    unfold modSeg at *
    simp only [h, put_put]
  · simp only [modSeg, put_of_le _ _ _ (Nat.le_of_not_lt hi)]

/-- R6, R8: what is taken onto the wire is read from the tables alone. -/
theorem startExchange_congr {s t : State} (h : t.tables = s.tables) (i : Nat) (e : Exchange) :
    startExchange t i e = startExchange s i e := by
  simp [startExchange, nodeCfg, replyWindow, setting, h]

/-- R6: the segment after its arbiter has acted. -/
def arbitrated (s : State) (i : Nat) (g : Segment) : Segment :=
  match g.state, g.queue with
  | .idle, e :: rest =>
    { g with state := .exchange, queue := rest, current := some (startExchange s i e) }
  | _, _ => g

/-- R3 to R6: the segment after a join request. -/
def joined (s : State) (i : Nat) (e : Exchange) (g : Segment) : Segment :=
  if g.state = .disabled then g
  else arbitrated s i { g with queue := (offerTo e g.queue).queue }

theorem arbitrate_eq (i : Nat) (s : State) : (arbitrate i s).1 = modSeg i (arbitrated s i) s := by
  unfold arbitrate
  dsimp only
  split
  next e rest hstate hqueue =>
    dsimp only
    refine modSeg_congr ?_
    simp [arbitrated, hstate, hqueue]
  next no =>
    refine (modSeg_id ?_).symm
    unfold arbitrated
    split
    next hstate hqueue => exact absurd hqueue (no _ _ hstate)
    · rfl

/-- R6: the arbiter takes an exchange just where the segment is IDLE and its queue is not empty. -/
theorem arbitrate_taken (i : Nat) (s : State) :
    (arbitrate i s).2 = ((segAt s i).state == .idle && !(segAt s i).queue.isEmpty) := by
  unfold arbitrate
  dsimp only
  split
  next hstate hqueue => rw [hstate, hqueue]; rfl
  next no =>
    cases hstate : (segAt s i).state <;> try rfl
    cases hqueue : (segAt s i).queue with
    | nil => rfl
    | cons e rest => exact absurd hqueue (no e rest hstate)

/-- R3 to R6: a join request changes the segment it is made at, and nothing else. -/
theorem joinSegment_state (i : Nat) (e : Exchange) (s : State) :
    (joinSegment i e s).state = modSeg i (joined s i e) s := by
  unfold joinSegment
  simp only [beq_iff_eq]
  split
  next h => exact (modSeg_id (by simp [joined, h])).symm
  next h =>
    dsimp only
    rw [arbitrate_eq, modSeg_modSeg]
    refine modSeg_congr ?_
    simp only [joined, h, if_false]
    unfold arbitrated
    dsimp only
    rw [show startExchange (modSeg i _ s) i = startExchange s i from
      funext fun x => startExchange_congr rfl i x]

theorem joinSegment_answer (i : Nat) (e : Exchange) (s : State) :
    (joinSegment i e s).answer =
      if (segAt s i).state = .disabled then .refused else (offerTo e (segAt s i).queue).answer := by
  unfold joinSegment
  simp only [beq_iff_eq]
  split <;> rfl

theorem segAt_joinSegment (i : Nat) (e : Exchange) (s : State) (j : Nat) :
    segAt (joinSegment i e s).state j =
      if i = j then joined s i e (segAt s j) else segAt s j := by
  rw [joinSegment_state, segAt_modSeg]
  by_cases hj : j < 4
  · simp [hj]
  · have hd : (segAt s j).state = .disabled := by rw [segAt_of_le s (Nat.le_of_not_lt hj)]; rfl
    simp [hj, joined, hd]

/-! ## The segment after its arbiter has acted -/

theorem arbitrated_of_ne_idle (s : State) (i : Nat) {g : Segment} (h : g.state ≠ .idle) :
    arbitrated s i g = g := by
  unfold arbitrated
  split
  next hstate _ => exact absurd hstate h
  · rfl

theorem arbitrated_of_nil (s : State) (i : Nat) {g : Segment} (h : g.queue = []) :
    arbitrated s i g = g := by
  unfold arbitrated
  split
  next hqueue => simp [h] at hqueue
  · rfl

theorem arbitrated_of_cons (s : State) (i : Nat) {g : Segment} {e : Exchange} {rest : List Exchange}
    (hstate : g.state = .idle) (hqueue : g.queue = e :: rest) :
    arbitrated s i g =
      { g with state := .exchange, queue := rest, current := some (startExchange s i e) } := by
  simp [arbitrated, hstate, hqueue]

/-- The fields of a segment that neither a join nor the arbiter changes. -/
structure SameMarks (g g' : Segment) : Prop where
  pollTimer : g'.pollTimer = g.pollTimer
  firstScan : g'.firstScan = g.firstScan
  polled : g'.polled = g.polled
  counters : g'.counters = g.counters

theorem SameMarks.refl (g : Segment) : SameMarks g g := ⟨rfl, rfl, rfl, rfl⟩

theorem SameMarks.trans {g₁ g₂ g₃ : Segment} (h : SameMarks g₁ g₂) (h' : SameMarks g₂ g₃) :
    SameMarks g₁ g₃ :=
  ⟨h'.pollTimer.trans h.pollTimer, h'.firstScan.trans h.firstScan, h'.polled.trans h.polled,
    h'.counters.trans h.counters⟩

theorem sameMarks_arbitrated (s : State) (i : Nat) (g : Segment) :
    SameMarks g (arbitrated s i g) := by
  unfold arbitrated
  split <;> exact ⟨rfl, rfl, rfl, rfl⟩

theorem sameMarks_joined (s : State) (i : Nat) (e : Exchange) (g : Segment) :
    SameMarks g (joined s i e g) := by
  unfold joined
  split
  · exact .refl g
  · exact .trans (g₂ := { g with queue := (offerTo e g.queue).queue }) ⟨rfl, rfl, rfl, rfl⟩
      (sameMarks_arbitrated s i _)

theorem joined_of_disabled (s : State) (i : Nat) (e : Exchange) {g : Segment}
    (h : g.state = .disabled) : joined s i e g = g := if_pos h

theorem joined_of_exchange (s : State) (i : Nat) (e : Exchange) {g : Segment}
    (h : g.state = .exchange) : joined s i e g = { g with queue := (offerTo e g.queue).queue } := by
  rw [joined, if_neg (by simp [h]), arbitrated_of_ne_idle _ _ (by simp [h])]

theorem joined_of_idle (s : State) (i : Nat) (e : Exchange) {g : Segment} (h : g.state = .idle) :
    joined s i e g = arbitrated s i { g with queue := (offerTo e g.queue).queue } := by
  rw [joined, if_neg (by simp [h])]

/-! ## The law of one segment -/

/-- The law of the segments, of one segment. -/
def LawfulSegment (g : Segment) : Prop :=
  QueueLaw g.queue ∧ SegmentStateLaw g ∧ ∀ c ∈ g.current.toList, classMatches c.ex = true

theorem segmentLaw_iff (s : State) : SegmentLaw s ↔ ∀ i < 4, LawfulSegment (segAt s i) := Iff.rfl

/-- R9, R10: a segment whose exchange has ended, while the outcome is handed on: it stays in EXCHANGE
with nothing on the wire (log entry 29). -/
structure HeldSegment (g : Segment) : Prop where
  queue : QueueLaw g.queue
  state : g.state = .exchange
  current : g.current = none
  pollTimer : isRunning g.pollTimer = true

theorem lawful_arbitrated (s : State) (i : Nat) {g : Segment} (queue : QueueLaw g.queue)
    (state : g.state = .idle) (current : g.current = none) (timer : isRunning g.pollTimer = true) :
    LawfulSegment (arbitrated s i g) := by
  cases hq : g.queue with
  | nil =>
    rw [arbitrated_of_nil s i hq]
    exact ⟨queue, ⟨by simp [state, current], fun _ => hq, by simp [state, timer]⟩, by simp [current]⟩
  | cons e rest =>
    rw [arbitrated_of_cons s i state hq]
    rw [hq] at queue
    have ⟨_, _, _, _, matched⟩ := queue
    exact ⟨queueLaw_tail queue, ⟨by simp, by simp, by simp [timer]⟩,
      by simpa [startExchange] using matched e (.head _)⟩

theorem lawful_joined (s : State) (i : Nat) {e : Exchange} {g : Segment}
    (matched : classMatches e = true) (h : LawfulSegment g) : LawfulSegment (joined s i e g) := by
  have ⟨queue, ⟨wire, empty, timer⟩, current⟩ := h
  cases hs : g.state with
  | disabled => rw [joined_of_disabled s i e hs]; exact h
  | idle =>
    rw [joined_of_idle s i e hs]
    have free : g.current = none := by simpa [hs] using wire
    exact lawful_arbitrated s i (queueLaw_offerTo queue matched) hs free (timer.mpr (by simp [hs]))
  | exchange =>
    rw [joined_of_exchange s i e hs]
    exact ⟨queueLaw_offerTo queue matched, ⟨wire, by simp [hs], timer⟩, current⟩

theorem held_joined (s : State) (i : Nat) {e : Exchange} {g : Segment}
    (matched : classMatches e = true) (h : HeldSegment g) : HeldSegment (joined s i e g) := by
  rw [joined_of_exchange s i e h.state]
  exact ⟨queueLaw_offerTo h.queue matched, h.state, h.current, h.pollTimer⟩

/-! ## What a segment carries through joins -/

/-- `p` holds of no enable, so that what meets it is never removed by a disable (R5). -/
def SparesEnables (p : Exchange → Bool) : Prop :=
  ∀ x output, x.kind = .feedSet output true → p x = false

theorem carries_arbitrated (s : State) (i : Nat) {g : Segment} {p : Exchange → Bool}
    (h : g.queue.any p = true ∨ (g.state ≠ .idle ∧ Carries g p) ∨ (g.current = none ∧ Carries g p)) :
    Carries (arbitrated s i g) p := by
  have hg : Carries g p := by tauto
  by_cases hs : g.state = .idle
  · cases hq : g.queue with
    | nil => rw [arbitrated_of_nil s i hq]; exact hg
    | cons e rest =>
      have hany : g.queue.any p = true := by
        rcases h with h | ⟨h, -⟩ | ⟨free, h | h⟩
        · exact h
        · exact absurd hs h
        · exact h
        · simp [free] at h
      rw [arbitrated_of_cons s i hs hq]
      rw [hq, List.any_cons, Bool.or_eq_true] at hany
      rcases hany with hany | hany
      · exact .inr (by simpa [startExchange] using hany)
      · exact .inl hany
  · rw [arbitrated_of_ne_idle s i hs]; exact hg

theorem any_offerTo {e : Exchange} {q : List Exchange} {p : Exchange → Bool} (spares : SparesEnables p)
    (h : q.any p = true) : (offerTo e q).queue.any p = true := by
  obtain ⟨x, hx, hp⟩ := List.any_eq_true.mp h
  have outcome := offerTo_outcome e q
  generalize offerTo e q = o at outcome
  refine List.any_eq_true.mpr ⟨x, ?_, hp⟩
  cases outcome with
  | refused => exact hx
  | stands => exact hx
  | joins => exact mem_joinTail.mpr (.inr hx)
  | replaces output =>
    refine mem_joinTail.mpr (.inr (List.mem_filter.mpr ⟨hx, ?_⟩))
    rw [Bool.not_eq_true', Bool.eq_false_iff]
    intro on
    rw [spares x output (isFeedSet_iff.mp on).2] at hp
    cases hp

/-- What a segment that is not IDLE carries, it carries after a join, but for an enable. -/
theorem carries_joined (s : State) (i : Nat) (e : Exchange) {g : Segment} {p : Exchange → Bool}
    (spares : SparesEnables p) (h : g.state ≠ .idle ∧ Carries g p) :
    (joined s i e g).state ≠ .idle ∧ Carries (joined s i e g) p := by
  obtain ⟨hs, hc⟩ := h
  by_cases hd : g.state = .disabled
  · rw [joined_of_disabled s i e hd]; exact ⟨hs, hc⟩
  · have he : g.state = .exchange := by cases h : g.state <;> simp_all
    rw [joined_of_exchange s i e he]
    exact ⟨hs, hc.imp (any_offerTo spares) id⟩

/-- R3 to R6: where an enabled segment does not refuse the join, the exchange, or one that sends the same,
stands on the segment, which is then in EXCHANGE or has what it had on the wire. -/
theorem carries_joined_self (s : State) (i : Nat) {e : Exchange} {g : Segment}
    {p : Exchange → Bool} (enabled : g.state ≠ .disabled)
    (taken : (offerTo e g.queue).answer ≠ .refused)
    (same : ∀ x, x.target = e.target → x.kind = e.kind → p x = true) :
    (joined s i e g).state ≠ .idle ∧ Carries (joined s i e g) p := by
  have hany : (offerTo e g.queue).queue.any p = true := by
    have outcome := offerTo_outcome e g.queue
    generalize offerTo e g.queue = o at outcome taken
    cases outcome with
    | refused => exact absurd rfl taken
    | stands a _ h =>
      obtain ⟨x, hx, ht, hk⟩ := h
      exact List.any_eq_true.mpr ⟨x, hx, same x ht hk⟩
    | joins => exact List.any_eq_true.mpr ⟨e, mem_joinTail.mpr (.inl rfl), same e rfl rfl⟩
    | replaces => exact List.any_eq_true.mpr ⟨e, mem_joinTail.mpr (.inl rfl), same e rfl rfl⟩
  rw [joined, if_neg enabled]
  refine ⟨?_, carries_arbitrated s i (.inl hany)⟩
  by_cases hs : g.state = .idle
  · cases hq : (offerTo e g.queue).queue with
    | nil => simp [hq] at hany
    | cons x rest => rw [arbitrated_of_cons s i (by exact hs) (by rfl)]; simp
  · rw [arbitrated_of_ne_idle s i (by exact hs)]; exact hs

/-! ## Runs of joins -/

/-- The segment `g'` comes from `g` by join requests of exchanges that meet `P`. -/
def Joins (P : Exchange → Prop) (s : State) (i : Nat) : Segment → Segment → Prop :=
  Relation.ReflTransGen fun g g' => ∃ e, P e ∧ g' = joined s i e g

theorem Joins.refl {P : Exchange → Prop} {s : State} {i : Nat} (g : Segment) : Joins P s i g g :=
  Relation.ReflTransGen.refl

theorem Joins.trans {P : Exchange → Prop} {s : State} {i : Nat} {g₁ g₂ g₃ : Segment}
    (h : Joins P s i g₁ g₂) (h' : Joins P s i g₂ g₃) : Joins P s i g₁ g₃ :=
  Relation.ReflTransGen.trans h h'

theorem Joins.single {P : Exchange → Prop} (s : State) (i : Nat) {e : Exchange} (g : Segment)
    (he : P e) : Joins P s i g (joined s i e g) :=
  Relation.ReflTransGen.single ⟨e, he, rfl⟩

theorem joined_congr {s t : State} (h : t.tables = s.tables) (i : Nat) (e : Exchange) (g : Segment) :
    joined t i e g = joined s i e g := by
  simp only [joined, arbitrated, startExchange_congr h]

/-- What one join keeps, a run of joins keeps. -/
theorem Joins.keeps {P : Exchange → Prop} {s : State} {i : Nat} {g g' : Segment}
    (h : Joins P s i g g') {I : Segment → Prop}
    (step : ∀ g e, P e → I g → I (joined s i e g)) (start : I g) : I g' := by
  induction h with
  | refl => exact start
  | tail _ hstep ih => obtain ⟨e, he, rfl⟩ := hstep; exact step _ e he ih

theorem Joins.congr {P : Exchange → Prop} {s t : State} {i : Nat} {g g' : Segment}
    (h : Joins P s i g g') (ht : t.tables = s.tables) : Joins P t i g g' :=
  h.keeps (I := Joins P t i g)
    (fun x e he hg => hg.trans (joined_congr ht i e x ▸ .single t i x he)) (.refl g)

theorem Joins.marks {P : Exchange → Prop} {s : State} {i : Nat} {g g' : Segment}
    (h : Joins P s i g g') : SameMarks g g' :=
  h.keeps (fun _ e _ hg => hg.trans (sameMarks_joined s i e _)) (.refl g)

/-- A segment in EXCHANGE keeps what it has on the wire. -/
theorem Joins.exchange {P : Exchange → Prop} {s : State} {i : Nat} {g g' : Segment}
    (h : Joins P s i g g') (state : g.state = .exchange) :
    g'.state = .exchange ∧ g'.current = g.current :=
  h.keeps (I := fun x => x.state = .exchange ∧ x.current = g.current)
    (fun x e _ hx => by rw [joined_of_exchange s i e hx.1]; exact hx) ⟨state, rfl⟩

theorem Joins.disabled {P : Exchange → Prop} {s : State} {i : Nat} {g g' : Segment}
    (h : Joins P s i g g') (state : g.state = .disabled) : g' = g :=
  h.keeps (I := fun x => x = g) (fun x e _ hx => by rw [hx, joined_of_disabled s i e state]) rfl

theorem joined_state_disabled (s : State) (i : Nat) (e : Exchange) (g : Segment) :
    (joined s i e g).state = .disabled ↔ g.state = .disabled := by
  unfold joined
  split
  · rfl
  next h =>
    unfold arbitrated
    dsimp only
    split <;> simp [h]

theorem Joins.lawful {P : Exchange → Prop} {s : State} {i : Nat} {g g' : Segment}
    (h : Joins P s i g g') (hP : ∀ e, P e → classMatches e = true) (law : LawfulSegment g) :
    LawfulSegment g' :=
  h.keeps (fun _ e he hg => lawful_joined s i (hP e he) hg) law

theorem Joins.held {P : Exchange → Prop} {s : State} {i : Nat} {g g' : Segment}
    (h : Joins P s i g g') (hP : ∀ e, P e → classMatches e = true) (held : HeldSegment g) :
    HeldSegment g' :=
  h.keeps (fun _ e he hg => held_joined s i (hP e he) hg) held

theorem Joins.carries {P : Exchange → Prop} {s : State} {i : Nat} {g g' : Segment}
    {p : Exchange → Bool} (h : Joins P s i g g') (spares : SparesEnables p)
    (start : g.state ≠ .idle ∧ Carries g p) : g'.state ≠ .idle ∧ Carries g' p :=
  h.keeps (I := fun x => x.state ≠ .idle ∧ Carries x p)
    (fun _ e _ hg => carries_joined s i e spares hg) start

end Sys2Proof.Machine


namespace Sys2Proof.Machine

/-! ## What the blocks behind the segments do

Handing on an outcome, or news, runs the Zone Controller, the Capacity Unit, the Ride-Through Unit, the Leak
Monitor and the Frame Inspector. `Works s t` says once what all of that can do to the segments and to the
Upstream Port. -/

/-- A FEED_SET of the Zone Controller. -/
def IsFeed (e : Exchange) : Prop := ∃ target output on, e = feedExchange target output on

/-- A FEED_SET enable of the Zone Controller. -/
def IsEnable (e : Exchange) : Prop := ∃ target output, e = feedExchange target output true

theorem IsFeed.classMatches {e : Exchange} (h : IsFeed e) : classMatches e = true := by
  obtain ⟨target, output, on, rfl⟩ := h
  cases on <;> rfl

/-- `t` comes from `s` by work that reaches the segments by FEED_SET joins alone, and the Upstream Port by
flags raised, notices, reports and what R156 is told: no response, relay slot or kept place changes, no flag
is cleared, and no first scan is reported. -/
structure Works (s t : State) : Prop where
  now : t.now = s.now
  tables : t.tables = s.tables
  segs : ∀ i, Joins IsFeed s i (segAt s i) (segAt t i)
  responses : t.port.responses = s.port.responses
  answering : t.port.answering = s.port.answering
  slots : t.port.slots = s.port.slots
  placeKept : t.port.placeKept = s.port.placeKept
  flags : ∀ f, inFlagSet s.port.flags f = true → inFlagSet t.port.flags f = true
  firstScans : t.mail.firstScans = s.mail.firstScans

namespace Works

variable {s t u : State}

theorem refl (s : State) : Works s s :=
  ⟨rfl, rfl, fun _ => .refl _, rfl, rfl, rfl, rfl, fun _ h => h, rfl⟩

theorem trans (h : Works s t) (h' : Works t u) : Works s u where
  now := h'.now.trans h.now
  tables := h'.tables.trans h.tables
  segs i := (h.segs i).trans ((h'.segs i).congr h.tables.symm)
  responses := h'.responses.trans h.responses
  answering := h'.answering.trans h.answering
  slots := h'.slots.trans h.slots
  placeKept := h'.placeKept.trans h.placeKept
  flags f hf := h'.flags f (h.flags f hf)
  firstScans := h'.firstScans.trans h.firstScans

theorem ite {c : Prop} [Decidable c] (h : Works s t) (h' : Works s u) :
    Works s (if c then t else u) := by
  split
  · exact h
  · exact h'

theorem foldl {α : Type} {f : State → α → State} (hf : ∀ t x, Works t (f t x)) (l : List α)
    (h : Works s t) : Works s (l.foldl f t) := by
  induction l generalizing t with
  | nil => exact h
  | cons x rest ih => exact ih (h.trans (hf t x))

/-! ### Updates -/

theorem of_same (now : t.now = s.now) (tables : t.tables = s.tables) (segs : t.segs = s.segs)
    (port : t.port = s.port) (mail : t.mail.firstScans = s.mail.firstScans) : Works s t where
  now := now
  tables := tables
  segs i := by rw [segAt_congr segs]; exact .refl _
  responses := by rw [port]
  answering := by rw [port]
  slots := by rw [port]
  placeKept := by rw [port]
  flags f hf := by rwa [port]
  firstScans := mail

theorem modCap (h : Works s t) (f : Capacity → Capacity) : Works s (modCap f t) :=
  h.trans (of_same rfl rfl rfl rfl rfl)

theorem modZc (h : Works s t) (f : ZoneCtl → ZoneCtl) : Works s (modZc f t) :=
  h.trans (of_same rfl rfl rfl rfl rfl)

theorem modZone (h : Works s t) (z : Nat) (f : ZoneRun → ZoneRun) : Works s (modZone z f t) :=
  h.trans (of_same rfl rfl rfl rfl rfl)

theorem modRide (h : Works s t) (f : Ride → Ride) : Works s (modRide f t) :=
  h.trans (of_same rfl rfl rfl rfl rfl)

theorem modLeak (h : Works s t) (f : Leak → Leak) : Works s (modLeak f t) :=
  h.trans (of_same rfl rfl rfl rfl rfl)

theorem setChannel (h : Works s t) (c : Nat) (r : ChannelRun) : Works s (setChannel c r t) :=
  h.trans (of_same rfl rfl rfl rfl rfl)

theorem modNode (h : Works s t) (k : Nat) (f : NodeRun → NodeRun) : Works s (modNode k f t) :=
  h.trans (of_same rfl rfl rfl rfl rfl)

theorem modMail (h : Works s t) {f : Mail → Mail} (hf : (f t.mail).firstScans = t.mail.firstScans) :
    Works s (modMail f t) :=
  h.trans (of_same rfl rfl rfl rfl hf)

theorem modPort (h : Works s t) {f : Port → Port}
    (responses : (f t.port).responses = t.port.responses)
    (answering : (f t.port).answering = t.port.answering) (slots : (f t.port).slots = t.port.slots)
    (placeKept : (f t.port).placeKept = t.port.placeKept)
    (flags : ∀ x, inFlagSet t.port.flags x = true → inFlagSet (f t.port).flags x = true) :
    Works s (modPort f t) :=
  h.trans ⟨rfl, rfl, fun _ => .refl _, responses, answering, slots, placeKept, flags, rfl⟩

/-! ### Flags, notices and reports (R154 to R156) -/

theorem driveAlert (h : Works s t) : Works s (driveAlert t) :=
  h.modPort rfl rfl rfl rfl fun _ hx => hx

theorem setFlag (h : Works s t) (f : EventFlag) : Works s (setFlag f t) :=
  h.modPort rfl rfl rfl rfl fun x hx => by
    simp only [inFlagSet, BitVec.getLsbD_or] at hx ⊢
    rw [hx, Bool.true_or]

theorem buildNotice (h : Works s t) (f : EventFlag) (p : List Byte) :
    Works s (buildNotice f p t).1 := by
  unfold Machine.buildNotice
  dsimp only
  exact h.modPort rfl rfl rfl rfl fun _ hx => hx

theorem setLost (h : Works s t) (f : Nat → Nat) :
    Works s (Machine.modPort (fun p => { p with lost := f p.lost }) t) :=
  h.modPort rfl rfl rfl rfl fun _ hx => hx

theorem countLost (h : Works s t) : Works s (countLost t) := by
  have flagged := (h.setLost sat16).setFlag .noticeLost
  unfold Machine.countLost
  dsimp only
  split
  · split <;> rename_i u hu <;> obtain rfl : _ = u := congrArg Prod.fst hu
    · exact (flagged.buildNotice _ _).setLost fun _ => 0
    · exact (flagged.buildNotice _ _).setLost sat16
  · exact flagged

theorem raiseFlag (h : Works s t) (f : EventFlag) (p : List Byte) : Works s (raiseFlag f p t) := by
  unfold Machine.raiseFlag
  dsimp only
  split
  · split <;> rename_i u hu <;> obtain rfl : _ = u := congrArg Prod.fst hu
    · exact ((h.setFlag f).buildNotice f p).driveAlert
    · exact ((h.setFlag f).buildNotice f p).countLost.driveAlert
  · exact (h.setFlag f).driveAlert

theorem queueReport (h : Works s t) (f : Frame) : Works s (queueReport f t).1 := by
  unfold Machine.queueReport
  split
  · dsimp only
    exact h.modPort rfl rfl rfl rfl fun _ hx => hx
  · exact h.countLost.driveAlert

/-! ### The Capacity Unit -/

theorem tellCapacityNews (h : Works s t) (before : Capacity) : Works s (tellCapacityNews before t) := by
  unfold Machine.tellCapacityNews
  exact .ite h (h.modMail rfl)

theorem enterBalanced (h : Works s t) : Works s (enterBalanced t) := h.modCap _

theorem handOverShed (h : Works s t) (w : Walk) : Works s (handOverShed w t) := by
  unfold Machine.handOverShed
  exact .ite h (((h.modCap _).modMail rfl).raiseFlag _ _)

theorem computeShed (h : Works s t) : Works s (computeShed t) := by
  unfold Machine.computeShed
  have handed f := (h.modCap f).handOverShed
  exact .ite (((handed _ _).modCap _).raiseFlag _ _) (handed _ _)

theorem enterDeficit (h : Works s t) : Works s (enterDeficit t) := by
  unfold Machine.enterDeficit
  have raised f := (h.modCap f).raiseFlag .deficit
  exact .ite (raised _ _).computeShed (raised _ _)

theorem evaluateCapacity (h : Works s t) : Works s (evaluateCapacity t) := by
  unfold Machine.evaluateCapacity
  dsimp only
  split
  · exact h
  · exact .ite h.enterDeficit h
  · exact .ite h.enterBalanced (.ite h.computeShed h)

theorem recomputeAvailable (h : Works s t) : Works s (recomputeAvailable t) :=
  (h.modCap _).evaluateCapacity.tellCapacityNews _

theorem recomputeCommitted (h : Works s t) : Works s (recomputeCommitted t) :=
  (h.modCap _).evaluateCapacity.tellCapacityNews _

/-! ### The Zone Controller's queues and its arbiter -/

theorem tellSequencer (h : Works s t) (z : Nat) (old new : ZoneState) :
    Works s (tellSequencer z old new t) := h.modMail rfl

theorem tellZoneChange (h : Works s t) (z : Nat) (old new : ZoneState) :
    Works s (tellZoneChange z old new t) := by
  unfold Machine.tellZoneChange
  exact (Works.ite h.recomputeCommitted h).tellSequencer _ _ _

theorem enqueueZone (h : Works s t) (z : Nat) : Works s (enqueueZone z t) := h.modZc _

theorem dequeueZone (h : Works s t) (z : Nat) : Works s (dequeueZone z t) := h.modZc _

theorem leaveReadmit (h : Works s t) (z : Nat) : Works s (leaveReadmit z t) := h.modZc _

theorem grantZone (h : Works s t) (z : Nat) : Works s (grantZone z t) :=
  ((h.dequeueZone z).modZone _ _).tellZoneChange _ _ _

theorem joinSegment (h : Works s t) (i : Nat) {e : Exchange} (he : IsFeed e) :
    Works s (joinSegment i e t).state := by
  refine h.trans ⟨?_, ?_, fun j => ?_, ?_, ?_, ?_, ?_, ?_, ?_⟩
  case refine_3 =>
    rw [segAt_joinSegment]
    split
    next hij => subst hij; exact .single t i _ he
    · exact .refl _
  all_goals rw [joinSegment_state]
  all_goals simp

theorem arbiterRun (fuel : Nat) (h : Works s t) : Works s (arbiterRun fuel t) := by
  induction fuel generalizing t with
  | zero => exact h
  | succ fuel ih =>
    unfold Machine.arbiterRun
    split
    · split
      · exact h
      next z _ =>
        split
        · dsimp only
          split
          · exact ih ((h.joinSegment _ ⟨_, _, true, rfl⟩).grantZone z)
          · exact h
          · exact h
        · exact h
    · exact h

theorem runArbiter (h : Works s t) : Works s (runArbiter t) := h.arbiterRun _

theorem afterDeparture (h : Works s t) (departed : Bool) : Works s (afterDeparture departed t) := by
  unfold Machine.afterDeparture
  exact .ite h.runArbiter h

theorem setDisablePending (h : Works s t) (z : Nat) (x : DisableOutcome) :
    Works s (setDisablePending z x t) := by
  unfold Machine.setDisablePending
  exact .ite h ((h.modZone _ _).raiseFlag _ _)

theorem queueDisable (h : Works s t) (z : Nat) : Works s (queueDisable z t).1 := by
  unfold Machine.queueDisable
  dsimp only
  split
  · have joins := h.joinSegment (nodeCfg t (zoneCfg t z).feedEntry).segment
      (e := feedExchange (zoneCfg t z).feedEntry (zoneCfg t z).output false) ⟨_, _, false, rfl⟩
    split
    · exact joins
    · exact joins
    · exact joins.setDisablePending z _
  · exact h.setDisablePending z _

theorem drainZone (h : Works s t) (z : Nat) : Works s (drainZone t z) :=
  (((h.leaveReadmit z).modZone _ _).enqueueZone z).tellZoneChange _ _ _

theorem evaluateReadmit (h : Works s t) : Works s (evaluateReadmit t) := by
  unfold Machine.evaluateReadmit
  exact .ite (h.foldl (fun t z => (refl t).drainZone z) _).runArbiter h

/-! ### Zones that are taken off, fail, are adopted or isolated -/

theorem shedZone (h : Works s t) (z : Nat) : Works s (shedZone t z) := by
  unfold Machine.shedZone
  exact .ite ((((((h.modZone _ _).modZc _).queueDisable z).tellZoneChange _ _ _).evaluateReadmit
    ).afterDeparture _) h

theorem shedList (l : List Nat) (h : Works s t) : Works s (shedList l t).1 := by
  induction l generalizing t with
  | nil => exact h
  | cons z rest ih => exact ih (h.shedZone z)

theorem shedSurplus (h : Works s t) : Works s (shedSurplus t) :=
  h.foldl (fun t z => (refl t).shedZone z) _

theorem failAttempt (h : Works s t) (z : Nat) (x : AttemptCause) : Works s (failAttempt z x t) := by
  unfold Machine.failAttempt
  dsimp only
  have off (c : Prop) [Decidable c] (f : ZoneRun → ZoneRun) :=
    (Works.ite (c := c) (h.modZone z f) ((h.modZone z f).enqueueZone z)).queueDisable z
  exact runArbiter (tellZoneChange (.ite ((off _ _).raiseFlag _ _) (off _ _)) _ _ _)

theorem enableEnded (h : Works s t) (entry output : Nat) (report : FeedReport) :
    Works s (enableEnded entry output report t) := by
  unfold Machine.enableEnded
  split
  · exact h
  next z _ =>
    dsimp only
    split
    · cases report with
      | accepted => exact h.modZone _ _
      | refused => exact h.failAttempt z _
      | failed => exact h.failAttempt z _
      | cancelled => exact h.failAttempt z _
    · exact h

theorem disableEnded (h : Works s t) (entry output : Nat) (report : FeedReport) :
    Works s (disableEnded entry output report t) := by
  unfold Machine.disableEnded
  split
  · exact h
  next z _ =>
    cases report with
    | accepted => exact (h.modZone _ _).runArbiter
    | refused => exact .ite h (h.setDisablePending z _)
    | failed => exact .ite h (h.setDisablePending z _)
    | cancelled => exact .ite h (h.setDisablePending z _)

theorem feedSetEnded (h : Works s t) (entry output : Nat) (on : Bool) (report : FeedReport) :
    Works s (feedSetEnded entry output on report t) :=
  .ite (h.enableEnded _ _ _) (h.disableEnded _ _ _)

theorem powerGood (h : Works s t) (z : Nat) : Works s (powerGood z t) :=
  ((h.modZone _ _).tellZoneChange _ _ _).runArbiter

theorem tripZone (h : Works s t) (z reading : Nat) : Works s (tripZone z reading t) :=
  ((((h.modZone _ _).raiseFlag _ _).queueDisable z).tellZoneChange _ _ _).runArbiter

theorem adoptOff (h : Works s t) (z : Nat) (new : ZoneState) : Works s (adoptOff z new t) := by
  unfold Machine.adoptOff
  dsimp only
  have off (c : Prop) [Decidable c] (f g) :=
    (Works.ite (c := c) ((h.modZone z f).modZc g) (h.modZone z f)).queueDisable z
  have told (c d : Prop) [Decidable c] [Decidable d] (f g) :=
    Works.ite (c := d) (off c f g) ((off c f g).tellZoneChange z .off new)
  exact afterDeparture (.ite (told _ _ _ _).evaluateReadmit (told _ _ _ _)) _

theorem adoptZone (h : Works s t) (z reading : Nat) : Works s (adoptZone z reading t) := by
  unfold Machine.adoptZone
  split
  · exact h.modZone _ _
  · exact .ite (h.adoptOff _ _) (.ite (h.adoptOff _ _) (.ite (h.adoptOff _ _)
      ((h.modZone _ _).tellZoneChange _ _ _)))
  · exact h.adoptOff _ _

theorem zoneReport (h : Works s t) (entry : Nat) (news : Nat × Nat) :
    Works s (zoneReport entry t news) := by
  unfold Machine.zoneReport
  split
  · exact h
  next z _ =>
    dsimp only
    split
    · split
      · split
        · exact h
        · exact h.powerGood z
        · exact h.failAttempt z _
      · exact h
    · exact .ite h (h.tripZone z _)
    · exact .ite (h.adoptZone z _) h
    all_goals exact h

theorem queueZone (h : Works s t) (z : Nat) : Works s (queueZone z t) :=
  (((h.modZone _ _).enqueueZone z).tellZoneChange _ _ _).runArbiter

theorem switchZoneOff (h : Works s t) (z : Nat) : Works s (switchZoneOff z t) :=
  (((h.modZone _ _).queueDisable z).tellZoneChange _ _ _).afterDeparture _

theorem unqueueZone (h : Works s t) (z : Nat) (new : ZoneState) : Works s (unqueueZone z new t) :=
  ((h.dequeueZone z).modZone _ _).tellZoneChange _ _ _

theorem unshedZone (h : Works s t) (z : Nat) (new : ZoneState) : Works s (unshedZone z new t) :=
  ((h.leaveReadmit z).modZone _ _).tellZoneChange _ _ _

theorem zoneOnRequest (h : Works s t) (z : Nat) : Works s (zoneOnRequest z t).2 := by
  unfold Machine.zoneOnRequest
  split
  · exact h
  split
  · exact h
  split
  case h_3 =>
    split
    · exact h
    · exact h.queueZone z
  all_goals exact h

theorem zoneOffRequest (h : Works s t) (z : Nat) : Works s (zoneOffRequest z t) := by
  unfold Machine.zoneOffRequest
  split
  · exact h.unqueueZone z _
  · exact h.switchZoneOff z
  · exact h.switchZoneOff z
  · exact h.unshedZone z _
  all_goals exact h

theorem zoneResetRequest (h : Works s t) (z : Nat) : Works s (zoneResetRequest z t).2 := by
  unfold Machine.zoneResetRequest
  split
  · exact (h.modZone _ _).tellZoneChange _ _ _
  · exact h

theorem zoneRequest (h : Works s t) (z : Nat) (a : ZoneAction) : Works s (zoneRequest z a t).2 := by
  unfold Machine.zoneRequest
  split
  · exact h
  cases a with
  | on => exact h.zoneOnRequest z
  | off => exact h.zoneOffRequest z
  | reset => exact h.zoneResetRequest z

theorem seqQueueRequest (h : Works s t) (z : Nat) : Works s (seqQueueRequest z t).2 := by
  unfold Machine.seqQueueRequest
  split
  · exact h
  split
  · exact h
  split
  case h_3 =>
    split
    · exact h
    · exact h.queueZone z
  all_goals exact h

theorem isolateZone (h : Works s t) (z : Nat) : Works s (isolateZone t z) := by
  unfold Machine.isolateZone
  dsimp only
  split
  · have off := h.modZone z fun r => { r with state := .isolated, adoptPending := false }
    split
    · exact ((off.queueDisable z).tellZoneChange _ _ _).afterDeparture _
    · exact (off.tellZoneChange _ _ _).afterDeparture _
  · exact h.unqueueZone z _
  · exact (((h.modZone _ _).queueDisable z).tellZoneChange _ _ _).runArbiter
  · exact (((h.modZone _ _).queueDisable z).tellZoneChange _ _ _).afterDeparture _
  · exact h.unshedZone z _
  all_goals exact h

theorem releaseZone (h : Works s t) (z : Nat) : Works s (releaseZone t z) := by
  unfold Machine.releaseZone
  exact .ite ((h.modZone _ _).tellZoneChange _ _ _) h

theorem takeGroupNews (h : Works s t) (news : GroupNews) : Works s (takeGroupNews t news) := by
  unfold Machine.takeGroupNews
  dsimp only
  have held := h.modZc fun c => { c with groups := put c.groups news.group news.new }
  exact (Works.ite (held.foldl (fun t z => (refl t).isolateZone z) _)
    (.ite (held.foldl (fun t z => (refl t).releaseZone z) _) held)).runArbiter

theorem epoZone (h : Works s t) (z : Nat) : Works s (epoZone t z) := by
  unfold Machine.epoZone
  dsimp only
  split
  · exact h.unqueueZone z _
  · exact h.switchZoneOff z
  · exact h.switchZoneOff z
  · exact h.unshedZone z _
  · exact .ite (((h.modZone _ _).queueDisable z).afterDeparture _) h
  all_goals exact h

theorem setEpoLatch (h : Works s t) : Works s (setEpoLatch t) := by
  unfold Machine.setEpoLatch
  exact (((h.modZc _).raiseFlag _ _).modMail rfl).foldl (fun t z => (refl t).epoZone z) _

theorem takeEpoLevel (h : Works s t) (asserted : Bool) : Works s (takeEpoLevel asserted t) := by
  unfold Machine.takeEpoLevel
  exact .ite (h.modZc _).setEpoLatch (h.modZc _)

theorem epoClearRequest (h : Works s t) : Works s (epoClearRequest t).2 := by
  unfold Machine.epoClearRequest
  split
  · split
    · exact h
    · exact (h.modZc _).runArbiter
  · exact h

/-! ### News taken by the Zone Controller -/

theorem takeCapNews (h : Works s t) (news : CapNews) : Works s (takeCapNews news t) :=
  (h.modZc _).evaluateReadmit.runArbiter

theorem takeEnergyNews (h : Works s t) (energy : Nat) : Works s (takeEnergyNews energy t) :=
  (h.modZc _).evaluateReadmit

theorem takeRideNews (h : Works s t) (news : RideNews) : Works s (takeRideNews t news) := by
  cases news with
  | state x => exact (h.modZc _).runArbiter.evaluateReadmit
  | conserve x => exact (h.modZc _).evaluateReadmit

theorem takeBridging (h : Works s t) : Works s (takeBridging t) := by
  unfold Machine.takeBridging inrushShedDone
  exact ((h.modZc _).shedList _).modRide _

theorem takeLinkNews (h : Works s t) (news : LinkNews) : Works s (takeLinkNews news t) := by
  unfold Machine.takeLinkNews
  dsimp only
  have held := h.modZc fun c =>
    { c with link := news.state, action := news.action, shedTier := news.shedTier }
  exact .ite (held.foldl (fun t z => (refl t).shedZone z) _).runArbiter held.runArbiter.evaluateReadmit

/-! ### The Leak Monitor -/

theorem enterFault (h : Works s t) (c : Nat) (x : FaultCause) : Works s (enterFault c x t) :=
  (h.setChannel _ _).raiseFlag _ _

theorem faultChannel (h : Works s t) (x : FaultCause) (c : Nat) : Works s (faultChannel x t c) := by
  unfold Machine.faultChannel
  exact .ite (h.enterFault c x) h

theorem glitch (h : Works s t) (c : Nat) : Works s (glitch c t) := by
  unfold Machine.glitch
  exact .ite (h.enterFault c _) (h.setChannel _ _)

theorem indicateChannel (h : Works s t) (news : Nat × Indication) :
    Works s (indicateChannel t news) := by
  unfold Machine.indicateChannel
  dsimp only
  split
  · split
    · exact h.setChannel _ _
    · exact h
    · exact h.enterFault _ _
    · exact h
    · exact h.glitch _
    · exact h.enterFault _ _
    · exact h
    · exact h.setChannel _ _
    · exact h.enterFault _ _
    all_goals exact h
  · exact h

theorem chooseBeacon (h : Works s t) : Works s (chooseBeacon t) := by
  unfold Machine.chooseBeacon
  exact .ite h (h.modLeak _)

theorem changeGroup (h : Works s t) (g : Nat) (new : GroupState) (cause : GroupCause) :
    Works s (changeGroup g new cause t) := by
  unfold Machine.changeGroup
  exact ((((h.modLeak _).modPort rfl rfl rfl rfl fun _ hx => hx).raiseFlag _ _).modMail rfl)

theorem evaluateGroup (h : Works s t) (cause : GroupCause) (g : Nat) :
    Works s (evaluateGroup cause t g) := by
  unfold Machine.evaluateGroup evaluateFrom
  exact .ite h (h.changeGroup _ _ _)

theorem evaluateGroups (h : Works s t) (cause : GroupCause) (groups : List Nat) :
    Works s (evaluateGroups cause groups t) :=
  (h.foldl (fun t g => (refl t).evaluateGroup cause g) _).chooseBeacon

theorem evaluateChanged (h : Works s t) (before : State) (cause : GroupCause) :
    Works s (evaluateChanged before cause t) := h.evaluateGroups cause _

theorem takeIndications (h : Works s t) (news : List (Nat × Indication)) :
    Works s (takeIndications news t) :=
  (h.foldl (fun t x => (refl t).indicateChannel x) _).evaluateChanged _ _

theorem sourceLost (h : Works s t) (entry : Nat) : Works s (sourceLost entry t) :=
  (h.foldl (fun t c => (refl t).faultChannel _ c) _).evaluateChanged _ _

theorem leakTakeBridging (h : Works s t) (b : Bool) : Works s (leakTakeBridging b t) :=
  (h.modLeak _).chooseBeacon

theorem flushGroupNews (h : Works s t) : Works s (flushGroupNews t) :=
  (h.modMail rfl).foldl (fun t x => (refl t).takeGroupNews x) _

/-! ### The Ride-Through Unit -/

theorem recomputeEnergy (h : Works s t) : Works s (recomputeEnergy t) := by
  unfold Machine.recomputeEnergy
  exact .ite (h.modRide _) ((h.modRide _).modMail rfl)

theorem raiseRideChange (h : Works s t) (old : RideState) (cause : RideCause) :
    Works s (raiseRideChange old cause t) := h.raiseFlag _ _

theorem setBridging (h : Works s t) (b : Bool) : Works s (setBridging b t) :=
  driveAlert (modPort (leakTakeBridging (h.modRide _) b) rfl rfl rfl rfl fun _ hx => hx)

theorem tellZoneRide (h : Works s t) (news : RideNews) : Works s (tellZoneRide news t) :=
  h.modMail rfl

theorem tellNormal (h : Works s t) (b : Bool) : Works s (tellNormal b t) := h.modMail rfl

theorem raiseShort (h : Works s t) (p : PlanRecord) : Works s (raiseShort p t) := by
  unfold Machine.raiseShort
  exact .ite ((h.modRide _).raiseFlag _ _) h

theorem handOverPlan (h : Works s t) (p : PlanRecord) : Works s (handOverPlan p t) := by
  unfold Machine.handOverPlan
  exact .ite h (((h.modRide _).modMail rfl).raiseFlag _ _)

theorem evaluatePlan (h : Works s t) (x : Occasion) : Works s (evaluatePlan x t) :=
  ((h.modRide _).raiseShort _).handOverPlan _

theorem countEpisode (h : Works s t) : Works s (countEpisode t) := by
  unfold Machine.countEpisode
  exact .ite (((h.modRide _).modRide _ |>.tellZoneRide _).raiseRideChange _ _) (h.modRide _)

theorem enterBridging (h : Works s t) (cause : RideCause) : Works s (enterBridging cause t) := by
  unfold Machine.enterBridging
  exact (((((((h.modRide _).setBridging true).countEpisode).modRide _).tellZoneRide _).evaluatePlan
    _).modRide _).raiseRideChange _ _

theorem returnToNormal (h : Works s t) (cause : RideCause) : Works s (returnToNormal cause t) :=
  (((h.modRide _).tellZoneRide _).tellNormal true).raiseRideChange _ _

theorem indicationRises (h : Works s t) : Works s (indicationRises t) := by
  unfold Machine.indicationRises
  split
  · exact .ite ((h.tellNormal _).enterBridging _)
      ((((h.modRide _).tellZoneRide _).tellNormal _).raiseRideChange _ _)
  · exact h.enterBridging _
  all_goals exact h

theorem leaveBridging (h : Works s t) : Works s (leaveBridging t) := by
  unfold Machine.leaveBridging
  dsimp only
  have left := fun f => (h.modRide f).setBridging false
  exact .ite ((left _).returnToNormal _) ((((left _).modRide _).tellZoneRide _).raiseRideChange _ _)

theorem indicationFalls (h : Works s t) : Works s (indicationFalls t) := by
  unfold Machine.indicationFalls
  split
  · exact h.returnToNormal _
  · exact h.leaveBridging
  all_goals exact h

theorem evaluateIndication (h : Works s t) : Works s (evaluateIndication t) := by
  unfold Machine.evaluateIndication
  exact .ite (h.modRide _) (.ite (h.modRide _).indicationRises (h.modRide _).indicationFalls)

theorem takeRectifier (h : Works s t) (entry : Nat) (counted : Bool) :
    Works s (takeRectifier entry counted t) := (h.modRide _).evaluateIndication

theorem takeBattery (h : Works s t) (entry : Nat) (copy : BatteryCopy) :
    Works s (takeBattery entry copy t) := by
  unfold Machine.takeBattery
  exact .ite ((h.modRide _).recomputeEnergy.evaluatePlan _) (h.modRide _).recomputeEnergy

theorem flushConserveNews (h : Works s t) : Works s (flushConserveNews t) :=
  (h.modMail rfl).foldl (fun t x => (refl t).takeRideNews x) _

theorem rideReleaseRequest (h : Works s t) : Works s (rideReleaseRequest t) := by
  unfold Machine.rideReleaseRequest
  exact .ite (((h.modRide _).tellZoneRide _).raiseRideChange _ _).flushConserveNews (h.modRide _)

/-! ### The Frame Inspector -/

theorem tellConsumers (h : Works s t) (k : Nat) (kind : NodeKind) (x : Option NodeState) :
    Works s (tellConsumers k kind x t) := by
  cases kind with
  | rectifier => exact h.recomputeAvailable.takeRectifier _ _
  | battery => exact h.takeBattery _ _
  | feed => exact h.runArbiter
  | leak => exact .ite h (h.sourceLost k)

theorem raiseNodeChange (h : Works s t) (k : Nat) (old new : Option NodeState) (cause : NodeCause) :
    Works s (raiseNodeChange k old new cause t) := h.raiseFlag _ _

theorem changeNode (h : Works s t) (k : Nat) (x : NodeState) (cause : NodeCause) :
    Works s (changeNode k x cause t) :=
  ((h.modNode _ _).tellConsumers _ _ _).raiseNodeChange _ _ _ _

theorem storeItem (h : Works s t) (k : Nat) (x : Item) : Works s (storeItem k t x) := h.modNode _ _

theorem checkItem (h : Works s t) (k : Nat) (x : Item) : Works s (checkItem k t x) := by
  unfold Machine.checkItem
  dsimp only
  split
  · exact h.modNode _ _
  · exact (h.modNode _ _).raiseFlag _ _

theorem makeReport (h : Works s t) (k : Nat) (taken : List Item) : Works s (makeReport k taken t) := by
  unfold Machine.makeReport
  split
  · exact h
  next items _ =>
    split <;> rename_i u hu <;> obtain rfl : _ = u := congrArg Prod.fst hu
    · exact (h.queueReport _).foldl (fun t x => (refl t).modNode _ _) items
    · exact h.queueReport _

theorem replyNews (h : Works s t) (k : Nat) (before : NodeRun) (taken : List Item) :
    Works s (replyNews k before taken t) := by
  unfold Machine.replyNews
  dsimp only
  split
  · exact .ite (h.tellConsumers _ _ _) h
  · exact .ite (h.tellConsumers _ _ _) h
  · exact (Works.ite (h.tellConsumers _ _ _) h).foldl (fun t x => (refl t).zoneReport k x) _
  · exact h.takeIndications _

theorem settleNode (h : Works s t) (k : Nat) (telemetry : Bool) (base : NodeState) :
    Works s (settleNode k telemetry base t) := by
  unfold Machine.settleNode
  exact h.modNode _ _

theorem inspectReply (h : Works s t) (k : Nat) (kind : Byte) (payload : List Byte) (poll stale : Bool) :
    Works s (inspectReply k kind payload poll stale t) := by
  unfold Machine.inspectReply
  dsimp only
  have news := fun (taken : List Item) base =>
    (((((h.modNode k fun r => { r with misses := 0 }).foldl (fun t x => (refl t).storeItem k x)
      taken).foldl (fun t x => (refl t).checkItem k x) taken).settleNode k
        (kind == telemetryByte) base).replyNews k (nodeAt t k) taken)
  have told (c : Prop) [Decidable c] taken base old new :=
    Works.ite (c := c) (news taken base) ((news taken base).raiseNodeChange k old new .reply)
  exact .ite h (.ite ((told _ _ _ _ _).makeReport k _) (told _ _ _ _ _))

theorem countMiss (h : Works s t) (k : Nat) : Works s (countMiss k t) := by
  unfold Machine.countMiss
  exact .ite h (.ite ((h.modNode _ _).changeNode _ _ _) (h.modNode _ _))

theorem loseEntry (h : Works s t) (k : Nat) : Works s (loseEntry t k) := by
  unfold Machine.loseEntry
  exact .ite h (h.changeNode _ _ _)

theorem loseSegment (h : Works s t) (i : Nat) : Works s (loseSegment i t) :=
  h.foldl (fun t k => (refl t).loseEntry k) _

end Works

end Sys2Proof.Machine


namespace Sys2Proof.Machine

/-! ## The law of the segments, operation by operation -/

/-- Every block but the segments. -/
def besidesSegs : List Block :=
  [.now, .free, .pending, .tables, .image, .loader, .port, .nodes, .cap, .zc, .seq, .ride, .leak,
    .lines, .mail]

/-- What touches only blocks beside the segments leaves the segments alone. -/
theorem segs_of_erase {s t : State} (h : erase besidesSegs t = erase besidesSegs s) :
    t.segs = s.segs :=
  touches_of_erase h .segs (by decide)

theorem segmentLaw_of_segs {s t : State} (h : t.segs = s.segs) (law : SegmentLaw s) : SegmentLaw t :=
  fun i hi => by rw [segAt_congr h]; exact law i hi

theorem segmentLaw_of_erase {s t : State} (h : erase besidesSegs t = erase besidesSegs s)
    (law : SegmentLaw s) : SegmentLaw t :=
  segmentLaw_of_segs (segs_of_erase h) law

theorem Works.segmentLaw {s t : State} (h : Works s t) (law : SegmentLaw s) : SegmentLaw t :=
  fun i hi => (h.segs i).lawful (fun _ he => he.classMatches) (law i hi)

theorem segmentLaw_modSeg {i : Nat} {f : Segment → Segment} {s : State} (law : SegmentLaw s)
    (hf : LawfulSegment (segAt s i) → LawfulSegment (f (segAt s i))) : SegmentLaw (modSeg i f s) := by
  intro j hj
  rw [segAt_modSeg]
  split
  next h => obtain ⟨rfl, -⟩ := h; exact hf (law i hj)
  · exact law j hj

theorem segmentLaw_map {f : Segment → Segment} {s t : State} (law : SegmentLaw s)
    (segs : t.segs = s.segs.map f) (hf : ∀ g, LawfulSegment g → LawfulSegment (f g)) :
    SegmentLaw t := by
  intro j hj
  have h : segAt t j = f (segAt s j) := by simp [segAt, nth, segs, hj]
  rw [h]
  exact hf _ (law j hj)

theorem segmentLaw_foldl {α : Type} {f : State → α → State}
    (hf : ∀ s x, SegmentLaw s → SegmentLaw (f s x)) (l : List α) {s : State} (law : SegmentLaw s) :
    SegmentLaw (l.foldl f s) := by
  induction l generalizing s with
  | nil => exact law
  | cons x rest ih => exact ih (hf s x law)

theorem lawful_filter {g : Segment} (p : Exchange → Bool) (h : LawfulSegment g) :
    LawfulSegment { g with queue := g.queue.filter p } := by
  obtain ⟨queue, ⟨wire, empty, timer⟩, current⟩ := h
  exact ⟨queueLaw_filter p queue, ⟨wire, fun hs => by simp [empty hs], timer⟩, current⟩

/-! ### Marks, removals, enabling and disabling -/

/-- R15: the first-scan test sets at most the first scan of its segment. -/
theorem firstScanTest_segs (expiry : Bool) (i : Nat) (s : State) : ∃ x,
    (firstScanTest expiry i s).segs = (modSeg i (fun g => { g with firstScan := x }) s).segs := by
  unfold firstScanTest
  split
  · exact ⟨.complete, rfl⟩
  · refine ⟨(segAt s i).firstScan, ?_⟩
    rw [modSeg_id rfl]

theorem segmentLaw_firstScanTest (expiry : Bool) (i : Nat) {s : State} (law : SegmentLaw s) :
    SegmentLaw (firstScanTest expiry i s) := by
  obtain ⟨x, hx⟩ := firstScanTest_segs expiry i s
  exact segmentLaw_of_segs hx (segmentLaw_modSeg law id)

theorem segmentLaw_withdrawPoll (k : Nat) {s : State} (law : SegmentLaw s) :
    SegmentLaw (withdrawPoll k s).1 :=
  segmentLaw_modSeg law (lawful_filter _)

theorem segmentLaw_removeExchanges (i k : Nat) {s : State} (law : SegmentLaw s) :
    SegmentLaw (removeExchanges i k s) :=
  segmentLaw_modSeg law (lawful_filter _)

theorem segmentLaw_withdrawRelay (n : Nat) {s : State} (law : SegmentLaw s) :
    SegmentLaw (withdrawRelay n s).1 :=
  segmentLaw_map law rfl fun _ => lawful_filter _

@[simp] theorem markStale_ex (k : Nat) (c : Current) : (markStale k c).ex = c.ex := by
  unfold markStale
  split <;> rfl

theorem segmentLaw_markEntryWritten (k : Nat) {s : State} (law : SegmentLaw s) :
    SegmentLaw (markEntryWritten k s) := by
  refine segmentLaw_map law rfl fun g ⟨queue, ⟨wire, empty, timer⟩, current⟩ =>
    ⟨queue, ⟨by simpa using wire, empty, timer⟩, ?_⟩
  cases hc : g.current with
  | none => simp
  | some c => simpa [hc] using current

theorem segmentLaw_relayEnded (n : Nat) (f : RelaySlot → Frame) {s : State} (law : SegmentLaw s) :
    SegmentLaw (relayEnded n f s) :=
  segmentLaw_of_erase (by simp [besidesSegs]) law

theorem segmentLaw_tellCancelled {s : State} (e : Exchange) (law : SegmentLaw s) :
    SegmentLaw (tellCancelled s e) := by
  unfold tellCancelled
  split
  · exact law
  · exact ((Works.refl s).feedSetEnded _ _ _ _).segmentLaw law
  · split
    · exact segmentLaw_relayEnded _ _ law
    · exact law
    · exact law

theorem segmentLaw_disableSegment (i : Nat) {s : State} (law : SegmentLaw s) :
    SegmentLaw (disableSegment i s) := by
  unfold disableSegment
  dsimp only
  refine (((Works.refl _).loseSegment i).afterDeparture _).segmentLaw
    (segmentLaw_foldl (fun _ e => segmentLaw_tellCancelled e) _ (segmentLaw_modSeg law fun _ => ?_))
  exact ⟨queueLaw_nil, ⟨by simp, fun _ => rfl, by simp [isRunning]⟩, by simp⟩

theorem segmentLaw_segmentEnableWritten (i : Nat) {s : State} (law : SegmentLaw s) :
    SegmentLaw (segmentEnableWritten i s) := by
  unfold segmentEnableWritten
  split
  · split
    next hd =>
      refine segmentLaw_modSeg law fun ⟨_, ⟨wire, _⟩, current⟩ =>
        ⟨queueLaw_nil, ⟨?_, fun _ => rfl, by simp [isRunning, startTimer]⟩, current⟩
      have hd : (segAt s i).state = .disabled := by simpa using hd
      simpa [hd] using wire
    · exact law
  · split
    · exact law
    · exact segmentLaw_disableSegment i law

/-! ### Relays -/

theorem classMatches_relayExchange (n target : Nat) (k : RelayKind) (tag : Byte)
    (payload : List Byte) : classMatches (relayExchange n target k tag payload) = true := by
  cases k <;> rfl

theorem segmentLaw_joinSegment (i : Nat) {e : Exchange} (he : classMatches e = true) {s : State}
    (law : SegmentLaw s) : SegmentLaw (joinSegment i e s).state := by
  rw [joinSegment_state]
  exact segmentLaw_modSeg law (lawful_joined s i he)

theorem segmentLaw_acceptRelay (target : Nat) (k : RelayKind) (tag dest : Byte) (payload : List Byte)
    {s : State} (law : SegmentLaw s) : SegmentLaw (acceptRelay target k tag dest payload s).2 := by
  unfold acceptRelay
  split
  · exact law
  next n _ =>
    have joins := segmentLaw_joinSegment (nodeCfg s target).segment
      (classMatches_relayExchange n target k tag payload) law
    generalize joinSegment _ _ s = j at joins
    dsimp only
    split
    · exact ((Works.refl _).afterDeparture _).segmentLaw (segmentLaw_of_segs rfl joins)
    · exact joins
    · exact joins

theorem segmentLaw_relayGate (f : Frame) {s : State} (law : SegmentLaw s) :
    SegmentLaw (relayGate f s).2 := by
  unfold relayGate
  split
  · exact law
  split
  · exact law
  split
  · exact law
  split
  · exact law
  · exact segmentLaw_acceptRelay _ _ _ _ _ law

theorem segmentLaw_takeRelay (f : Frame) {s : State} (law : SegmentLaw s) :
    SegmentLaw (takeRelay f s) := by
  have gate := segmentLaw_relayGate f (s := keepPlace true s) (segmentLaw_of_segs rfl law)
  unfold takeRelay
  split <;> rename_i h <;> rw [h] at gate
  · exact gate
  · exact segmentLaw_of_segs rfl gate

theorem segmentLaw_relayTimedOut (n : Nat) {s : State} (law : SegmentLaw s) :
    SegmentLaw (relayTimedOut n s) := by
  unfold relayTimedOut
  split
  · exact law
  split
  · exact ((Works.refl _).afterDeparture _).segmentLaw
      (segmentLaw_of_erase (erase_decideAnswer _ _ _ _ _ (by decide)) (segmentLaw_withdrawRelay n law))
  · exact law
  · exact law

/-! ### The ends of exchanges (R8 to R12) -/

/-- The law of the segments while the outcome of segment `i`'s exchange is handed on. -/
structure LawBut (i : Nat) (s : State) : Prop where
  held : HeldSegment (segAt s i)
  others : ∀ j < 4, j ≠ i → LawfulSegment (segAt s j)

theorem LawBut.modSeg {i : Nat} {f : Segment → Segment} {s : State} (h : LawBut i s)
    (hf : HeldSegment (segAt s i) → HeldSegment (f (segAt s i))) : LawBut i (modSeg i f s) where
  held := by
    rw [segAt_modSeg]
    split
    · exact hf h.held
    · exact h.held
  others j hj hne := by
    rw [segAt_modSeg_ne _ _ hne.symm]
    exact h.others j hj hne

theorem LawBut.of_segs {i : Nat} {s t : State} (segs : t.segs = s.segs) (h : LawBut i s) :
    LawBut i t where
  held := by rw [segAt_congr segs]; exact h.held
  others j hj hne := by rw [segAt_congr segs]; exact h.others j hj hne

theorem LawBut.works {i : Nat} {s t : State} (h : LawBut i s) (w : Works s t) : LawBut i t where
  held := (w.segs i).held (fun _ he => he.classMatches) h.held
  others j hj hne := (w.segs j).lawful (fun _ he => he.classMatches) (h.others j hj hne)

theorem SegmentLaw.clearCurrent {i : Nat} {s : State} {c : Current} (law : SegmentLaw s)
    (current : (segAt s i).current = some c) : LawBut i (clearCurrent i s) where
  held := by
    have hi := lt_of_current current
    obtain ⟨queue, ⟨wire, -, timer⟩, -⟩ := law i hi
    have state := wire.mpr (by simp [current])
    rw [Machine.clearCurrent, segAt_modSeg_same _ _ hi]
    exact ⟨queue, state, rfl, timer.mpr (by simp [state])⟩
  others j hj hne := by
    rw [Machine.clearCurrent, segAt_modSeg_ne _ _ hne.symm]
    exact law j hj

theorem SegmentLaw.current {i : Nat} {s : State} {c : Current} (law : SegmentLaw s)
    (current : (segAt s i).current = some c) : classMatches c.ex = true := by
  obtain ⟨-, -, matched⟩ := law i (lt_of_current current)
  exact matched c (by simp [current])

/-- R6, R9: the return to IDLE, with the arbitration of the segment and the run of the Zone Controller's
arbiter for what left the queue. -/
theorem returnToIdle_eq (i : Nat) (s : State) (hi : i < 4) :
    returnToIdle i s = afterDeparture (!(segAt s i).queue.isEmpty)
      (modSeg i (fun g => arbitrated s i { g with state := .idle }) s) := by
  have taken := arbitrate_taken i (modSeg i (fun g => { g with state := .idle }) s)
  have state := arbitrate_eq i (modSeg i (fun g => { g with state := .idle }) s)
  rw [segAt_modSeg_same _ _ hi] at taken
  rw [modSeg_modSeg] at state
  unfold returnToIdle
  split
  next u b hu =>
    rw [hu] at taken state
    subst state
    subst taken
    rfl

theorem LawBut.returnToIdle {i : Nat} {s : State} (h : LawBut i s) (hi : i < 4) :
    SegmentLaw (returnToIdle i s) := by
  rw [returnToIdle_eq i s hi]
  refine ((Works.refl _).afterDeparture _).segmentLaw fun j hj => ?_
  rw [segAt_modSeg]
  split
  next hij =>
    obtain ⟨rfl, -⟩ := hij
    exact lawful_arbitrated s i h.held.queue rfl h.held.current h.held.pollTimer
  next hij => exact h.others j hj (by omega)

theorem LawBut.pollEnded {i : Nat} {s : State} (h : LawBut i s) (c : Current) :
    LawBut i (pollEnded i c s) := by
  unfold Machine.pollEnded
  dsimp only
  obtain ⟨x, hx⟩ := firstScanTest_segs false i
    (if c.stale || (nodeAt s c.ex.target).state == .disabled then s
      else Machine.modSeg i (fun g => { g with polled := put g.polled c.ex.target true }) s)
  refine .of_segs hx (.modSeg ?_ fun g => ⟨g.queue, g.state, g.current, g.pollTimer⟩)
  split
  · exact h
  · exact h.modSeg fun g => ⟨g.queue, g.state, g.current, g.pollTimer⟩

theorem LawBut.relayEnded {i : Nat} {s : State} (h : LawBut i s) (n : Nat) (f : RelaySlot → Frame) :
    LawBut i (relayEnded n f s) :=
  h.of_segs (segs_of_erase (by simp [besidesSegs]))

theorem LawBut.tellGood {i : Nat} {s : State} (h : LawBut i s) (c : Current) (reply : Frame) :
    LawBut i (tellGood i c reply s) := by
  unfold Machine.tellGood
  split
  · exact h.pollEnded c
  · exact h.works ((Works.refl s).feedSetEnded _ _ _ _)
  · split
    · exact h.relayEnded _ _
    · exact h
    · exact h

theorem LawBut.tellFailed {i : Nat} {s : State} (h : LawBut i s) (c : Current) (x : Failure) :
    LawBut i (tellFailed i c x s) := by
  unfold Machine.tellFailed
  split
  · refine LawBut.pollEnded ?_ c
    split
    · exact h
    · exact h.works ((Works.refl s).countMiss _)
  · exact h.works ((Works.refl s).feedSetEnded _ _ _ _)
  · split
    · exact h.relayEnded _ _
    · exact h
    · exact h

theorem LawBut.handFailure {i : Nat} {s : State} (h : LawBut i s) (c : Current)
    (x : Failure) (matched : classMatches c.ex = true) : LawBut i (handFailure i c x s) := by
  unfold Machine.handFailure
  split
  · exact h.tellFailed c x
  next retried =>
    split
    next q hq =>
      have notPoll : c.ex.kind ≠ .poll := by
        intro kind
        simp [classMatches, kind] at matched
        simp [matched] at retried
      have queue := queueLaw_requeue h.held.queue matched notPoll hq
      exact (h.modSeg fun g => ⟨queue, g.state, g.current, g.pollTimer⟩).modSeg
        fun g => ⟨g.queue, g.state, g.current, g.pollTimer⟩
    · exact h.tellFailed c x

theorem LawBut.modCounters {i : Nat} {s : State} (h : LawBut i s) (f : SegCounters → SegCounters) :
    LawBut i (modCounters i f s) :=
  h.modSeg fun g => ⟨g.queue, g.state, g.current, g.pollTimer⟩

theorem segmentLaw_endFailed {i : Nat} {c : Current} (x : Failure) {s : State} (law : SegmentLaw s)
    (current : (segAt s i).current = some c) : SegmentLaw (endFailed i c x s) := by
  have hi := lt_of_current current
  have counted := (law.clearCurrent current).modCounters (countFailure x)
  unfold endFailed
  refine ((LawBut.handFailure ?_ c x (law.current current))).returnToIdle hi
  cases x with
  | readback index => exact counted.works ((Works.refl _).raiseFlag _ _)
  | noReply => exact counted
  | badReply => exact counted

theorem segmentLaw_endGood {i : Nat} {c : Current} (reply : Frame) {s : State} (law : SegmentLaw s)
    (current : (segAt s i).current = some c) : SegmentLaw (endGood i c reply s) := by
  have counted := (law.clearCurrent current).modCounters fun n => { n with good := sat16 n.good }
  unfold endGood
  exact ((counted.works ((Works.refl _).inspectReply _ _ _ _ _)).tellGood c reply).returnToIdle
    (lt_of_current current)

/-! ### The events of an exchange -/

theorem segmentLaw_setCurrent {i : Nat} {c c' : Current} {s : State} (law : SegmentLaw s)
    (current : (segAt s i).current = some c) (same : c'.ex = c.ex) :
    SegmentLaw (setCurrent i c' s) := by
  refine segmentLaw_modSeg law fun ⟨queue, ⟨wire, empty, timer⟩, matched⟩ =>
    ⟨queue, ⟨by simpa [current] using wire, empty, timer⟩, ?_⟩
  simpa [current, same] using matched

theorem segmentLaw_sendCompleted (i : Nat) {s : State} (law : SegmentLaw s) :
    SegmentLaw (sendCompleted i s) := by
  unfold sendCompleted
  split
  · exact law
  next hc =>
    split
    · exact segmentLaw_setCurrent law hc rfl
    all_goals exact law

theorem segmentLaw_firstByteHeard (i : Nat) {s : State} (law : SegmentLaw s) :
    SegmentLaw (firstByteHeard i s) := by
  unfold firstByteHeard
  split
  · exact law
  next hc =>
    split
    · exact segmentLaw_setCurrent law hc rfl
    all_goals exact law

theorem segmentLaw_readbackDiffers (i : Nat) (index : Byte) {s : State} (law : SegmentLaw s) :
    SegmentLaw (readbackDiffers i index s) := by
  unfold readbackDiffers
  split
  · exact law
  next hc =>
    split
    · exact segmentLaw_endFailed _ law hc
    all_goals exact law

theorem segmentLaw_windowPassed (i : Nat) {s : State} (law : SegmentLaw s) :
    SegmentLaw (windowPassed i s) := by
  unfold windowPassed
  split
  · exact law
  next hc =>
    split
    · exact segmentLaw_endFailed _ law hc
    all_goals exact law

theorem segmentLaw_replyBroken (i : Nat) {s : State} (law : SegmentLaw s) :
    SegmentLaw (replyBroken i s) := by
  unfold replyBroken
  split
  · exact law
  next hc =>
    split
    · exact segmentLaw_endFailed _ law hc
    all_goals exact law

theorem segmentLaw_replyArrived (i : Nat) (bytes : List Byte) {s : State} (law : SegmentLaw s) :
    SegmentLaw (replyArrived i bytes s) := by
  unfold replyArrived
  split
  · exact law
  next hc =>
    split
    · split
      · exact segmentLaw_endGood _ law hc
      · exact segmentLaw_endFailed _ law hc
    all_goals exact law

/-! ### The poll timer -/

theorem segmentLaw_offerPolls (i : Nat) (l : List Nat) {x : Scan} (law : SegmentLaw x.state) :
    SegmentLaw (l.foldl (offerPoll i) x).state := by
  induction l generalizing x with
  | nil => exact law
  | cons k rest ih =>
    refine ih ?_
    unfold offerPoll
    dsimp only
    split <;> exact segmentLaw_joinSegment i rfl law

theorem segmentLaw_runScan (i : Nat) {s : State} (law : SegmentLaw s) :
    SegmentLaw (runScan i s).1 := by
  have scanned := segmentLaw_offerPolls i (allEntries.filter (isScanned s i)) (x := ⟨0, false, s⟩) law
  unfold runScan
  dsimp only
  split
  · exact scanned
  · exact ((Works.refl _).raiseFlag _ _).segmentLaw (segmentLaw_modSeg scanned id)

theorem works_requeueOwed (x : State × Bool) (z : Nat) : Works x.1 (requeueOwed x z).1 :=
  (Works.refl _).queueDisable z

theorem works_runOwed (i : Nat) (s : State) : Works s (runOwed i s).1 := by
  have run (l : List Nat) (x : State × Bool) : Works x.1 (l.foldl requeueOwed x).1 := by
    induction l generalizing x with
    | nil => exact .refl _
    | cons z rest ih => exact (works_requeueOwed x z).trans (ih _)
  exact run (owedOn s i) (s, false)

theorem segmentLaw_scanAndOwed (i : Nat) {s : State} (law : SegmentLaw s) :
    SegmentLaw (scanAndOwed i s).1 := by
  unfold scanAndOwed
  split
  · exact segmentLaw_runScan i law
  split
  · exact segmentLaw_runScan i
      ((works_runOwed i (useFree s)).segmentLaw (segmentLaw_of_segs rfl law))
  · exact (works_runOwed i _).segmentLaw (segmentLaw_runScan i (segmentLaw_of_segs rfl law))

theorem segmentLaw_ageItems (i : Nat) {s : State} (law : SegmentLaw s) : SegmentLaw (ageItems i s) :=
  segmentLaw_of_segs rfl law

theorem segmentLaw_pollExpired (i : Nat) {s : State} (law : SegmentLaw s)
    (runs : isRunning (segAt s i).pollTimer = true) : SegmentLaw (pollExpired i s) := by
  have restarted : SegmentLaw
      (modSeg i (fun g => { g with pollTimer := startTimer s (pollPeriod s i) }) s) :=
    segmentLaw_modSeg law fun ⟨queue, ⟨wire, empty, timer⟩, current⟩ =>
      ⟨queue, ⟨wire, empty, fun _ => timer.mp runs, fun _ => rfl⟩, current⟩
  have scanned := segmentLaw_scanAndOwed i (segmentLaw_ageItems i restarted)
  unfold pollExpired
  exact ((Works.refl _).afterDeparture _).segmentLaw (segmentLaw_firstScanTest true i scanned)

/-! ### Node requests and table writes -/

theorem segmentLaw_nodeRequest (k : Nat) (disable : Bool) {s : State} (law : SegmentLaw s) :
    SegmentLaw (nodeRequest k disable s).2 := by
  have disabled : SegmentLaw (disableEntry k s) := by
    unfold disableEntry
    exact ((Works.refl _).afterDeparture _).segmentLaw (segmentLaw_firstScanTest _ _
      (((Works.refl _).changeNode _ _ _).segmentLaw
        (segmentLaw_withdrawPoll k (segmentLaw_of_segs rfl law))))
  have enabled : SegmentLaw (enableEntry k s) := by
    unfold enableEntry
    exact segmentLaw_firstScanTest _ _
      (((Works.refl _).changeNode _ _ _).segmentLaw (segmentLaw_of_segs rfl law))
  unfold nodeRequest
  split
  · exact law
  split
  · exact law
  split <;> dsimp only <;> split <;> assumption

theorem works_tellWritten (k : Nat) (old new : NodeCfg) (s : State) :
    Works s (tellWritten k old new s) := by
  unfold tellWritten
  dsimp only
  have left (c : Prop) [Decidable c] :=
    Works.ite (c := c) ((Works.refl s).tellConsumers k old.kind none) (Works.refl s)
  exact .ite ((left _).tellConsumers _ _ _) (left _)

theorem SegmentLaw.ite {c : Prop} [Decidable c] {s t : State} (hs : SegmentLaw s)
    (ht : SegmentLaw t) : SegmentLaw (if c then s else t) := by
  split
  · exact hs
  · exact ht

theorem segmentLaw_takeNodeWrite (k : Nat) (c : NodeCfg) {s : State} (law : SegmentLaw s) :
    SegmentLaw (takeNodeWrite k c s) := by
  have stored : SegmentLaw { s with
      tables := { s.tables with nodes := put s.tables.nodes k c }
      nodes := put s.nodes k (writtenRun c) } := segmentLaw_of_segs rfl law
  unfold takeNodeWrite
  generalize { s with
      tables := { s.tables with nodes := put s.tables.nodes k c }
      nodes := put s.nodes k (writtenRun c) } = u at stored
  have removed (p : Prop) [Decidable p] (i : Nat) (l : List Exchange) (old : NodeCfg) :
      SegmentLaw (tellWritten k old c
        (l.foldl tellCancelled (markEntryWritten k (if p then removeExchanges i k u else u)))) :=
    (works_tellWritten k old c _).segmentLaw (segmentLaw_foldl (fun _ e => segmentLaw_tellCancelled e) l
      (segmentLaw_markEntryWritten k (.ite (segmentLaw_removeExchanges i k stored) stored)))
  have told := removed ((nodeCfg s k).inUse = true) (nodeCfg s k).segment
    (if (nodeCfg s k).inUse then queuedFor s (nodeCfg s k).segment k else []) (nodeCfg s k)
  dsimp only
  generalize tellWritten k _ c _ = v at told
  refine ((Works.refl _).afterDeparture _).segmentLaw ?_
  have tested {t : State} {p : Prop} [Decidable p] (i : Nat) (ht : SegmentLaw t) :
      SegmentLaw (if p then firstScanTest false i t else t) :=
    .ite (segmentLaw_firstScanTest false i ht) ht
  exact tested _ (tested _ (.ite told (((Works.refl v).raiseNodeChange _ _ _ _).segmentLaw told)))

theorem segmentLaw_settingWritten (k : Nat) {s : State} (law : SegmentLaw s) :
    SegmentLaw (settingWritten k s) := by
  have enable (i : Nat) : SegmentLaw (segmentEnableChanged i s) :=
    segmentLaw_of_erase (erase_tryAutostart _ (by decide) (by decide) (by decide))
      (segmentLaw_segmentEnableWritten i law)
  have slots : Works s (slotCountWritten s) := by
    unfold slotCountWritten
    exact .ite (Works.refl s).shedSurplus (Works.refl s).runArbiter
  unfold settingWritten
  split
  · exact enable 0
  · exact enable 1
  · exact enable 2
  · exact enable 3
  · exact (Works.refl s).recomputeAvailable.segmentLaw law
  · exact slots.segmentLaw law
  · exact (Works.refl s).evaluateReadmit.segmentLaw law
  · exact (Works.refl s).evaluateIndication.segmentLaw law
  · exact (Works.refl s).recomputeEnergy.segmentLaw law
  · exact (Works.refl s).recomputeEnergy.segmentLaw law
  · exact (Works.refl s).driveAlert.segmentLaw law
  · exact (Works.refl s).driveAlert.segmentLaw law
  · exact law

theorem segmentLaw_writeSetting (k v : Nat) {s : State} (law : SegmentLaw s) :
    SegmentLaw (writeSetting k v s) := by
  unfold writeSetting
  dsimp only
  split
  · exact segmentLaw_of_segs rfl law
  · exact segmentLaw_settingWritten k (segmentLaw_of_segs rfl law)

theorem segmentLaw_takeLevelNews (news : LevelNews) {s : State} (law : SegmentLaw s) :
    SegmentLaw (takeLevelNews news s) := by
  unfold takeLevelNews
  split
  · exact (Works.refl s).evaluateIndication.segmentLaw law
  split
  · exact ((Works.refl s).takeEpoLevel _).segmentLaw law
  · exact segmentLaw_of_erase (by simp [besidesSegs]) law

theorem segmentLaw_writeLine (i : Nat) (c : LineCfg) {s : State} (law : SegmentLaw s) :
    SegmentLaw (writeLine i c s) := by
  unfold writeLine
  dsimp only
  split
  · split
    · exact segmentLaw_of_segs rfl law
    · exact segmentLaw_takeLevelNews _ (segmentLaw_of_segs rfl law)
  split
  · exact segmentLaw_of_erase (by simp [besidesSegs]) law
  split
  · exact segmentLaw_of_erase (by simp [besidesSegs]) law
  · exact segmentLaw_of_segs rfl law

theorem segmentLaw_offerEntry (table : TableId) (k : Nat) (bytes : List Byte) {s : State}
    (law : SegmentLaw s) : SegmentLaw (offerEntry table k bytes s).1 := by
  unfold offerEntry
  cases table with
  | node =>
    dsimp only
    split
    · exact law
    · split
      · exact segmentLaw_takeNodeWrite k _ law
      · exact law
  | limit => dsimp only; split; exacts [law, segmentLaw_of_segs rfl law]
  | zone =>
    dsimp only
    split
    · exact law
    · split
      · exact segmentLaw_of_segs rfl law
      · exact law
  | leakChannel =>
    dsimp only
    split
    · exact law
    · exact segmentLaw_of_erase (by simp [besidesSegs]) law
  | leakMap =>
    dsimp only
    split
    · exact law
    · exact segmentLaw_of_erase (by simp [besidesSegs]) law
  | sequence =>
    dsimp only
    split
    · exact law
    · split
      · exact law
      · exact segmentLaw_of_segs rfl law
  | line => dsimp only; split; exacts [law, segmentLaw_writeLine k _ law]
  | settings => dsimp only; split; exacts [law, segmentLaw_writeSetting k _ law]

theorem segmentLaw_takeEntries (table : TableId) (l : List (List Byte)) {p : Progress}
    (law : SegmentLaw p.state) : SegmentLaw (l.foldl (takeEntry table) p).state := by
  induction l generalizing p with
  | nil => exact law
  | cons bytes rest ih =>
    refine ih ?_
    have offered := segmentLaw_offerEntry table p.next bytes law
    unfold takeEntry
    split
    · exact law
    split <;> rename_i h <;> rw [h] at offered <;> exact offered

theorem segmentLaw_tableDataRequest (payload : List Byte) {s : State} (law : SegmentLaw s) :
    SegmentLaw (tableDataRequest payload s).2.2 := by
  unfold tableDataRequest
  split
  · exact law
  split
  · exact law
  dsimp only
  split
  next r _ _ =>
    have taken := segmentLaw_takeEntries r.table
      (entriesOf (entrySize r.table) (payload.length / entrySize r.table) payload)
      (p := ⟨0, 0, none, r.next, r.remaining, s⟩) law
    dsimp only
    unfold afterData
    split
    · exact segmentLaw_of_segs rfl taken
    · exact segmentLaw_of_segs rfl taken
  · exact law

/-! ### Requests and frames -/

theorem segmentLaw_carryOut (r : Request) {s : State} (law : SegmentLaw s) :
    SegmentLaw (carryOut r s).2.2 := by
  cases r with
  | tableData payload => exact segmentLaw_tableDataRequest payload law
  | zone z action => exact ((Works.refl s).zoneRequest _ _).segmentLaw law
  | leakClear group =>
    have cleared : SegmentLaw (leakClear group.toNat s).2 :=
      segmentLaw_of_erase (by simp [besidesSegs]) law
    unfold carryOut leakClearRequest
    dsimp only
    split <;> rename_i h <;> rw [h] at cleared
    · exact cleared
    · exact (Works.refl _).flushGroupNews.segmentLaw cleared
  | epoClear => exact (Works.refl s).epoClearRequest.segmentLaw law
  | rideRelease => exact (Works.refl s).rideReleaseRequest.segmentLaw law
  | node entry disable => exact segmentLaw_nodeRequest _ _ law
  | keepalive => exact segmentLaw_of_erase (by simp [carryOut, besidesSegs]) law
  | status subject index => exact law
  | flagTake flags => exact segmentLaw_of_erase (by simp [carryOut, besidesSegs]) law
  | tableLoad table start count => exact segmentLaw_of_erase (by simp [carryOut, besidesSegs]) law
  | tableRead table start count => exact law
  | seqRun start count => exact segmentLaw_of_erase (by simp [carryOut, besidesSegs]) law
  | seqStop => exact segmentLaw_of_erase (by simp [carryOut, besidesSegs]) law
  | imageSave => exact segmentLaw_of_erase (by simp [carryOut, besidesSegs]) law
  | imageErase => exact segmentLaw_of_erase (by simp [carryOut, besidesSegs]) law
  | reset hard => exact segmentLaw_of_segs rfl law

theorem segmentLaw_serve (tag : Byte) (r : Request) {s : State} (law : SegmentLaw s) :
    SegmentLaw (serve tag r s) :=
  segmentLaw_of_segs (s := (carryOut r (keepPlace true s)).2.2) rfl
    (segmentLaw_carryOut r (segmentLaw_of_segs rfl law))

theorem segmentLaw_takeFrame (f : Frame) {s : State} (law : SegmentLaw s) :
    SegmentLaw (takeFrame f s) := by
  unfold takeFrame
  split
  · split
    · exact segmentLaw_serve _ _ law
    · exact segmentLaw_of_segs rfl law
  · exact segmentLaw_takeRelay f law

theorem segmentLaw_takeHead {s : State} (law : SegmentLaw s) : SegmentLaw (takeHead s) := by
  unfold takeHead
  split
  · exact law
  split
  · exact segmentLaw_takeFrame _ (segmentLaw_of_segs rfl law)
  · exact law

theorem segmentLaw_request (tag : Byte) (r : Request) {s : State} (law : SegmentLaw s) :
    SegmentLaw (request tag r s) := by
  unfold request
  split
  · exact segmentLaw_of_segs rfl law
  split
  · exact segmentLaw_serve tag r law
  · exact segmentLaw_of_erase (by simp [besidesSegs]) law

theorem segmentLaw_relayArrives (f : Frame) {s : State} (law : SegmentLaw s) :
    SegmentLaw (relayArrives f s) := by
  unfold relayArrives
  split
  · exact segmentLaw_of_segs rfl law
  split
  · exact segmentLaw_of_segs rfl law
  split
  · exact segmentLaw_takeFrame f law
  · exact segmentLaw_of_erase (by simp [besidesSegs]) law

/-! ### Resets -/

theorem lawful_segmentReset (s : State) (i : Nat) : LawfulSegment (segmentReset s i) := by
  unfold segmentReset
  dsimp only
  split
  · exact ⟨queueLaw_nil, by simp [Segment.idleAfterReset, SegmentStateLaw, isRunning],
      by simp [Segment.idleAfterReset]⟩
  · exact ⟨queueLaw_nil, by simp [Segment.idleAfterReset, SegmentStateLaw, isRunning],
      by simp [Segment.idleAfterReset]⟩

theorem segmentLaw_blocksReset (k : Kept) (s : State) : SegmentLaw (blocksReset k s) := by
  intro i hi
  have h : segAt (blocksReset k s) i = segmentReset s i := nth_tabulate _ i hi
  rw [h]
  exact lawful_segmentReset s i

theorem segs_restart (particulars : List Byte) (s : State) : (restart particulars s).segs = s.segs :=
  segs_of_erase (by simp [restart, leakSettled, besidesSegs])

theorem segmentLaw_coldReset (kind : ResetKind) (s : State) : SegmentLaw (coldReset kind s) := by
  unfold coldReset
  dsimp only
  refine segmentLaw_of_erase (erase_tryAutostart _ (by decide) (by decide) (by decide)) ?_
  have restarted (p : List Byte) (k : Kept) (t : State) : SegmentLaw (restart p (blocksReset k t)) :=
    segmentLaw_of_segs (segs_restart _ _) (segmentLaw_blocksReset k t)
  split
  · exact restarted _ _ _
  · exact segmentLaw_of_erase (erase_raiseImage _ _ (by decide)) (restarted _ _ _)

theorem segmentLaw_warmReset (s : State) : SegmentLaw (warmReset s) := by
  have restarted (p : List Byte) (k : Kept) (t : State) : SegmentLaw (restart p (blocksReset k t)) :=
    segmentLaw_of_segs (segs_restart _ _) (segmentLaw_blocksReset k t)
  unfold warmReset
  dsimp only
  split
  · exact segmentLaw_of_erase (erase_raiseImage _ _ (by decide)) (restarted _ _ _)
  · exact restarted _ _ _

/-! ### Line samples, expiries and deliveries -/

theorem segmentLaw_sampleLine (i : Nat) (drive : PinDrive) {s : State} (law : SegmentLaw s) :
    SegmentLaw (sampleLine i drive s) := by
  have sampled : SegmentLaw (sampledLevel i drive s).2 :=
    segmentLaw_of_erase (by simp [besidesSegs]) law
  unfold sampleLine judgeSample
  dsimp only
  split
  · exact segmentLaw_of_segs rfl sampled
  split
  · exact segmentLaw_takeLevelNews _ (segmentLaw_of_segs rfl sampled)
  · exact segmentLaw_of_segs rfl sampled

theorem segmentLaw_onExpiry (x : Timer) {f : State → State}
    (hf : ∀ s, SegmentLaw s → SegmentLaw (f s)) {s : State} (law : SegmentLaw s) :
    SegmentLaw (onExpiry x f s) := by
  cases x with
  | stopped => exact law
  | running d => exact hf _ (segmentLaw_of_segs rfl law)

theorem segmentLaw_onDelivery {α : Type} (path : List α) (rest : List α → Mail → Mail)
    {f : α → State → State} (hf : ∀ x s, SegmentLaw s → SegmentLaw (f x s)) {s : State}
    (law : SegmentLaw s) : SegmentLaw (onDelivery path rest f s) := by
  cases path with
  | nil => exact law
  | cons x tail => exact hf x _ (segmentLaw_of_segs rfl law)

/-- Nothing but the blocks beside the segments is touched. -/
def Untouched (f : State → State) : Prop := ∀ s, erase besidesSegs (f s) = erase besidesSegs s

theorem Untouched.segmentLaw {f : State → State} (h : Untouched f) {s : State} (law : SegmentLaw s) :
    SegmentLaw (f s) :=
  segmentLaw_of_erase (h s) law

theorem Untouched.onExpiry {f : State → State} (h : Untouched f) (x : Timer) {s : State}
    (law : SegmentLaw s) : SegmentLaw (onExpiry x f s) :=
  segmentLaw_onExpiry x (fun _ => h.segmentLaw) law

theorem segmentLaw_onDelivery_untouched {α : Type} (path : List α) (rest : List α → Mail → Mail)
    {f : α → State → State} (h : ∀ x, Untouched (f x)) {s : State} (law : SegmentLaw s) :
    SegmentLaw (onDelivery path rest f s) :=
  segmentLaw_onDelivery path rest (fun x _ => (h x).segmentLaw) law

theorem segmentLaw_onExpiry_works (x : Timer) {f : State → State} (h : ∀ s, Works s (f s)) {s : State}
    (law : SegmentLaw s) : SegmentLaw (onExpiry x f s) :=
  segmentLaw_onExpiry x (fun s => (h s).segmentLaw) law

theorem segmentLaw_onDelivery_works {α : Type} (path : List α) (rest : List α → Mail → Mail)
    {f : α → State → State} (h : ∀ x s, Works s (f x s)) {s : State} (law : SegmentLaw s) :
    SegmentLaw (onDelivery path rest f s) :=
  segmentLaw_onDelivery path rest (fun x s => (h x s).segmentLaw) law

/-! ### The Zone Controller's events -/

theorem works_inrushExpired (z : Nat) (s : State) : Works s (inrushExpired z s) :=
  .ite ((Works.refl s).failAttempt _ _) (.refl s)

theorem works_retryExpired (z : Nat) (s : State) : Works s (retryExpired z s) :=
  ((Works.refl s).modZone _ _).runArbiter

theorem segmentLaw_modMail (f : Mail → Mail) {s : State} (law : SegmentLaw s) :
    SegmentLaw (modMail f s) :=
  segmentLaw_of_segs rfl law

theorem segmentLaw_takeCapacityShed (zones : List Nat) (s : State) (law : SegmentLaw s) :
    SegmentLaw (takeCapacityShed zones s) :=
  segmentLaw_modMail _ (((Works.refl s).shedList zones).segmentLaw law)

theorem segmentLaw_takePlanShed (zones : List Nat) (s : State) (law : SegmentLaw s) :
    SegmentLaw (takePlanShed zones s) :=
  segmentLaw_modMail _ (((Works.refl s).shedList zones).segmentLaw law)

theorem segmentLaw_answerSequencer (ask : SeqAsk) (s : State) (law : SegmentLaw s) :
    SegmentLaw (answerSequencer ask s) :=
  segmentLaw_modMail _ (((Works.refl s).seqQueueRequest ask.zone).segmentLaw law)

theorem segmentLaw_takeInrushShed {s : State} (law : SegmentLaw s) :
    SegmentLaw (takeInrushShed s) := by
  unfold takeInrushShed
  split
  · exact (Works.refl _).takeBridging.segmentLaw (segmentLaw_modMail _ law)
  · exact law

theorem segmentLaw_takeRideDelivery {s : State} (law : SegmentLaw s) :
    SegmentLaw (takeRideDelivery s) := by
  unfold takeRideDelivery
  split
  · exact law
  · split
    · exact law
    · exact ((Works.refl _).takeRideNews _).segmentLaw (segmentLaw_modMail _ law)
  · exact ((Works.refl _).takeRideNews _).segmentLaw (segmentLaw_modMail _ law)

/-! ### The law over one step -/

/-- The law of the segments in the state that an outcome goes on with. -/
def KeepsSegmentLaw (o : Host.Outcome State Fault Refusal) : Prop := ∀ t, o = .next t → SegmentLaw t

theorem keeps_next {t : State} (law : SegmentLaw t) : KeepsSegmentLaw (.next t) := by
  rintro _ ⟨⟩
  exact law

theorem keeps_request (tag : Byte) (r : Request) {s : State} (law : SegmentLaw s) :
    KeepsSegmentLaw (.next (request tag r s)) :=
  keeps_next (segmentLaw_request tag r law)

theorem keeps_relay (f : Frame) {s : State} (law : SegmentLaw s) :
    KeepsSegmentLaw (.next (relayArrives f s)) :=
  keeps_next (segmentLaw_relayArrives f law)

theorem keeps_untouched {f : State → State} (h : Untouched f) {s : State} (law : SegmentLaw s) :
    KeepsSegmentLaw (.next (f s)) :=
  keeps_next (h.segmentLaw law)

theorem keeps_pollTimerExpiry (i : Fin 4) {s : State} (law : SegmentLaw s) :
    KeepsSegmentLaw (execPollTimerExpiry i s) := by
  refine keeps_next ?_
  cases timer : (segAt s i).pollTimer with
  | stopped => exact law
  | running d =>
    exact segmentLaw_pollExpired i (s := { s with now := max s.now d }) (segmentLaw_of_segs rfl law)
      (by rw [segAt_congr (t := { s with now := max s.now d }) (s := s) rfl, timer]; rfl)

theorem keeps_replyWindowExpiry (i : Fin 4) {s : State} (law : SegmentLaw s) :
    KeepsSegmentLaw (execReplyWindowExpiry i s) := by
  refine keeps_next ?_
  split
  · exact law
  · exact segmentLaw_onExpiry _ (fun _ => segmentLaw_windowPassed i) law

theorem keeps_relayTimerExpiry (n : Fin 8) {s : State} (law : SegmentLaw s) :
    KeepsSegmentLaw (execRelayTimerExpiry n s) := by
  refine keeps_next ?_
  split
  · exact law
  · exact segmentLaw_onExpiry _ (fun _ => segmentLaw_relayTimedOut n) law

theorem keeps_epoFailNotice {s : State} (law : SegmentLaw s) :
    KeepsSegmentLaw (execEpoFailNotice s) := by
  refine keeps_next ?_
  split
  · exact law
  · exact segmentLaw_of_erase (erase_seqTakeEpo _ (by decide) (by decide)) (segmentLaw_modMail _ law)

theorem keeps_autostart {s : State} (law : SegmentLaw s) : KeepsSegmentLaw (execAutostart s) := by
  refine keeps_next ?_
  split
  · exact law
  · exact segmentLaw_of_erase (erase_tryAutostart _ (by decide) (by decide) (by decide))
      (segmentLaw_modMail _ law)

theorem keeps_energyFigureDelivery (receiver : Receiver) {s : State} (law : SegmentLaw s) :
    KeepsSegmentLaw (execEnergyFigureDelivery receiver s) := by
  refine keeps_next ?_
  cases receiver with
  | zoneController => exact segmentLaw_onDelivery_works _ _ (fun x s => (Works.refl s).takeEnergyNews x) law
  | sequencer => exact segmentLaw_onDelivery_untouched _ _ (fun x s => by simp [besidesSegs]) law

theorem keeps_capacityDelivery (receiver : Receiver) {s : State} (law : SegmentLaw s) :
    KeepsSegmentLaw (execCapacityDelivery receiver s) := by
  refine keeps_next ?_
  cases receiver with
  | zoneController => exact segmentLaw_onDelivery_works _ _ (fun x s => (Works.refl s).takeCapNews x) law
  | sequencer => exact segmentLaw_onDelivery_untouched _ _ (fun x s => by simp [besidesSegs]) law

theorem keeps_capacityRideNotice {s : State} (law : SegmentLaw s) :
    KeepsSegmentLaw (execCapacityRideNotice s) := by
  refine keeps_next (segmentLaw_onDelivery_untouched _ _ (fun normal s => ?_) law)
  split
  · exact erase_resumeCapacity s (by decide) (by decide) (by decide)
  · exact erase_suspendCapacity s (by decide) (by decide)

theorem keeps_hardReset {s : State} (law : SegmentLaw s) : KeepsSegmentLaw (execHardReset s) :=
  keeps_next (.ite (segmentLaw_coldReset _ s) law)

theorem keeps_softReset {s : State} (law : SegmentLaw s) : KeepsSegmentLaw (execSoftReset s) :=
  keeps_next (.ite (segmentLaw_warmReset s) law)

theorem segmentLaw_exec (c : Instr) {s : State} (law : SegmentLaw s) : KeepsSegmentLaw (exec c s) := by
  cases c with
  | powerOnReset => exact keeps_next (segmentLaw_coldReset _ s)
  | hardReset => exact keeps_hardReset law
  | softReset => exact keeps_softReset law
  | upstreamFrame bytes => exact keeps_untouched (f := judgeFrame bytes) (fun s => by simp [besidesSegs]) law
  | upstreamByteTimeout => exact keeps_untouched (f := countBroken) (fun s => by simp [besidesSegs]) law
  | rxFrameTaken => exact keeps_next (segmentLaw_takeHead law)
  | transmitStart => exact keeps_untouched (f := startSending) (fun s => by simp [besidesSegs]) law
  | transmitDone => exact keeps_untouched (f := finishSending) (fun s => by simp [besidesSegs]) law
  | keepaliveCloseTime => exact keeps_untouched (f := closeTimePassed) (fun s => by simp [besidesSegs]) law
  | imageSaveComplete crcMatches =>
    exact keeps_untouched (f := imageSaved crcMatches) (fun s => by simp [besidesSegs]) law
  | relayAnswerPlaced => exact keeps_untouched (f := placeAnswer) (fun s => by simp [besidesSegs]) law
  | resetHard tag | resetSoft tag | keepalive tag | statusSummary tag part | statusNode tag entry
  | statusZone tag zone | statusCapacity tag part | statusRide tag part | statusLeak tag part
  | statusSequencer tag part | statusSegment tag segment | statusQueues tag part | flagTake tag flags
  | tableLoad tag table start count | tableData tag payload | tableRead tag table start count
  | zoneOn tag zone | zoneOff tag zone | zoneReset tag zone | seqRun tag start count | seqStop tag
  | leakClear tag group | epoClear tag | rideRelease tag | nodeEnable tag entry
  | nodeDisable tag entry | imageSave tag | imageErase tag => exact keeps_request _ _ law
  | relayPoll tag dest payload | relayItemRead tag dest payload | relayItemWrite tag dest payload
  | relayFeedSet tag dest payload => exact keeps_relay _ law
  | loadWindowExpiry =>
    exact keeps_next (Untouched.onExpiry (f := loadStalled) (fun s => by simp [besidesSegs]) _ law)
  | relayTimerExpiry slot => exact keeps_relayTimerExpiry slot law
  | pollTimerExpiry segment => exact keeps_pollTimerExpiry segment law
  | sendComplete segment => exact keeps_next (segmentLaw_sendCompleted _ law)
  | readbackMismatch segment index => exact keeps_next (segmentLaw_readbackDiffers _ _ law)
  | replyFirstByte segment => exact keeps_next (segmentLaw_firstByteHeard _ law)
  | replyWindowExpiry segment => exact keeps_replyWindowExpiry segment law
  | replyComplete segment bytes => exact keeps_next (segmentLaw_replyArrived _ _ law)
  | replySilence segment => exact keeps_next (segmentLaw_replyBroken _ law)
  | graceTimerExpiry =>
    exact keeps_next (Untouched.onExpiry (f := graceExpired) (fun s => by simp [besidesSegs]) _ law)
  | capacityShedTaken => exact keeps_next (segmentLaw_onDelivery _ _ segmentLaw_takeCapacityShed law)
  | capacityShedCompletion =>
    exact keeps_next (segmentLaw_onDelivery_untouched _ _ (fun _ s => by simp [besidesSegs]) law)
  | capacityDelivery receiver => exact keeps_capacityDelivery receiver law
  | inrushTimerExpiry zone => exact keeps_next (segmentLaw_onExpiry_works _ (works_inrushExpired _) law)
  | retryTimerExpiry zone => exact keeps_next (segmentLaw_onExpiry_works _ (works_retryExpired _) law)
  | seqZoneQueueRequest => exact keeps_next (segmentLaw_onDelivery _ _ segmentLaw_answerSequencer law)
  | seqZoneAnswer =>
    exact keeps_next (segmentLaw_onDelivery_untouched _ _ (fun _ s => by simp [besidesSegs]) law)
  | zoneStateDelivery =>
    exact keeps_next (segmentLaw_onDelivery_untouched _ _ (fun _ s => by simp [besidesSegs]) law)
  | epoFailNotice => exact keeps_epoFailNotice law
  | stepTimerExpiry =>
    exact keeps_next (Untouched.onExpiry (f := stepTimedOut) (fun s => by simp [besidesSegs]) _ law)
  | autostart => exact keeps_autostart law
  | sequencerRideNotice =>
    exact keeps_next (segmentLaw_onDelivery_untouched _ _ (fun _ s => by simp [besidesSegs]) law)
  | energyFigureDelivery receiver => exact keeps_energyFigureDelivery receiver law
  | capacityRideNotice => exact keeps_capacityRideNotice law
  | rideDeliveryZone => exact keeps_next (segmentLaw_takeRideDelivery law)
  | confirmTimerExpiry =>
    exact keeps_next (Untouched.onExpiry (f := confirmExpired) (fun s => by simp [besidesSegs]) _ law)
  | bridgingInrushShed => exact keeps_next (segmentLaw_takeInrushShed law)
  | settleTimerExpiry =>
    exact keeps_next (Untouched.onExpiry (f := settleExpired) (fun s => by simp [besidesSegs]) _ law)
  | recomputeTimerExpiry =>
    exact keeps_next (Untouched.onExpiry (f := recomputeExpired) (fun s => by simp [besidesSegs]) _ law)
  | planShedTaken => exact keeps_next (segmentLaw_onDelivery _ _ segmentLaw_takePlanShed law)
  | planShedCompletion =>
    exact keeps_next (segmentLaw_onDelivery_untouched _ _ (fun _ s => by simp [besidesSegs]) law)
  | episodeWindowExpiry =>
    exact keeps_next (Untouched.onExpiry (f := windowExpired) (fun s => by simp [besidesSegs]) _ law)
  | leakGroupDelivery =>
    exact keeps_next (segmentLaw_onDelivery_works _ _ (fun x s => (Works.refl s).takeGroupNews x) law)
  | linkStateDelivery =>
    exact keeps_next (segmentLaw_onDelivery_works _ _ (fun x s => (Works.refl s).takeLinkNews x) law)
  | channelConfirmExpiry channel =>
    exact keeps_next (Untouched.onExpiry (f := channelConfirmed channel)
      (fun s => by simp [besidesSegs]) _ law)
  | chatterTimerExpiry =>
    exact keeps_next (Untouched.onExpiry (f := chatterExpired) (fun s => by simp [besidesSegs]) _ law)
  | beaconTimerExpiry =>
    exact keeps_next (Untouched.onExpiry (f := beaconExpired) (fun s => by simp [besidesSegs]) _ law)
  | lineSample line drive =>
    exact keeps_next (segmentLaw_onExpiry _ (fun _ => segmentLaw_sampleLine _ drive) law)

/-- Settles O4: every command keeps the law of the segments, and so does the passing of 1 ms. -/
theorem stepKeepsSegmentQueues : Obligations.StepKeepsSegmentQueues := by
  unfold Obligations.StepKeepsSegmentQueues
  intro s t law h
  unfold step at h
  split at h
  · exact keeps_next (t := { s with now := s.now + 1 }) (segmentLaw_of_segs rfl law) t h
  next c rest _ =>
    exact segmentLaw_exec c (s := { s with pending := rest }) (segmentLaw_of_segs rfl law) t h

end Sys2Proof.Machine


namespace Sys2Proof.Machine

/-! ## What a run of the Zone Controller's arbiter does (R64 to R66) -/

theorem zoneAt_modZone (z : Nat) (f : ZoneRun → ZoneRun) (s : State) (y : Nat) :
    zoneAt (modZone z f s) y = if z = y ∧ y < 32 then f (zoneAt s y) else zoneAt s y := by
  show nth (put s.zc.zones z (f (zoneAt s z))) y = _
  by_cases hzy : z = y
  · subst hzy
    by_cases hz : z < 32
    · simp [hz]
    · rw [put_of_le _ _ _ (Nat.le_of_not_lt hz)]
      simp [hz, zoneAt]
  · rw [nth_put_of_ne _ _ hzy]
    simp [hzy, zoneAt]

theorem zoneAt_congr {s t : State} (h : t.zc = s.zc) (z : Nat) : zoneAt t z = zoneAt s z := by
  simp [zoneAt, h]

/-- R65: the record of a zone that has just been granted. -/
def granted (r : ZoneRun) : ZoneRun := { r with state := .inrush, acked := false }

/-- `t` comes from `s` by work that reaches the zones by grants alone, and the segments by the enables of
the zones granted. -/
structure Grants (s t : State) : Prop where
  tables : t.tables = s.tables
  segs : ∀ i, Joins IsEnable s i (segAt s i) (segAt t i)
  queue : ∀ z ∈ t.zc.queue, z ∈ s.zc.queue
  zones : ∀ z, zoneAt t z = zoneAt s z ∨
    (z ∈ s.zc.queue ∧ (zoneAt s z).disablePending = false ∧ zoneAt t z = granted (zoneAt s z))

namespace Grants

variable {s t u : State}

theorem of_same (tables : t.tables = s.tables) (segs : t.segs = s.segs) (zc : t.zc = s.zc) :
    Grants s t where
  tables := tables
  segs i := by rw [segAt_congr segs]; exact .refl _
  queue z hz := by rwa [zc] at hz
  zones z := .inl (zoneAt_congr zc z)

theorem refl (s : State) : Grants s s := of_same rfl rfl rfl

theorem trans (h : Grants s t) (h' : Grants t u) : Grants s u where
  tables := h'.tables.trans h.tables
  segs i := (h.segs i).trans ((h'.segs i).congr h.tables.symm)
  queue z hz := h.queue z (h'.queue z hz)
  zones z := by
    rcases h'.zones z with h2 | ⟨hz, owed, h2⟩ <;> rcases h.zones z with h1 | ⟨hz', owed', h1⟩
    · exact .inl (h2.trans h1)
    · exact .inr ⟨hz', owed', h2.trans h1⟩
    · exact .inr ⟨h.queue z hz, h1 ▸ owed, h1 ▸ h2⟩
    · exact .inr ⟨hz', owed', by rw [h2, h1]; rfl⟩

theorem ite {c : Prop} [Decidable c] (h : Grants s t) (h' : Grants s u) :
    Grants s (if c then t else u) := by
  split
  · exact h
  · exact h'

/-- What touches neither the tables, the segments nor the zones grants nothing. -/
theorem of_erase {bs : List Block} (h : erase bs t = erase bs s)
    (away : Block.tables ∉ bs ∧ Block.segs ∉ bs ∧ Block.zc ∉ bs) : Grants s t :=
  have touches := touches_of_erase h
  of_same (touches .tables away.1) (touches .segs away.2.1) (touches .zc away.2.2)

theorem joinSegment (s : State) (i : Nat) {e : Exchange} (he : IsEnable e) :
    Grants s (joinSegment i e s).state where
  tables := by rw [joinSegment_state]; rfl
  segs j := by
    rw [segAt_joinSegment]
    split
    next hij => subst hij; exact .single s i _ he
    · exact .refl _
  queue z hz := by rwa [joinSegment_state] at hz
  zones z := .inl (by rw [joinSegment_state]; rfl)

theorem tellZoneChange (h : Grants s t) (z : Nat) (old new : ZoneState) :
    Grants s (tellZoneChange z old new t) := by
  have told := erase_tellZoneChange (bs := [.port, .cap, .mail]) z old new t (by decide) (by decide)
    (by decide)
  exact h.trans (of_erase told (by decide))

theorem raiseFlag (h : Grants s t) (f : EventFlag) (p : List Byte) : Grants s (raiseFlag f p t) :=
  h.trans (of_erase (bs := [.port]) (by simp) (by decide))

theorem grantZone {z : Nat} (queued : z ∈ s.zc.queue) (owed : (zoneAt s z).disablePending = false) :
    Grants s (grantZone z s) := by
  have taken : Grants s (modZone z granted (dequeueZone z s)) := by
    refine ⟨rfl, fun _ => .refl _, fun y hy => (List.mem_filter.mp hy).1, fun y => ?_⟩
    rw [zoneAt_modZone]
    split
    next h => obtain ⟨rfl, -⟩ := h; exact .inr ⟨queued, owed, rfl⟩
    · exact .inl rfl
  exact taken.tellZoneChange _ _ _

end Grants

/-- R64: an eligible zone owes no disable. -/
theorem not_owed_of_eligible {s : State} {z : Nat} (h : eligible s z = true) :
    (zoneAt s z).disablePending = false := by
  unfold eligible ineligible at h
  repeat' split at h
  all_goals simp_all

theorem Grants.arbiterRun (fuel : Nat) {s t : State} (h : Grants s t) : Grants s (arbiterRun fuel t) := by
  induction fuel generalizing t with
  | zero => exact h
  | succ fuel ih =>
    unfold Machine.arbiterRun
    split
    · split
      · exact h
      next z found =>
        have queued : z ∈ t.zc.queue := List.mem_of_find?_eq_some found
        have owed := not_owed_of_eligible (List.find?_some found)
        split
        · dsimp only
          split
          · refine ih (h.trans ((Grants.joinSegment t _ ⟨_, _, rfl⟩).trans (.grantZone ?_ ?_)))
            · rwa [joinSegment_state]
            · rwa [joinSegment_state]
          · exact h
          · exact h
        · exact h
    · exact h

theorem Grants.runArbiter {s t : State} (h : Grants s t) : Grants s (runArbiter t) := h.arbiterRun _

theorem Grants.afterDeparture {s t : State} (h : Grants s t) (departed : Bool) :
    Grants s (afterDeparture departed t) := by
  unfold Machine.afterDeparture
  exact .ite h.runArbiter h

theorem Grants.pending {s t : State} (h : Grants s t) (z : Nat) :
    (zoneAt t z).disablePending = (zoneAt s z).disablePending := by
  rcases h.zones z with h | ⟨-, -, h⟩
  · rw [h]
  · rw [h]; rfl

theorem Grants.owed {s t : State} (h : Grants s t) {z : Nat}
    (owed : (zoneAt s z).disablePending = true) : zoneAt t z = zoneAt s z := by
  rcases h.zones z with h | ⟨-, free, -⟩
  · exact h
  · simp [owed] at free

/-- A zone outside the admission queue is not granted. -/
theorem Grants.unqueued {s t : State} (h : Grants s t) {z : Nat} (hz : z ∉ s.zc.queue) :
    zoneAt t z = zoneAt s z := by
  rcases h.zones z with h | ⟨queued, -, -⟩
  · exact h
  · exact absurd queued hz

theorem sparesEnables_feedSet_off (target output : Nat) :
    SparesEnables (isFeedSet target output false) := by
  intro x output' kind
  simp [isFeedSet, kind]

theorem sparesEnables_poll (k : Nat) : SparesEnables (isPollFor k) := by
  intro x output kind
  simp [isPollFor, kind]

theorem flagNumber_lt (f : EventFlag) : flagNumber f < 24 := by
  cases f <;> decide

theorem flag_setFlag (f : EventFlag) (s : State) : inFlagSet (setFlag f s).port.flags f = true := by
  show (s.port.flags ||| flagBit f).getLsbD (flagNumber f) = true
  simp [flagBit, flagNumber_lt]

/-- R154: a flag raised is set. -/
theorem flag_raiseFlag (f : EventFlag) (p : List Byte) (s : State) :
    inFlagSet (raiseFlag f p s).port.flags f = true := by
  have raised : Works (setFlag f s) (raiseFlag f p s) := by
    unfold raiseFlag
    dsimp only
    split
    · split <;> rename_i u hu <;> obtain rfl : _ = u := congrArg Prod.fst hu
      · exact ((Works.refl _).buildNotice f p).driveAlert
      · exact ((Works.refl _).buildNotice f p).countLost.driveAlert
    · exact (Works.refl _).driveAlert
  exact raised.flags f (flag_setFlag f s)

end Sys2Proof.Machine


namespace Sys2Proof.Machine

/-! ## The poll timer's expiry (R13 to R15, R28, R68) -/

/-- What joins of exchanges other than enables, `n` of them at most, do to a segment. -/
structure Offering (n : Nat) (g g' : Segment) : Prop where
  pollTimer : g'.pollTimer = g.pollTimer
  firstScan : g'.firstScan = g.firstScan
  polled : g'.polled = g.polled
  enabled : g'.state = .disabled ↔ g.state = .disabled
  grows : g'.queue.length ≤ g.queue.length + n
  keeps : ∀ p, SparesEnables p → g.state ≠ .idle ∧ Carries g p → g'.state ≠ .idle ∧ Carries g' p

namespace Offering

variable {m n : Nat} {g g' g'' : Segment}

theorem refl (g : Segment) : Offering 0 g g := ⟨rfl, rfl, rfl, Iff.rfl, Nat.le_refl _, fun _ _ h => h⟩

theorem trans (h : Offering m g g') (h' : Offering n g' g'') : Offering (m + n) g g'' where
  pollTimer := h'.pollTimer.trans h.pollTimer
  firstScan := h'.firstScan.trans h.firstScan
  polled := h'.polled.trans h.polled
  enabled := h'.enabled.trans h.enabled
  grows := by have := h.grows; have := h'.grows; omega
  keeps p spares start := h'.keeps p spares (h.keeps p spares start)

theorem counters (g : Segment) (c : SegCounters) : Offering 0 g { g with counters := c } :=
  ⟨rfl, rfl, rfl, Iff.rfl, Nat.le_refl _, fun _ _ h => h⟩

end Offering

theorem length_offerTo_le (e : Exchange) (q : List Exchange) :
    (offerTo e q).queue.length ≤ q.length + 1 := by
  have outcome := offerTo_outcome e q
  generalize offerTo e q = o at outcome
  cases outcome with
  | refused => exact Nat.le_succ _
  | stands => exact Nat.le_succ _
  | joins => simp
  | replaces => simpa using List.length_filter_le _ q

theorem length_arbitrated_le (s : State) (i : Nat) (g : Segment) :
    (arbitrated s i g).queue.length ≤ g.queue.length := by
  unfold arbitrated
  split
  next h => simp [h]
  · exact Nat.le_refl _

theorem offering_joined (s : State) (i : Nat) (e : Exchange) (g : Segment) :
    Offering 1 g (joined s i e g) where
  pollTimer := (sameMarks_joined s i e g).pollTimer
  firstScan := (sameMarks_joined s i e g).firstScan
  polled := (sameMarks_joined s i e g).polled
  enabled := joined_state_disabled s i e g
  grows := by
    unfold joined
    split
    · exact Nat.le_succ _
    · exact (length_arbitrated_le s i _).trans (length_offerTo_le e g.queue)
  keeps _ := carries_joined s i e

/-- An exchange that meets `p` stands on a segment that is not IDLE. -/
def Stands (g : Segment) (p : Exchange → Bool) : Prop := g.state ≠ .idle ∧ Carries g p

/-- One offer of a fold: it does to the segment at most what one join does, and where there is room it
brings its exchange onto the segment. -/
structure OfferStep {α β : Type} (seg : β → Segment) (p : α → Exchange → Bool) (x y : β) (a : α) :
    Prop where
  offering : Offering 1 (seg x) (seg y)
  stands : (seg x).state ≠ .disabled → (seg x).queue.length < 20 → Stands (seg y) (p a)

theorem offering_foldl {α β : Type} {f : β → α → β} {seg : β → Segment} {p : α → Exchange → Bool}
    {I : β → Prop} (l : List α) (inv : ∀ x a, I x → I (f x a))
    (step : ∀ x, ∀ a ∈ l, I x → OfferStep seg p x (f x a) a) {x : β} (start : I x) :
    Offering l.length (seg x) (seg (l.foldl f x)) := by
  induction l generalizing x with
  | nil => exact .refl _
  | cons a rest ih =>
    rw [List.length_cons, Nat.add_comm]
    exact (step x a (.head _) start).offering.trans
      (ih (fun x a ha => step x a (.tail _ ha)) (inv x a start))

/-- What is offered in turn, with room for all of it, stands on the segment at the end. -/
theorem stands_foldl {α β : Type} {f : β → α → β} {seg : β → Segment} {p : α → Exchange → Bool}
    {I : β → Prop} (l : List α) (inv : ∀ x a, I x → I (f x a)) (spares : ∀ a, SparesEnables (p a))
    (step : ∀ x, ∀ a ∈ l, I x → OfferStep seg p x (f x a) a) {x : β} (start : I x)
    (enabled : (seg x).state ≠ .disabled) (room : (seg x).queue.length + l.length ≤ 20) :
    ∀ a ∈ l, Stands (seg (l.foldl f x)) (p a) := by
  induction l generalizing x with
  | nil => simp
  | cons b rest ih =>
    have ⟨offering, stands⟩ := step x b (.head _) start
    have later : ∀ x, ∀ a ∈ rest, I x → OfferStep seg p x (f x a) a :=
      fun x a ha => step x a (.tail _ ha)
    rw [List.length_cons] at room
    intro a ha
    rcases List.mem_cons.mp ha with rfl | ha
    · exact (offering_foldl rest inv later (inv x a start)).keeps _ (spares a)
        (stands enabled (by omega))
    · exact ih later (inv x b start) (fun h => enabled (offering.enabled.mp h))
        (by have := offering.grows; omega) a ha

/-! ### The scan -/

theorem offerPoll_state (i : Nat) (x : Scan) (k : Nat) :
    (offerPoll i x k).state = (joinSegment i (pollExchange k) x.state).state := by
  unfold offerPoll
  dsimp only
  split <;> rfl

theorem offerTo_answer_of_room {e : Exchange} {q : List Exchange} (room : q.length < 20)
    (kind : ∀ output, e.kind ≠ .feedSet output true) : (offerTo e q).answer ≠ .refused := by
  have fits : classRoom e.cls q.length = true := by cases e.cls <;> simp [classRoom] <;> omega
  unfold offerTo offerRoom
  repeat' split
  all_goals simp_all

theorem offerStep_joined (s : State) (i : Nat) {e : Exchange} {g : Segment} {p : Exchange → Bool}
    (kind : ∀ output, e.kind ≠ .feedSet output true)
    (same : ∀ x, x.target = e.target → x.kind = e.kind → p x = true) (enabled : g.state ≠ .disabled)
    (room : g.queue.length < 20) : Stands (joined s i e g) p :=
  carries_joined_self s i enabled (offerTo_answer_of_room room kind) same

theorem offerStep_poll (i : Nat) (hi : i < 4) (x : Scan) (k : Nat) :
    OfferStep (fun x : Scan => segAt x.state i) isPollFor x (offerPoll i x k) k := by
  have seg : segAt (offerPoll i x k).state i = joined x.state i (pollExchange k) (segAt x.state i) := by
    rw [offerPoll_state, joinSegment_state, segAt_modSeg_same _ _ hi]
  constructor
  · rw [seg]
    exact offering_joined x.state i _ _
  · intro enabled room
    rw [seg]
    exact offerStep_joined x.state i (by simp [pollExchange])
      (fun y ht hk => isPollFor_iff.mpr ⟨ht, hk⟩) enabled room

/-- The state of a scan once its POLLs are offered. -/
def scanned (i : Nat) (s : State) : Scan :=
  (allEntries.filter (isScanned s i)).foldl (offerPoll i) ⟨0, false, s⟩

theorem runScan_eq (i : Nat) (s : State) : (runScan i s).1 =
    if (scanned i s).refused = 0 then (scanned i s).state
    else raiseFlag .scanOverrun (be1 i ++ be1 (scanned i s).refused)
      (modCounters i (fun n => { n with
        refusedPolls := min 65535 (n.refusedPolls + (scanned i s).refused) }) (scanned i s).state) := by
  unfold runScan scanned
  dsimp only
  split <;> rfl

theorem segAt_raiseFlag (f : EventFlag) (p : List Byte) (s : State) (i : Nat) :
    segAt (raiseFlag f p s) i = segAt s i :=
  segAt_congr (touches_of_erase (bs := [.port]) (by simp) .segs (by decide)) i

theorem segAt_runScan (i : Nat) (hi : i < 4) (s : State) : segAt (runScan i s).1 i =
    { segAt (scanned i s).state i with
      counters := { (segAt (scanned i s).state i).counters with
        refusedPolls := if (scanned i s).refused = 0
          then (segAt (scanned i s).state i).counters.refusedPolls
          else min 65535
            ((segAt (scanned i s).state i).counters.refusedPolls + (scanned i s).refused) } } := by
  rw [runScan_eq]
  split
  · rfl
  · rw [segAt_raiseFlag, modCounters, segAt_modSeg_same _ _ hi]

theorem offering_runScan (i : Nat) (hi : i < 4) (s : State) :
    Offering (allEntries.filter (isScanned s i)).length (segAt s i) (segAt (runScan i s).1 i) := by
  rw [segAt_runScan i hi]
  exact (offering_foldl (I := fun _ => True) _ (fun _ _ h => h)
    (fun x k _ _ => offerStep_poll i hi x k) (x := ⟨0, false, s⟩) trivial).trans (.counters _ _)

theorem stands_runScan (i : Nat) (hi : i < 4) (s : State) (enabled : (segAt s i).state ≠ .disabled)
    (room : (segAt s i).queue.length + (allEntries.filter (isScanned s i)).length ≤ 20) :
    ∀ k ∈ allEntries.filter (isScanned s i), Stands (segAt (runScan i s).1 i) (isPollFor k) := by
  rw [segAt_runScan i hi]
  exact stands_foldl (I := fun _ => True) _ (fun _ _ h => h) sparesEnables_poll
    (fun x k _ _ => offerStep_poll i hi x k) (x := ⟨0, false, s⟩) trivial enabled room

/-! ### The POLLs refused for room -/

/-- R14: of `l`'s POLLs that are not queued already, those past the room are refused. -/
def pollsRefused (l : List Nat) (q : List Exchange) : Nat :=
  (l.filter fun k => !q.any (isPollFor k)).length - (20 - q.length)

theorem any_poll_joinTail {j k : Nat} (h : k ≠ j) (q : List Exchange) :
    (joinTail (pollExchange j) q).any (isPollFor k) = q.any (isPollFor k) := by
  have perm := (joinTail_perm (pollExchange j) q).any_eq (f := isPollFor k)
  rw [perm, List.any_cons]
  simp [isPollFor, pollExchange, h.symm]

theorem offerPoll_refused (i : Nat) (x : Scan) (k : Nat) : (offerPoll i x k).refused = x.refused +
    if (joinSegment i (pollExchange k) x.state).answer = .refused then 1 else 0 := by
  unfold offerPoll
  dsimp only
  split <;> rename_i h <;> simp [h]

/-- R14: the first POLL of a scan is refused where it is not queued already and finds no room. -/
theorem pollsRefused_cons {k : Nat} {rest : List Nat} (fresh : k ∉ rest) (q : List Exchange) :
    pollsRefused (k :: rest) q =
      (if (offerTo (pollExchange k) q).answer = .refused then 1 else 0) +
        pollsRefused rest (offerTo (pollExchange k) q).queue := by
  have others : (rest.filter fun j => !(joinTail (pollExchange k) q).any (isPollFor j)) =
      rest.filter fun j => !q.any (isPollFor j) := by
    refine List.filter_congr fun j hj => ?_
    rw [any_poll_joinTail (by rintro rfl; exact fresh hj)]
  by_cases queued : q.any (isPollFor k) = true
  · have offer : offerTo (pollExchange k) q = ⟨.duplicate, q, false⟩ := by
      simp only [offerTo, pollExchange, queued, if_true]
    simp [offer, pollsRefused, queued]
  · have waits : (!q.any (isPollFor k)) = true := by rw [Bool.not_eq_true']; simpa using queued
    by_cases room : q.length < 20
    · have offer : offerTo (pollExchange k) q = ⟨.accepted, joinTail (pollExchange k) q, false⟩ := by
        simp only [offerTo, offerRoom, pollExchange, queued, classRoom, room, decide_true, if_true]
        rfl
      simp only [offer, pollsRefused, List.filter_cons, waits, if_true, others, List.length_cons,
        length_joinTail, reduceCtorEq, if_false]
      omega
    · have offer : offerTo (pollExchange k) q = ⟨.refused, q, false⟩ := by
        simp only [offerTo, offerRoom, pollExchange, queued, classRoom, room, decide_false]
        rfl
      simp only [offer, pollsRefused, List.filter_cons, waits, if_true, List.length_cons]
      omega

theorem scan_exchange (i : Nat) (hi : i < 4) (l : List Nat) (nodup : l.Nodup) {x : Scan}
    (state : (segAt x.state i).state = .exchange) :
    (l.foldl (offerPoll i) x).refused = x.refused + pollsRefused l (segAt x.state i).queue ∧
      (segAt (l.foldl (offerPoll i) x).state i).counters = (segAt x.state i).counters := by
  induction l generalizing x with
  | nil => simp [pollsRefused]
  | cons k rest ih =>
    obtain ⟨fresh, nodup⟩ := List.nodup_cons.mp nodup
    have seg : segAt (offerPoll i x k).state i = { segAt x.state i with
        queue := (offerTo (pollExchange k) (segAt x.state i).queue).queue } := by
      rw [offerPoll_state, joinSegment_state, segAt_modSeg_same _ _ hi, joined_of_exchange _ _ _ state]
    have answer := joinSegment_answer i (pollExchange k) x.state
    rw [if_neg (by simp [state])] at answer
    have ⟨refused, counters⟩ := ih nodup (x := offerPoll i x k) (by rw [seg]; exact state)
    rw [List.foldl_cons, refused, counters, seg, pollsRefused_cons fresh, offerPoll_refused, answer,
      Nat.add_assoc]
    exact ⟨rfl, rfl⟩

/-! ### The owed disables -/

/-- R68: the disable of a zone's output. -/
def disableOf (s : State) (z : Nat) : Exchange :=
  feedExchange (zoneCfg s z).feedEntry (zoneCfg s z).output false

theorem disableOf_congr {s t : State} (h : t.tables = s.tables) (z : Nat) :
    disableOf t z = disableOf s z := by
  simp [disableOf, zoneCfg, h]

theorem setDisablePending_segs (z : Nat) (x : DisableOutcome) (s : State) :
    (setDisablePending z x s).segs = s.segs :=
  touches_of_erase (bs := [.port, .zc]) (by simp) .segs (by decide)

/-- R68: the disable joins the segment of the zone's feed entry, whatever becomes of it there. -/
theorem queueDisable_segs (z : Nat) (s : State)
    (inUse : (nodeCfg s (zoneCfg s z).feedEntry).inUse = true) :
    (queueDisable z s).1.segs = (modSeg (nodeCfg s (zoneCfg s z).feedEntry).segment
      (joined s (nodeCfg s (zoneCfg s z).feedEntry).segment (disableOf s z)) s).segs := by
  unfold queueDisable
  dsimp only
  rw [if_pos inUse, ← joinSegment_state, disableOf]
  split
  · rfl
  · rfl
  · exact setDisablePending_segs _ _ _

theorem raiseFlag_zc (f : EventFlag) (p : List Byte) (s : State) : (raiseFlag f p s).zc = s.zc :=
  touches_of_erase (bs := [.port]) (by simp) .zc (by decide)

theorem setDisablePending_keeps (z : Nat) (x : DisableOutcome) {s : State} {y : Nat}
    (owed : (zoneAt s y).disablePending = true) :
    (zoneAt (setDisablePending z x s) y).disablePending = true := by
  unfold setDisablePending
  split
  · exact owed
  · dsimp only
    rw [zoneAt_congr (raiseFlag_zc _ _ _), zoneAt_modZone]
    split
    · rfl
    · exact owed

/-- An owed disable stays owed while disables are queued. -/
theorem queueDisable_keeps (z : Nat) {s : State} {y : Nat}
    (owed : (zoneAt s y).disablePending = true) :
    (zoneAt (queueDisable z s).1 y).disablePending = true := by
  unfold queueDisable
  dsimp only
  split
  · have joined : (zoneAt (joinSegment (nodeCfg s (zoneCfg s z).feedEntry).segment
        (feedExchange (zoneCfg s z).feedEntry (zoneCfg s z).output false) s).state
          y).disablePending = true := by rw [joinSegment_state]; exact owed
    split
    · exact joined
    · exact joined
    · exact setDisablePending_keeps z _ joined
  · exact setDisablePending_keeps z _ owed

theorem queueDisable_tables (z : Nat) (s : State) : (queueDisable z s).1.tables = s.tables :=
  ((Works.refl s).queueDisable z).tables

theorem runOwed_keeps (i : Nat) {s : State} {y : Nat} (owed : (zoneAt s y).disablePending = true) :
    (zoneAt (runOwed i s).1 y).disablePending = true := by
  have run (l : List Nat) (x : State × Bool) (hx : (zoneAt x.1 y).disablePending = true) :
      (zoneAt (l.foldl requeueOwed x).1 y).disablePending = true := by
    induction l generalizing x with
    | nil => exact hx
    | cons z rest ih => exact ih _ (queueDisable_keeps z hx)
  exact run (owedOn s i) (s, false) owed

/-- The disable of zone `z`, wherever it stands. -/
def isDisableOf (s : State) (z : Nat) : Exchange → Bool :=
  isFeedSet (zoneCfg s z).feedEntry (zoneCfg s z).output false

theorem of_mem_owedOn {s : State} {i z : Nat} (h : z ∈ owedOn s i) :
    (zoneAt s z).disablePending = true ∧ (nodeCfg s (zoneCfg s z).feedEntry).inUse = true ∧
      (nodeCfg s (zoneCfg s z).feedEntry).segment = i := by
  have hz := (List.mem_filter.mp h).2
  simp only [Bool.and_eq_true, beq_iff_eq] at hz
  obtain ⟨⟨⟨-, owed⟩, inUse⟩, here⟩ := hz
  exact ⟨owed, inUse, here⟩

theorem offerStep_owed {s : State} {i z : Nat} (hi : i < 4) (hz : z ∈ owedOn s i) {x : State × Bool}
    (tables : x.1.tables = s.tables) :
    OfferStep (fun x : State × Bool => segAt x.1 i) (isDisableOf s) x (requeueOwed x z) z := by
  obtain ⟨-, inUse, here⟩ := of_mem_owedOn hz
  have zone : zoneCfg x.1 z = zoneCfg s z := by simp [zoneCfg, tables]
  have node (k : Nat) : nodeCfg x.1 k = nodeCfg s k := by simp [nodeCfg, tables]
  have seg : segAt (requeueOwed x z).1 i = joined x.1 i (disableOf s z) (segAt x.1 i) := by
    have segs := queueDisable_segs z x.1 (by rw [zone, node]; exact inUse)
    rw [zone, node, here, disableOf_congr tables] at segs
    show segAt (queueDisable z x.1).1 i = _
    rw [segAt_congr segs, segAt_modSeg_same _ _ hi]
  constructor
  · rw [seg]
    exact offering_joined x.1 i _ _
  · intro enabled room
    rw [seg]
    exact offerStep_joined x.1 i (by simp [disableOf, feedExchange])
      (fun y ht hk => isFeedSet_iff.mpr ⟨ht, hk⟩) enabled room

theorem requeueOwed_tables {s : State} (x : State × Bool) (z : Nat) (h : x.1.tables = s.tables) :
    (requeueOwed x z).1.tables = s.tables :=
  (queueDisable_tables z x.1).trans h

theorem offering_runOwed (i : Nat) (hi : i < 4) (s : State) :
    Offering (owedOn s i).length (segAt s i) (segAt (runOwed i s).1 i) :=
  offering_foldl (I := fun x : State × Bool => x.1.tables = s.tables) _ requeueOwed_tables
    (fun _ _ hz h => offerStep_owed hi hz h) (x := (s, false)) rfl

theorem stands_runOwed (i : Nat) (hi : i < 4) (s : State) (enabled : (segAt s i).state ≠ .disabled)
    (room : (segAt s i).queue.length + (owedOn s i).length ≤ 20) :
    ∀ z ∈ owedOn s i, Stands (segAt (runOwed i s).1 i) (isDisableOf s z) :=
  stands_foldl (I := fun x : State × Bool => x.1.tables = s.tables) _ requeueOwed_tables
    (fun _ => sparesEnables_feedSet_off _ _) (fun _ _ hz h => offerStep_owed hi hz h)
    (x := (s, false)) rfl enabled room

/-! ### The scan and the owed disables together -/

theorem isScanned_congr {s t : State} (h : t.tables = s.tables) (i : Nat) :
    isScanned t i = isScanned s i := by
  funext k
  simp [isScanned, nodeCfg, h]

theorem owedOn_congr {s t : State} (tables : t.tables = s.tables) (zc : t.zc = s.zc) (i : Nat) :
    owedOn t i = owedOn s i := by
  simp [owedOn, nodeCfg, zoneCfg, zoneAt, tables, zc]

theorem isDisableOf_congr {s t : State} (tables : t.tables = s.tables) :
    isDisableOf t = isDisableOf s := by
  funext z
  simp [isDisableOf, zoneCfg, tables]

/-- What the scan and the owed disables of segment `i` do, in either order. -/
structure ScansAndOwes (i : Nat) (s t : State) : Prop where
  offering : Offering ((allEntries.filter (isScanned s i)).length + (owedOn s i).length) (segAt s i)
    (segAt t i)
  stands : (segAt s i).state ≠ .disabled → (segAt s i).queue.length +
      (allEntries.filter (isScanned s i)).length + (owedOn s i).length ≤ 20 →
    (∀ k ∈ allEntries.filter (isScanned s i), Stands (segAt t i) (isPollFor k)) ∧
      ∀ z ∈ owedOn s i, Stands (segAt t i) (isDisableOf s z)
  owed : ∀ z, (zoneAt s z).disablePending = true → (zoneAt t z).disablePending = true

theorem runScan_zc (i : Nat) (s : State) : (runScan i s).1.zc = s.zc :=
  touches_of_erase (bs := [.port, .segs]) (by simp) .zc (by decide)

theorem runScan_tables (i : Nat) (s : State) : (runScan i s).1.tables = s.tables :=
  touches_of_erase (bs := [.port, .segs]) (by simp) .tables (by decide)

theorem scansAndOwes_scanFirst (i : Nat) (hi : i < 4) (s : State) :
    ScansAndOwes i s (runOwed i (runScan i s).1).1 := by
  have owes := owedOn_congr (runScan_tables i s) (runScan_zc i s) i
  have scan := offering_runScan i hi s
  have owed := offering_runOwed i hi (runScan i s).1
  rw [owes] at owed
  refine ⟨scan.trans owed, fun enabled room => ⟨fun k hk => ?_, ?_⟩, fun z hz => ?_⟩
  · exact owed.keeps _ (sparesEnables_poll k) (stands_runScan i hi s enabled (by omega) k hk)
  · have stands := stands_runOwed i hi (runScan i s).1 (fun h => enabled (scan.enabled.mp h))
      (by rw [owes]; have := scan.grows; omega)
    rwa [owes, isDisableOf_congr (runScan_tables i s)] at stands
  · exact runOwed_keeps i (by rw [zoneAt_congr (runScan_zc i s)]; exact hz)

theorem scansAndOwes_owedFirst (i : Nat) (hi : i < 4) (s : State) :
    ScansAndOwes i s (runScan i (runOwed i s).1).1 := by
  have scans := isScanned_congr (works_runOwed i s).tables i
  have owed := offering_runOwed i hi s
  have scan := offering_runScan i hi (runOwed i s).1
  rw [scans] at scan
  refine ⟨Nat.add_comm _ _ ▸ owed.trans scan, fun enabled room => ⟨?_, fun z hz => ?_⟩, fun z hz => ?_⟩
  · have stands := stands_runScan i hi (runOwed i s).1 (fun h => enabled (owed.enabled.mp h))
      (by rw [scans]; have := owed.grows; omega)
    rwa [scans] at stands
  · exact scan.keeps _ (sparesEnables_feedSet_off _ _) (stands_runOwed i hi s enabled (by omega) z hz)
  · rw [zoneAt_congr (runScan_zc i _)]
    exact runOwed_keeps i hz

theorem scanAndOwed_of_none {i : Nat} {s : State} (owed : owedOn s i = []) :
    scanAndOwed i s = runScan i s := by
  simp [scanAndOwed, owed]

theorem ScansAndOwes.of_useFree {i : Nat} {s t : State} (h : ScansAndOwes i (useFree s) t) :
    ScansAndOwes i s t :=
  ⟨h.offering, h.stands, h.owed⟩

theorem scansAndOwes (i : Nat) (hi : i < 4) (s : State) : ScansAndOwes i s (scanAndOwed i s).1 := by
  cases owed : owedOn s i with
  | nil =>
    rw [scanAndOwed_of_none owed]
    have scan := offering_runScan i hi s
    refine ⟨by rwa [owed], fun enabled room => ⟨?_, by simp [owed]⟩, fun z hz => ?_⟩
    · exact stands_runScan i hi s enabled (by omega)
    · rwa [zoneAt_congr (runScan_zc i s)]
  | cons z rest =>
    unfold scanAndOwed
    rw [owed]
    simp only [List.isEmpty_cons, Bool.false_eq_true, if_false]
    split
    · exact (scansAndOwes_owedFirst i hi (useFree s)).of_useFree
    · exact (scansAndOwes_scanFirst i hi (useFree s)).of_useFree

/-! ### The first scan -/

theorem allPolled_congr {s t : State} {i : Nat} (tables : t.tables = s.tables)
    (polled : (segAt t i).polled = (segAt s i).polled) : allPolled t i = allPolled s i := by
  unfold allPolled
  rw [isScanned_congr tables, polled]

/-- R15: what the first-scan test at a poll timer expiry does. -/
theorem firstScanTest_expiry (i : Nat) (s : State) (hi : i < 4) :
    ∃ x, segAt (firstScanTest true i s) i = { segAt s i with firstScan := x } ∧
      ((segAt s i).state ≠ .disabled → allPolled s i = true → x = .complete) ∧
      (firstScanTest true i s).mail.firstScans = s.mail.firstScans +
        if (segAt s i).firstScan = .pending ∧ x = .complete then 1 else 0 := by
  unfold firstScanTest
  split
  next h =>
    have pending : (segAt s i).firstScan = .pending := by simp_all
    refine ⟨.complete, ?_, fun _ _ => rfl, by simp [pending]⟩
    exact segAt_modSeg_same (fun g => { g with firstScan := .complete }) s hi
  next h =>
    refine ⟨(segAt s i).firstScan, rfl, fun enabled polled => ?_, ?_⟩
    · cases hx : (segAt s i).firstScan with
      | complete => rfl
      | pending => simp [hx, enabled, polled] at h
    · cases (segAt s i).firstScan <;> simp

/-! ### The expiry -/

/-- The state at a poll timer expiry, once the timer is reloaded and the items have aged. -/
def reloaded (i : Nat) (s : State) : State :=
  ageItems i (modSeg i (fun g => { g with pollTimer := startTimer s (pollPeriod s i) }) s)

theorem pollExpired_eq (i : Nat) (s : State) : pollExpired i s =
    afterDeparture (scanAndOwed i (reloaded i s)).2
      (firstScanTest true i (scanAndOwed i (reloaded i s)).1) := rfl

theorem segAt_reloaded (i : Nat) (hi : i < 4) (s : State) : segAt (reloaded i s) i =
    { segAt s i with pollTimer := startTimer s (pollPeriod s i) } :=
  segAt_modSeg_same (fun g => { g with pollTimer := startTimer s (pollPeriod s i) }) s hi

theorem nodeAt_reloaded (i : Nat) (s : State) {k : Nat} (hk : k < 48) : nodeAt (reloaded i s) k =
    if agesOn s i k then { nodeAt s k with slots := (nodeAt s k).slots.map ageSlot }
    else nodeAt s k :=
  nth_tabulate _ k hk

theorem exec_pollTimerExpiry (i : Fin 4) (s : State) : exec (.pollTimerExpiry i) s =
    .next (onExpiry (segAt s i).pollTimer (pollExpired i) s) := rfl

theorem scanAndOwed_firstScans (i : Nat) (s : State) :
    (scanAndOwed i s).1.mail = s.mail :=
  touches_of_erase (bs := [.free, .port, .segs, .zc]) (by simp) .mail (by decide)

theorem scanAndOwed_nodes (i : Nat) (s : State) : (scanAndOwed i s).1.nodes = s.nodes :=
  touches_of_erase (bs := [.free, .port, .segs, .zc]) (by simp) .nodes (by decide)

theorem scanAndOwed_tables (i : Nat) (s : State) : (scanAndOwed i s).1.tables = s.tables :=
  touches_of_erase (bs := [.free, .port, .segs, .zc]) (by simp) .tables (by decide)

/-- R13 to R15: the segment at the end of a poll timer expiry, as the scan and the owed disables leave it,
the first-scan test marks it and the grants for the room made add to it. -/
structure PollExpiry (i : Nat) (s t : State) : Prop where
  frame : Touches [.free, .port, .segs, .nodes, .cap, .zc, .mail] s t
  nodes : t.nodes = (reloaded i s).nodes
  scans : ScansAndOwes i (reloaded i s) (scanAndOwed i (reloaded i s)).1
  flags : ∀ f, inFlagSet (scanAndOwed i (reloaded i s)).1.port.flags f = true →
    inFlagSet t.port.flags f = true
  seg : ∃ x, Joins IsEnable s i { segAt (scanAndOwed i (reloaded i s)).1 i with firstScan := x }
      (segAt t i) ∧
    ((segAt s i).state ≠ .disabled → allPolled s i = true → x = .complete) ∧
    t.mail.firstScans = s.mail.firstScans +
      if (segAt s i).firstScan = .pending ∧ x = .complete then 1 else 0
  zones : Grants (firstScanTest true i (scanAndOwed i (reloaded i s)).1) t

theorem pollExpiry (i : Nat) (hi : i < 4) (s : State) : PollExpiry i s (pollExpired i s) := by
  have scans := scansAndOwes i hi (reloaded i s)
  have offering := scans.offering
  have before := segAt_reloaded i hi s
  obtain ⟨x, marked, complete, told⟩ :=
    firstScanTest_expiry i (scanAndOwed i (reloaded i s)).1 hi
  have tested : erase [.segs, .mail] (firstScanTest true i (scanAndOwed i (reloaded i s)).1) =
      erase [.segs, .mail] (scanAndOwed i (reloaded i s)).1 := by simp
  rw [offering.firstScan, before, scanAndOwed_firstScans] at told
  have polled : allPolled (scanAndOwed i (reloaded i s)).1 i = allPolled s i :=
    allPolled_congr (scanAndOwed_tables i (reloaded i s)) (by rw [offering.polled, before])
  rw [Ne, offering.enabled, before, polled] at complete
  have grants := (Grants.refl (firstScanTest true i (scanAndOwed i (reloaded i s)).1)).afterDeparture
    (scanAndOwed i (reloaded i s)).2
  have works := (Works.refl (firstScanTest true i (scanAndOwed i (reloaded i s)).1)).afterDeparture
    (scanAndOwed i (reloaded i s)).2
  rw [← pollExpired_eq] at grants works
  refine ⟨touches_of_erase (by simp), ?_, scans, fun f hf => works.flags f ?_,
    ⟨x, ?_, complete, works.firstScans.trans told⟩, grants⟩
  · rw [← scanAndOwed_nodes i (reloaded i s), pollExpired_eq]
    exact touches_of_erase (bs := [.port, .segs, .cap, .zc, .mail]) (by simp) .nodes (by decide)
  · rwa [touches_of_erase tested .port (by decide)]
  · rw [← marked]
    exact (grants.segs i).congr ((touches_of_erase tested .tables (by decide)).trans
      (scanAndOwed_tables i _)).symm

theorem agesOn_iff {s : State} {i k : Nat} : agesOn s i k = true ↔
    (nodeCfg s k).inUse = true ∧ (nodeCfg s k).segment = i ∧ (nodeAt s k).state ≠ .disabled := by
  simp [agesOn, and_assoc]

/-- R28: how the items of an entry age at a poll timer expiry. -/
theorem PollExpiry.nodeAt {i : Nat} {s t : State} (h : PollExpiry i s t) {k : Nat} (hk : k < 48) :
    nodeAt t k =
      if (nodeCfg s k).inUse = true ∧ (nodeCfg s k).segment = i ∧ (nodeAt s k).state ≠ .disabled
      then { Machine.nodeAt s k with slots := (Machine.nodeAt s k).slots.map ageSlot }
      else Machine.nodeAt s k := by
  have same : Machine.nodeAt t k = Machine.nodeAt (reloaded i s) k := by
    simp [Machine.nodeAt, h.nodes]
  rw [same, nodeAt_reloaded i s hk]
  simp only [agesOn_iff]

/-- R14, R68: what the scan and the owed disables bring onto the segment is there at the end. -/
theorem PollExpiry.carries {i : Nat} {s t : State} (h : PollExpiry i s t) {p : Exchange → Bool}
    (spares : SparesEnables p) (stands : Stands (segAt (scanAndOwed i (reloaded i s)).1 i) p) :
    Carries (segAt t i) p := by
  obtain ⟨x, joins, -⟩ := h.seg
  exact (joins.carries spares stands).2

theorem PollExpiry.owed {i : Nat} {s t : State} (h : PollExpiry i s t) {z : Nat}
    (owed : (zoneAt s z).disablePending = true) : (zoneAt t z).disablePending = true := by
  have tested : (firstScanTest true i (scanAndOwed i (reloaded i s)).1).zc =
      (scanAndOwed i (reloaded i s)).1.zc :=
    touches_of_erase (bs := [.segs, .mail]) (by simp) .zc (by decide)
  rw [h.zones.pending, zoneAt_congr tested]
  exact h.scans.owed z owed

/-- R14: the POLLs refused for room on a segment in EXCHANGE that owes no disable. -/
theorem PollExpiry.refused {i : Nat} {s t : State} (h : PollExpiry i s t) (hi : i < 4)
    (state : (segAt s i).state = .exchange) (none : owedOn s i = []) {refused : Nat}
    (count : refused = pollsRefused (allEntries.filter (isScanned s i)) (segAt s i).queue) :
    (segAt t i).counters = { (segAt s i).counters with
      refusedPolls := if refused = 0 then (segAt s i).counters.refusedPolls
        else min 65535 ((segAt s i).counters.refusedPolls + refused) } ∧
    (refused ≠ 0 → inFlagSet t.port.flags .scanOverrun = true) := by
  have before := segAt_reloaded i hi s
  have nodup : (allEntries.filter (isScanned s i)).Nodup := List.nodup_range.filter _
  have ⟨total, counters⟩ := scan_exchange i hi _ nodup (x := ⟨0, false, reloaded i s⟩)
    (by rw [before]; exact state)
  rw [before, Nat.zero_add] at total
  rw [before] at counters
  have total : (scanned i (reloaded i s)).refused = refused := total.trans count.symm
  have scan : scanAndOwed i (reloaded i s) = runScan i (reloaded i s) := scanAndOwed_of_none none
  obtain ⟨x, joins, -⟩ := h.seg
  have flags := h.flags .scanOverrun
  rw [scan] at joins flags
  refine ⟨?_, fun some => flags ?_⟩
  · rw [joins.marks.counters, segAt_runScan i hi, total]
    dsimp only
    rw [show (segAt (scanned i (reloaded i s)).state i).counters = (segAt s i).counters from counters]
  · rw [runScan_eq, total, if_neg some]
    exact flag_raiseFlag _ _ _

/-- Settles O55: the timer's expiry reloads it, ages the items, and offers the scan's POLLs and the owed
disables; what stands on the segment then is still there once the freed room is granted. -/
theorem pollTimerScansAndAges : Obligations.PollTimerScansAndAges := by
  unfold Obligations.PollTimerScansAndAges
  intro i s
  refine ⟨fun stopped => ?_, fun d running => ?_⟩
  · rw [exec_pollTimerExpiry, stopped]; rfl
  have expiry := pollExpiry i i.isLt (atTime d s)
  have exec : exec (.pollTimerExpiry i) s = .next (pollExpired i (atTime d s)) := by
    rw [exec_pollTimerExpiry, running]; rfl
  refine ⟨_, exec, ?_⟩
  generalize pollExpired i (atTime d s) = t at expiry
  have now : t.now = max s.now d := expiry.frame .now (by decide)
  have before := segAt_reloaded i i.isLt (atTime d s)
  obtain ⟨x, joins, complete, told⟩ := expiry.seg
  have offering := expiry.scans.offering
  refine ⟨?_, now, ?_, fun k hk => expiry.nodeAt hk, fun enabled room => ?_,
    fun z hz => expiry.owed ?_, fun state none refused count => ?_, fun enabled polled => ?_, ?_⟩
  · exact touches_of_erase (by
      rw [erase_of_touches fun b hb => expiry.frame b fun hb' => hb (.tail _ hb')]; simp [atTime, erase])
  · rw [joins.marks.pollTimer, now]
    exact offering.pollTimer.trans (by rw [before]; rfl)
  · have ⟨polls, disables⟩ := expiry.scans.stands (by rw [before]; exact enabled)
      (by rw [before]; exact room)
    exact ⟨fun k hk scan => expiry.carries (sparesEnables_poll k)
        (polls k (List.mem_filter.mpr ⟨List.mem_range.mpr hk, scan⟩)),
      fun z hz => expiry.carries (sparesEnables_feedSet_off _ _) (disables z hz)⟩
  · have ⟨owed, _⟩ := of_mem_owedOn hz
    exact owed
  · refine expiry.refused i.isLt state none ?_
    rw [count, pollsRefused, List.filter_filter]
    simp only [Bool.and_comm]
    rfl
  · rw [joins.marks.firstScan]
    exact complete enabled polled
  · rw [told, joins.marks.firstScan]
    rfl

end Sys2Proof.Machine


namespace Sys2Proof.Machine

/-! ## What a queue keeps while an outcome is handed on (R3 to R6, R11) -/

/-- What one offer of a FEED_SET keeps of a queue, a run of joins at a segment in EXCHANGE keeps. -/
theorem Joins.queue {P : Exchange → Prop} {s : State} {i : Nat} {g g' : Segment} (h : Joins P s i g g')
    {J : List Exchange → Prop} (step : ∀ q e, P e → J q → J (offerTo e q).queue)
    (state : g.state = .exchange) (start : J g.queue) : J g'.queue := by
  have both : g'.state = .exchange ∧ J g'.queue :=
    h.keeps (I := fun x => x.state = .exchange ∧ J x.queue) (fun x e he hx => by
      obtain ⟨hx, hJ⟩ := hx
      rw [joined_of_exchange s i e hx]
      exact ⟨hx, step _ _ he hJ⟩) ⟨state, start⟩
  exact both.2

theorem offerTo_ne_nil (q : List Exchange) (e : Exchange) (h : q ≠ []) : (offerTo e q).queue ≠ [] := by
  have outcome := offerTo_outcome e q
  generalize offerTo e q = o at outcome
  cases outcome with
  | refused => exact h
  | stands => exact h
  | joins => simp [joinTail]
  | replaces => simp [joinTail]

/-- A queue holds an exchange of class URGENT or CONTROL. -/
def HoldsPressing (q : List Exchange) : Prop := ∃ x ∈ q, classRank x.cls ≤ 1

theorem holdsPressing_offerTo (q : List Exchange) (e : Exchange) (he : IsFeed e)
    (h : HoldsPressing q) : HoldsPressing (offerTo e q).queue := by
  obtain ⟨x, hx, rank⟩ := h
  have pressing : classRank e.cls ≤ 1 := by
    obtain ⟨_, _, on, rfl⟩ := he
    cases on <;> simp [feedExchange, classRank]
  have outcome := offerTo_outcome e q
  generalize offerTo e q = o at outcome
  cases outcome with
  | refused => exact ⟨x, hx, rank⟩
  | stands => exact ⟨x, hx, rank⟩
  | joins => exact ⟨x, mem_joinTail.mpr (.inr hx), rank⟩
  | replaces => exact ⟨e, mem_joinTail.mpr (.inl rfl), pressing⟩

theorem head_joinTail {e d : Exchange} {q : List Exchange} (urgent : e.cls = .urgent)
    (h : q.head? = some e) : (joinTail d q).head? = some e := by
  cases q with
  | nil => cases h
  | cons x rest =>
    obtain rfl : x = e := by simpa using h
    simp [joinTail, urgent, classRank]

theorem head_joinHead {e d : Exchange} {q : List Exchange} (urgent : e.cls = .urgent)
    (less : d.cls ≠ .urgent) (h : q.head? = some e) : (joinHead d q).head? = some e := by
  cases q with
  | nil => cases h
  | cons x rest =>
    obtain rfl : x = e := by simpa using h
    cases hd : d.cls <;> simp_all [joinHead, classRank]

/-- An URGENT exchange at the head of a queue stays there: what joins stands behind it, and a disable
removes only enables, which are of class CONTROL. -/
theorem head_offerTo {e : Exchange} (urgent : e.cls = .urgent) (matched : classMatches e = true)
    (q : List Exchange) (d : Exchange) (h : q.head? = some e) :
    (offerTo d q).queue.head? = some e := by
  have outcome := offerTo_outcome d q
  generalize offerTo d q = o at outcome
  cases outcome with
  | refused => exact h
  | stands => exact h
  | joins => exact head_joinTail urgent h
  | replaces output =>
    refine head_joinTail urgent ?_
    cases q with
    | nil => cases h
    | cons x rest =>
      obtain rfl : x = e := by simpa using h
      have stays : isFeedSet d.target output true x = false := by
        rw [Bool.eq_false_iff]
        intro on
        simp [classMatches, (isFeedSet_iff.mp on).2, urgent] at matched
      simp [stays]

theorem offerTo_enable {e : Exchange} (he : IsEnable e) (q : List Exchange) :
    (offerTo e q).queue = q ∨ (offerTo e q).queue = joinTail e q := by
  have outcome := offerTo_outcome e q
  generalize offerTo e q = o at outcome
  cases outcome with
  | refused => exact .inl rfl
  | stands => exact .inl rfl
  | joins => exact .inr rfl
  | replaces output kind =>
    obtain ⟨_, _, rfl⟩ := he
    simp [feedExchange] at kind

/-- What stands in a queue after enables have joined it stood there before, or is one of them. -/
theorem mem_of_enables {s : State} {i : Nat} {g g' : Segment} (h : Joins IsEnable s i g g')
    (state : g.state = .exchange) : ∀ x ∈ g'.queue, x ∈ g.queue ∨ IsEnable x := by
  refine h.queue (J := fun q => ∀ x ∈ q, x ∈ g.queue ∨ IsEnable x) (fun q e he hq => ?_) state
    (fun x hx => .inl hx)
  rcases offerTo_enable he q with hq' | hq' <;> rw [hq']
  · exact hq
  · intro x hx
    rcases mem_joinTail.mp hx with rfl | hx
    · exact .inr he
    · exact hq x hx

/-- Enables that join a queue remove nothing from it. -/
theorem mem_enables {s : State} {i : Nat} {g g' : Segment} (h : Joins IsEnable s i g g')
    (state : g.state = .exchange) {x : Exchange} (hx : x ∈ g.queue) : x ∈ g'.queue := by
  refine h.queue (J := fun q => x ∈ q) (fun q e he hq => ?_) state hx
  rcases offerTo_enable he q with hq' | hq' <;> rw [hq']
  · exact hq
  · exact mem_joinTail.mpr (.inr hq)

/-- R11: what a requeue that is not refused leaves. -/
theorem requeue_some {e : Exchange} {q q' : List Exchange} (h : requeue e q = some q') :
    q' = q ∨ q' = joinHead { e with retryUsed := true } q := by
  unfold requeue at h
  dsimp only at h
  repeat' split at h
  all_goals simp_all

/-! ## Handing on an outcome (R9 to R12) -/

/-- What the owner of an exchange does to the segment that carried it: FEED_SETs join it, and it takes the
marks of the first scan. -/
structure HandsOn (i : Nat) (s t : State) : Prop where
  now : t.now = s.now
  tables : t.tables = s.tables
  seg : ∃ g p x, Joins IsFeed s i (segAt s i) g ∧ segAt t i = { g with polled := p, firstScan := x }
  flags : ∀ f, inFlagSet s.port.flags f = true → inFlagSet t.port.flags f = true

theorem HandsOn.of_works {i : Nat} {s t : State} (h : Works s t) : HandsOn i s t :=
  ⟨h.now, h.tables, ⟨_, _, _, h.segs i, rfl⟩, h.flags⟩

theorem HandsOn.refl (i : Nat) (s : State) : HandsOn i s s := .of_works (.refl s)

theorem pollEnded_seg (i : Nat) (c : Current) (s : State) (hi : i < 4) : ∃ x,
    segAt (pollEnded i c s) i = { segAt s i with
      firstScan := x
      polled := if c.stale || (nodeAt s c.ex.target).state == .disabled then (segAt s i).polled
        else put (segAt s i).polled c.ex.target true } := by
  unfold pollEnded
  dsimp only
  split
  · obtain ⟨x, hx⟩ := firstScanTest_segs false i s
    exact ⟨x, by rw [segAt_congr hx, segAt_modSeg_same _ _ hi]⟩
  · obtain ⟨x, hx⟩ := firstScanTest_segs false i
      (modSeg i (fun g => { g with polled := put g.polled c.ex.target true }) s)
    exact ⟨x, by rw [segAt_congr hx, segAt_modSeg_same _ _ hi, segAt_modSeg_same _ _ hi]⟩

theorem HandsOn.pollEnded {i : Nat} {s t : State} (h : HandsOn i s t) (c : Current) (hi : i < 4) :
    HandsOn i s (pollEnded i c t) := by
  have touches := touches_of_erase (erase_pollEnded (bs := [.segs, .mail]) i c t (by decide) (by decide))
  obtain ⟨g, p, x, joins, seg⟩ := h.seg
  obtain ⟨x', seg'⟩ := pollEnded_seg i c t hi
  refine ⟨(touches .now (by decide)).trans h.now, (touches .tables (by decide)).trans h.tables,
    ⟨g, (segAt (Machine.pollEnded i c t) i).polled, x', joins, ?_⟩, fun f hf => ?_⟩
  · rw [seg', seg]
  · rw [touches .port (by decide)]
    exact h.flags f hf

theorem relayEnded_flags (n : Nat) (f : RelaySlot → Frame) (s : State) :
    (relayEnded n f s).port.flags = s.port.flags := by
  unfold relayEnded decideAnswer afterAnswer
  repeat' split
  all_goals rfl

theorem handsOn_relayEnded (i n : Nat) (f : RelaySlot → Frame) (s : State) :
    HandsOn i s (relayEnded n f s) := by
  have touches := touches_of_erase (bs := [.port]) (s := s) (t := relayEnded n f s) (by simp)
  refine ⟨touches .now (by decide), touches .tables (by decide),
    ⟨segAt s i, (segAt s i).polled, (segAt s i).firstScan, .refl _, ?_⟩, fun g hg => ?_⟩
  · exact segAt_congr (touches .segs (by decide)) i
  · rwa [relayEnded_flags]

theorem handsOn_tellGood {i : Nat} (hi : i < 4) (c : Current) (reply : Frame) (s : State) :
    HandsOn i s (tellGood i c reply s) := by
  unfold tellGood
  split
  · exact (HandsOn.refl i s).pollEnded c hi
  · exact .of_works ((Works.refl s).feedSetEnded _ _ _ _)
  · split
    · exact handsOn_relayEnded i _ _ s
    · exact .refl i s
    · exact .refl i s

theorem handsOn_tellFailed {i : Nat} (hi : i < 4) (c : Current) (x : Failure) (s : State) :
    HandsOn i s (tellFailed i c x s) := by
  unfold tellFailed
  split
  · refine HandsOn.pollEnded ?_ c hi
    split
    · exact .refl i s
    · exact .of_works ((Works.refl s).countMiss _)
  · exact .of_works ((Works.refl s).feedSetEnded _ _ _ _)
  · split
    · exact handsOn_relayEnded i _ _ s
    · exact .refl i s
    · exact .refl i s

/-! ## The end of an exchange, in its stages -/

/-- R8, R9, R20: the failure is counted, and the exchange is no longer current. -/
def failureCounted (i : Nat) (c : Current) (x : Failure) (s : State) : State :=
  match x with
  | .readback index => raiseFlag .segFault (segFaultParticulars i c index)
      (modCounters i (countFailure x) (clearCurrent i s))
  | .noReply => modCounters i (countFailure x) (clearCurrent i s)
  | .badReply => modCounters i (countFailure x) (clearCurrent i s)

/-- R9, R20: the good reply is counted, and the exchange is no longer current. -/
def goodCounted (i : Nat) (s : State) : State :=
  modCounters i (fun n => { n with good := sat16 n.good }) (clearCurrent i s)

/-- R10, R26: the good reply is counted and inspected. -/
def goodInspected (i : Nat) (c : Current) (reply : Frame) (s : State) : State :=
  inspectReply c.ex.target reply.kind reply.payload (c.ex.kind == .poll) c.stale (goodCounted i s)

/-- R26: a reply that is stale, or whose entry is not in use or DISABLED, is not applied. -/
theorem inspectReply_of_unapplied {k : Nat} {kind : Byte} {payload : List Byte} {poll stale : Bool}
    {s : State}
    (h : stale = true ∨ (nodeCfg s k).inUse = false ∨ (nodeAt s k).state = .disabled) :
    inspectReply k kind payload poll stale s = s := by
  unfold inspectReply
  dsimp only
  refine if_pos ?_
  rcases h with h | h | h <;> simp [h]

theorem endFailed_eq (i : Nat) (c : Current) (x : Failure) (s : State) :
    endFailed i c x s = returnToIdle i (handFailure i c x (failureCounted i c x s)) := by
  cases x <;> rfl

theorem endGood_eq (i : Nat) (c : Current) (reply : Frame) (s : State) :
    endGood i c reply s = returnToIdle i (tellGood i c reply (goodInspected i c reply s)) := rfl

theorem segAt_failureCounted (i : Nat) (c : Current) (x : Failure) (s : State) (hi : i < 4) :
    segAt (failureCounted i c x s) i = { segAt s i with
      current := none, counters := countFailure x (segAt s i).counters } := by
  have counted : segAt (modCounters i (countFailure x) (clearCurrent i s)) i = { segAt s i with
      current := none, counters := countFailure x (segAt s i).counters } := by
    rw [modCounters, segAt_modSeg_same _ _ hi, clearCurrent, segAt_modSeg_same _ _ hi]
  cases x with
  | readback index => exact (segAt_raiseFlag _ _ _ i).trans counted
  | noReply => exact counted
  | badReply => exact counted

theorem segAt_goodCounted (i : Nat) (s : State) (hi : i < 4) :
    segAt (goodCounted i s) i = { segAt s i with
      current := none
      counters := { (segAt s i).counters with good := sat16 (segAt s i).counters.good } } := by
  rw [goodCounted, modCounters, segAt_modSeg_same _ _ hi, clearCurrent, segAt_modSeg_same _ _ hi]

theorem erase_failureCounted {bs : List Block} (i : Nat) (c : Current) (x : Failure) (s : State)
    (segs : Block.segs ∈ bs) (port : Block.port ∈ bs) :
    erase bs (failureCounted i c x s) = erase bs s := by
  unfold failureCounted
  cases x <;> simp [segs, port]

theorem lawBut_failureCounted {i : Nat} {c : Current} (x : Failure) {s : State} (law : SegmentLaw s)
    (current : (segAt s i).current = some c) : LawBut i (failureCounted i c x s) := by
  have counted := (law.clearCurrent current).modCounters (countFailure x)
  cases x with
  | readback index => exact counted.works ((Works.refl _).raiseFlag _ _)
  | noReply => exact counted
  | badReply => exact counted

theorem lawBut_goodInspected {i : Nat} {c : Current} (reply : Frame) {s : State} (law : SegmentLaw s)
    (current : (segAt s i).current = some c) : LawBut i (goodInspected i c reply s) :=
  ((law.clearCurrent current).modCounters _).works ((Works.refl _).inspectReply _ _ _ _ _)

/-! ## The exchange taken next (R6, R8) -/

/-- The outcome of `c`, which was on the wire of segment `i` in `s`, has been handed on in `u`: what its
queue meets in `s` it meets in `u`, where FEED_SET joins and the requeue of `c` keep it. -/
structure Handed (i : Nat) (c : Current) (s u : State) : Prop where
  tables : u.tables = s.tables
  held : HeldSegment (segAt u i)
  keeps : ∀ J : List Exchange → Prop, (∀ q e, IsFeed e → J q → J (offerTo e q).queue) →
    (c.ex.cls ≠ .poll → c.ex.retryUsed = false →
      ∀ q, J q → J (joinHead { c.ex with retryUsed := true } q)) →
    J (segAt s i).queue → J (segAt u i).queue
  stale : c.ex.kind = .poll → c.ex.cls = .poll → c.stale = true →
    (segAt u i).queue = (segAt s i).queue

theorem HandsOn.keeps {i : Nat} {s t : State} (h : HandsOn i s t)
    (state : (segAt s i).state = .exchange) {J : List Exchange → Prop}
    (step : ∀ q e, IsFeed e → J q → J (offerTo e q).queue) (start : J (segAt s i).queue) :
    J (segAt t i).queue := by
  obtain ⟨g, p, x, joins, seg⟩ := h.seg
  rw [seg]
  exact joins.queue step state start

theorem pollEnded_queue (i : Nat) (c : Current) (s : State) (hi : i < 4) :
    (segAt (pollEnded i c s) i).queue = (segAt s i).queue := by
  obtain ⟨x, seg⟩ := pollEnded_seg i c s hi
  rw [seg]

theorem handed_endFailed {i : Nat} {c : Current} (x : Failure) {s : State} (law : SegmentLaw s)
    (current : (segAt s i).current = some c) :
    Handed i c s (handFailure i c x (failureCounted i c x s)) := by
  have hi := lt_of_current current
  have lawBut := lawBut_failureCounted x law current
  have counted := segAt_failureCounted i c x s hi
  have tables := touches_of_erase (erase_failureCounted (bs := [.segs, .port]) i c x s (by decide)
    (by decide)) .tables (by decide)
  have told := handsOn_tellFailed hi c x (failureCounted i c x s)
  have toldKeeps (J : List Exchange → Prop) (step : ∀ q e, IsFeed e → J q → J (offerTo e q).queue)
      (start : J (segAt s i).queue) : J (segAt (tellFailed i c x (failureCounted i c x s)) i).queue :=
    told.keeps lawBut.held.state step (by rw [counted]; exact start)
  have held := (lawBut.handFailure c x (law.current current)).held
  refine ⟨?_, held, fun J step again start => ?_, fun kind cls stale => ?_⟩
  · unfold handFailure
    split
    · exact told.tables.trans tables
    · split
      · exact tables
      · exact told.tables.trans tables
  · unfold handFailure
    split
    · exact toldKeeps J step start
    next retried =>
      obtain ⟨notPoll, fresh⟩ : c.ex.cls ≠ .poll ∧ c.ex.retryUsed = false := by simpa using retried
      split
      next q hq =>
        rw [modCounters, segAt_modSeg_same _ _ hi, segAt_modSeg_same _ _ hi]
        rw [counted] at hq
        rcases requeue_some hq with rfl | rfl
        · exact start
        · exact again notPoll fresh _ start
      · exact toldKeeps J step start
  · unfold handFailure
    rw [if_pos (by simp [cls])]
    unfold tellFailed
    rw [kind]
    dsimp only
    rw [pollEnded_queue i c _ hi, if_pos stale, counted]

theorem handed_endGood {i : Nat} {c : Current} (reply : Frame) {s : State} (law : SegmentLaw s)
    (current : (segAt s i).current = some c) :
    Handed i c s (tellGood i c reply (goodInspected i c reply s)) := by
  have hi := lt_of_current current
  have lawBut := lawBut_goodInspected reply law current
  have counted := segAt_goodCounted i s hi
  have inspected : Works (goodCounted i s) (goodInspected i c reply s) :=
    (Works.refl _).inspectReply _ _ _ _ _
  have told := handsOn_tellGood hi c reply (goodInspected i c reply s)
  refine ⟨told.tables.trans inspected.tables, (lawBut.tellGood c reply).held,
    fun J step _ start => ?_, fun kind _ stale => ?_⟩
  · have before : HandsOn i (goodCounted i s) (goodInspected i c reply s) := .of_works inspected
    have state : (segAt (goodCounted i s) i).state = .exchange := by
      rw [counted]
      obtain ⟨-, ⟨wire, -, -⟩, -⟩ := law i hi
      exact wire.mpr (by simp [current])
    exact told.keeps lawBut.held.state step
      (before.keeps state step (by rw [counted]; exact start))
  · unfold tellGood
    rw [kind]
    dsimp only
    rw [pollEnded_queue i c _ hi]
    rw [goodInspected, inspectReply_of_unapplied (.inl stale), counted]

/-- R6, R9: the segment after the return to IDLE: nothing on it, or the head of its queue just taken, with
enables that the Zone Controller's arbiter has brought since. -/
theorem returnToIdle_segment {i : Nat} {u : State} (hi : i < 4) :
    ((segAt u i).queue = [] → segAt (returnToIdle i u) i = { segAt u i with state := .idle }) ∧
    ∀ e rest, (segAt u i).queue = e :: rest → Joins IsEnable u i
      { segAt u i with state := .exchange, queue := rest, current := some (startExchange u i e) }
      (segAt (returnToIdle i u) i) := by
  rw [returnToIdle_eq i u hi]
  refine ⟨fun empty => ?_, fun e rest queue => ?_⟩
  · have departed : (!(segAt u i).queue.isEmpty) = false := by simp [empty]
    rw [departed]
    show segAt (modSeg i (fun g => arbitrated u i { g with state := .idle }) u) i = _
    rw [segAt_modSeg_same _ _ hi, arbitrated_of_nil _ _ (by exact empty)]
  · have grants := (Grants.refl (modSeg i (fun g => arbitrated u i { g with state := .idle }) u)).afterDeparture
      (!(segAt u i).queue.isEmpty)
    have joins := (grants.segs i).congr (t := u) rfl
    rwa [segAt_modSeg_same _ _ hi, arbitrated_of_cons u i (by rfl) (by exact queue)] at joins

theorem justTaken_startExchange {s u : State} (tables : u.tables = s.tables) (i : Nat) (e : Exchange) :
    JustTaken s i (startExchange u i e) := by
  rw [startExchange_congr tables]
  refine ⟨rfl, rfl, rfl, rfl, rfl, ?_⟩
  unfold startExchange
  cases e.kind with
  | poll => rfl
  | relay => rfl
  | feedSet output on => cases on <;> rfl

/-- R6, R8: what stands on the segment when the outcome has been handed on and the segment has returned to
IDLE. -/
theorem Handed.taken {i : Nat} {c : Current} {s u : State} (h : Handed i c s u) (hi : i < 4)
    (law : SegmentLaw s) :
    (∀ x, (segAt (returnToIdle i u) i).current = some x →
      (segAt (returnToIdle i u) i).state = .exchange ∧ JustTaken s i x ∧
      ∀ e ∈ (segAt (returnToIdle i u) i).queue, classRank x.ex.cls ≤ classRank e.cls ∨
        (e ∉ (segAt s i).queue ∧ ∃ output, e = feedExchange e.target output true)) ∧
    ((segAt (returnToIdle i u) i).current = none →
      (segAt (returnToIdle i u) i).state = .idle ∧ (segAt (returnToIdle i u) i).queue = []) ∧
    ∀ e rest, (segAt s i).queue = e :: rest →
      (segAt (returnToIdle i u) i).current ≠ none ∧
      (e.cls = .urgent → c.ex.cls ≠ .urgent ∨ c.ex.retryUsed = true →
        ∀ x, (segAt (returnToIdle i u) i).current = some x → x.ex = e) ∧
      (c.ex.kind = .poll → c.ex.cls = .poll → c.stale = true →
        ∀ x, (segAt (returnToIdle i u) i).current = some x → x.ex = e) := by
  obtain ⟨empty, taken⟩ := returnToIdle_segment (u := u) hi
  cases queue : (segAt u i).queue with
  | nil =>
    rw [empty queue]
    refine ⟨fun x hx => ?_, fun _ => ⟨rfl, queue⟩, fun e rest before => ?_⟩
    · simp [h.held.current] at hx
    · have := h.keeps (fun q => q ≠ []) (fun q e _ => offerTo_ne_nil q e)
        (fun _ _ q _ => by simp [joinHead]) (by simp [before])
      exact absurd queue this
  | cons y ys =>
    have joins := taken y ys queue
    obtain ⟨state, current⟩ := joins.exchange rfl
    have sorted : ∀ e ∈ ys, classRank y.cls ≤ classRank e.cls := by
      obtain ⟨-, -, sorted, -, -⟩ := h.held.queue
      rw [queue] at sorted
      exact (List.pairwise_cons.mp sorted).1
    have wire (x : Current) (hx : (segAt (returnToIdle i u) i).current = some x) :
        startExchange u i y = x := by
      rw [current] at hx
      exact Option.some.inj hx
    refine ⟨fun x hx => ?_, fun bare => ?_, fun e rest before => ?_⟩
    · obtain rfl := wire x hx
      refine ⟨state, justTaken_startExchange h.tables i y, fun e he => ?_⟩
      rcases mem_of_enables joins rfl e he with he | ⟨target, output, rfl⟩
      · exact .inl (sorted e he)
      · by_cases queued : feedExchange target output true ∈ (segAt s i).queue
        · have pressing := h.keeps HoldsPressing holdsPressing_offerTo
            (fun _ _ q ⟨x, hx, rank⟩ => ⟨x, mem_joinHead.mpr (.inr hx), rank⟩)
            ⟨_, queued, by simp [feedExchange, classRank]⟩
          obtain ⟨x, hx, rank⟩ := pressing
          left
          show classRank y.cls ≤ 1
          rw [queue] at hx
          rcases List.mem_cons.mp hx with rfl | hx
          · exact rank
          · exact (sorted x hx).trans rank
        · exact .inr ⟨queued, output, rfl⟩
    · simp [current] at bare
    · refine ⟨by rw [current]; simp, fun urgent less x hx => ?_, fun kind cls stale x hx => ?_⟩
      · obtain rfl := wire x hx
        have matched : classMatches e = true := by
          obtain ⟨⟨-, -, -, -, matched⟩, -⟩ := law i hi
          exact matched e (by simp [before])
        have head := h.keeps (fun q => q.head? = some e)
          (fun q d _ => head_offerTo urgent matched q d)
          (fun notPoll fresh q => head_joinHead urgent (by
            rcases less with less | less
            · exact less
            · simp [less] at fresh)) (by simp [before])
        rw [queue] at head
        simpa [startExchange] using head
      · obtain rfl := wire x hx
        have same := h.stale kind cls stale
        rw [queue, before] at same
        exact (List.cons.inj same).1

end Sys2Proof.Machine


namespace Sys2Proof.Machine

/-! ## The events of an exchange in each of its phases (R8, R9) -/

section
variable {i : Fin 4} {s : State} {c : Current}

theorem exec_sendComplete_of_sending (current : (segAt s i).current = some c)
    (phase : c.phase = .sending) : exec (.sendComplete i) s = .next (modSeg i (fun g => { g with
      current := some { c with phase := .waiting, timer := .running (s.now + c.window) } }) s) := by
  show Host.Outcome.next (sendCompleted i s) = _
  simp only [sendCompleted, current, phase]
  rfl

theorem exec_sendComplete_of_not_sending (current : (segAt s i).current = some c)
    (phase : c.phase ≠ .sending) : exec (.sendComplete i) s = .next s := by
  show Host.Outcome.next (sendCompleted i s) = _
  cases h : c.phase <;> simp_all [sendCompleted]

theorem exec_readbackMismatch (index : Byte) (current : (segAt s i).current = some c)
    (phase : c.phase = .sending) :
    exec (.readbackMismatch i index) s = .next (endFailed i c (.readback index) s) := by
  show Host.Outcome.next (readbackDiffers i index s) = _
  simp only [readbackDiffers, current, phase]

theorem exec_readbackMismatch_of_not_sending (index : Byte) (current : (segAt s i).current = some c)
    (phase : c.phase ≠ .sending) : exec (.readbackMismatch i index) s = .next s := by
  show Host.Outcome.next (readbackDiffers i index s) = _
  cases h : c.phase <;> simp_all [readbackDiffers]

theorem exec_replyFirstByte_of_waiting (current : (segAt s i).current = some c)
    (phase : c.phase = .waiting) : exec (.replyFirstByte i) s = .next (modSeg i (fun g => { g with
      current := some { c with phase := .receiving, timer := .stopped } }) s) := by
  show Host.Outcome.next (firstByteHeard i s) = _
  simp only [firstByteHeard, current, phase]
  rfl

theorem exec_replyFirstByte_of_not_waiting (current : (segAt s i).current = some c)
    (phase : c.phase ≠ .waiting) : exec (.replyFirstByte i) s = .next s := by
  show Host.Outcome.next (firstByteHeard i s) = _
  cases h : c.phase <;> simp_all [firstByteHeard]

theorem exec_replyWindowExpiry_of_stopped (current : (segAt s i).current = some c)
    (timer : c.timer = .stopped) : exec (.replyWindowExpiry i) s = .next s := by
  simp only [exec, execReplyWindowExpiry, current, timer]
  rfl

theorem exec_replyWindowExpiry_of_running {d : Nat} (current : (segAt s i).current = some c)
    (timer : c.timer = .running d) :
    exec (.replyWindowExpiry i) s = .next (windowPassed i (atTime d s)) := by
  simp only [exec, execReplyWindowExpiry, current, timer]
  rfl

theorem windowPassed_of_waiting (d : Nat) (current : (segAt s i).current = some c)
    (phase : c.phase = .waiting) : windowPassed i (atTime d s) = endFailed i c .noReply (atTime d s) := by
  have current : (segAt (atTime d s) i).current = some c := current
  simp only [windowPassed, current, phase]

theorem windowPassed_of_not_waiting (d : Nat) (current : (segAt s i).current = some c)
    (phase : c.phase ≠ .waiting) : windowPassed i (atTime d s) = atTime d s := by
  have current : (segAt (atTime d s) i).current = some c := current
  cases h : c.phase <;> simp_all [windowPassed]

theorem exec_replySilence (current : (segAt s i).current = some c) (phase : c.phase = .receiving) :
    exec (.replySilence i) s = .next (endFailed i c .badReply s) := by
  show Host.Outcome.next (replyBroken i s) = _
  simp only [replyBroken, current, phase]

theorem exec_replySilence_of_not_receiving (current : (segAt s i).current = some c)
    (phase : c.phase ≠ .receiving) : exec (.replySilence i) s = .next s := by
  show Host.Outcome.next (replyBroken i s) = _
  cases h : c.phase <;> simp_all [replyBroken]

theorem exec_replyComplete_of_good {bytes : List Byte} {f : Frame}
    (current : (segAt s i).current = some c) (phase : c.phase = .receiving)
    (good : goodReply c bytes = some f) :
    exec (.replyComplete i bytes) s = .next (endGood i c f s) := by
  show Host.Outcome.next (replyArrived i bytes s) = _
  simp only [replyArrived, current, phase, good]

theorem exec_replyComplete_of_bad {bytes : List Byte} (current : (segAt s i).current = some c)
    (phase : c.phase = .receiving) (bad : goodReply c bytes = none) :
    exec (.replyComplete i bytes) s = .next (endFailed i c .badReply s) := by
  show Host.Outcome.next (replyArrived i bytes s) = _
  simp only [replyArrived, current, phase, bad]

theorem exec_replyComplete_of_not_receiving (bytes : List Byte)
    (current : (segAt s i).current = some c) (phase : c.phase ≠ .receiving) :
    exec (.replyComplete i bytes) s = .next s := by
  show Host.Outcome.next (replyArrived i bytes s) = _
  cases h : c.phase <;> simp_all [replyArrived]

end

/-- Log entry 9: with nothing on the wire, no event of an exchange has an effect. -/
theorem exec_of_no_exchange {i : Fin 4} {s : State} (current : (segAt s i).current = none) :
    exec (.sendComplete i) s = .next s ∧ exec (.replyFirstByte i) s = .next s ∧
      exec (.replyWindowExpiry i) s = .next s ∧ exec (.replySilence i) s = .next s ∧
      (∀ index, exec (.readbackMismatch i index) s = .next s) ∧
      ∀ bytes, exec (.replyComplete i bytes) s = .next s := by
  refine ⟨?_, ?_, ?_, ?_, fun index => ?_, fun bytes => ?_⟩
  · show Host.Outcome.next (sendCompleted i s) = _
    simp only [sendCompleted, current]
  · show Host.Outcome.next (firstByteHeard i s) = _
    simp only [firstByteHeard, current]
  · simp only [exec, execReplyWindowExpiry, current]
  · show Host.Outcome.next (replyBroken i s) = _
    simp only [replyBroken, current]
  · show Host.Outcome.next (readbackDiffers i index s) = _
    simp only [readbackDiffers, current]
  · show Host.Outcome.next (replyArrived i bytes s) = _
    simp only [replyArrived, current]

/-- The commands that end the exchange on the wire of segment `i`, by a failure or by a good reply. -/
theorem exec_ends {i : Fin 4} {s : State} {c : Current} {command : Instr}
    (current : (segAt s i).current = some c)
    (event : (∃ index, command = .readbackMismatch i index ∧ c.phase = .sending) ∨
      (command = .replyWindowExpiry i ∧ c.phase = .waiting ∧ c.timer ≠ .stopped) ∨
      (command = .replySilence i ∧ c.phase = .receiving) ∨
      (∃ bytes, command = .replyComplete i bytes ∧ c.phase = .receiving)) :
    ∃ u, u.segs = s.segs ∧ u.tables = s.tables ∧
      ((∃ x, exec command s = .next (endFailed i c x u)) ∨
        ∃ f, exec command s = .next (endGood i c f u)) := by
  rcases event with ⟨index, rfl, phase⟩ | ⟨rfl, phase, timer⟩ | ⟨rfl, phase⟩ | ⟨bytes, rfl, phase⟩
  · exact ⟨s, rfl, rfl, .inl ⟨_, exec_readbackMismatch index current phase⟩⟩
  · cases running : c.timer with
    | stopped => exact absurd running timer
    | running d =>
      exact ⟨atTime d s, rfl, rfl, .inl ⟨_, (exec_replyWindowExpiry_of_running current running).trans
        (congrArg _ (windowPassed_of_waiting d current phase))⟩⟩
  · exact ⟨s, rfl, rfl, .inl ⟨_, exec_replySilence current phase⟩⟩
  · cases good : goodReply c bytes with
    | none => exact ⟨s, rfl, rfl, .inl ⟨_, exec_replyComplete_of_bad current phase good⟩⟩
    | some f => exact ⟨s, rfl, rfl, .inr ⟨f, exec_replyComplete_of_good current phase good⟩⟩

/-! ## Joining an IDLE segment (R6, R8) -/

theorem offerTo_nil (e : Exchange) : offerTo e [] = ⟨.accepted, [e], false⟩ := by
  have fits : classRoom e.cls 0 = true := by cases e.cls <;> rfl
  cases hk : e.kind with
  | poll => simp [offerTo, offerRoom, hk, fits, joinTail]
  | relay => simp [offerTo, offerRoom, hk, fits, joinTail]
  | feedSet output on => cases on <;> simp [offerTo, offerRoom, hk, fits, joinTail]

/-- An exchange that joins an IDLE segment with an empty queue goes onto the wire at once. -/
theorem joined_idle (s : State) (i : Nat) (e : Exchange) {g : Segment} (state : g.state = .idle)
    (queue : g.queue = []) : joined s i e g =
      { g with state := .exchange, queue := [], current := some (startExchange s i e) } := by
  rw [joined_of_idle s i e state, queue, offerTo_nil]
  exact arbitrated_of_cons s i state rfl

theorem joinSegment_idle {s : State} {i : Nat} (e : Exchange) (state : (segAt s i).state = .idle)
    (queue : (segAt s i).queue = []) :
    (joinSegment i e s).answer = .accepted ∧ segAt (joinSegment i e s).state i = { segAt s i with
      state := .exchange, queue := [], current := some (startExchange s i e) } := by
  constructor
  · rw [joinSegment_answer, if_neg (by simp [state]), queue, offerTo_nil]
  · rw [segAt_joinSegment, if_pos rfl, joined_idle s i e state queue]

/-- What is on the wire stays there while zones are granted. -/
theorem Grants.wire {s t : State} (h : Grants s t) {i : Nat} (state : (segAt s i).state = .exchange) :
    (segAt t i).state = .exchange ∧ (segAt t i).current = (segAt s i).current :=
  (h.segs i).exchange state

/-- What is on the wire stays there while the blocks behind the segments work. -/
theorem Works.wire {s t : State} (h : Works s t) {i : Nat} (state : (segAt s i).state = .exchange) :
    (segAt t i).state = .exchange ∧ (segAt t i).current = (segAt s i).current :=
  (h.segs i).exchange state

/-! ### A scan's first POLL -/

theorem offerPolls_wire (i : Nat) (hi : i < 4) (l : List Nat) {x : Scan}
    (state : (segAt x.state i).state = .exchange) :
    (segAt (l.foldl (offerPoll i) x).state i).state = .exchange ∧
      (segAt (l.foldl (offerPoll i) x).state i).current = (segAt x.state i).current := by
  induction l generalizing x with
  | nil => exact ⟨state, rfl⟩
  | cons k rest ih =>
    have seg : segAt (offerPoll i x k).state i = { segAt x.state i with
        queue := (offerTo (pollExchange k) (segAt x.state i).queue).queue } := by
      rw [offerPoll_state, joinSegment_state, segAt_modSeg_same _ _ hi, joined_of_exchange _ _ _ state]
    have later := ih (x := offerPoll i x k) (by rw [seg]; exact state)
    rwa [seg] at later

theorem runScan_wire {i : Nat} (hi : i < 4) {s : State} {k : Nat} {rest : List Nat}
    (state : (segAt s i).state = .idle) (queue : (segAt s i).queue = [])
    (first : allEntries.filter (isScanned s i) = k :: rest) :
    (segAt (runScan i s).1 i).state = .exchange ∧
      (segAt (runScan i s).1 i).current = some (startExchange s i (pollExchange k)) := by
  have seg : segAt (offerPoll i ⟨0, false, s⟩ k).state i = { segAt s i with
      state := .exchange, queue := [], current := some (startExchange s i (pollExchange k)) } := by
    obtain ⟨-, joins⟩ := joinSegment_idle (pollExchange k) state queue
    rw [offerPoll_state, joins]
  have wire := offerPolls_wire i hi rest (x := offerPoll i ⟨0, false, s⟩ k) (by rw [seg])
  rw [segAt_runScan i hi]
  unfold scanned
  rw [first, List.foldl_cons]
  rwa [seg] at wire

theorem pollExpired_takes {i : Nat} (hi : i < 4) {s : State} {k : Nat} {rest : List Nat}
    (state : (segAt s i).state = .idle) (queue : (segAt s i).queue = []) (owed : owedOn s i = [])
    (first : allEntries.filter (isScanned s i) = k :: rest) :
    (segAt (pollExpired i s) i).state = .exchange ∧
      (segAt (pollExpired i s) i).current = some (startExchange s i (pollExchange k)) := by
  have before := segAt_reloaded i hi s
  obtain ⟨x, joins, -⟩ := (pollExpiry i hi s).seg
  have scan : scanAndOwed i (reloaded i s) = runScan i (reloaded i s) := scanAndOwed_of_none owed
  rw [scan] at joins
  obtain ⟨scanState, scanCurrent⟩ := runScan_wire hi (s := reloaded i s) (k := k) (rest := rest)
    (by rw [before]; exact state) (by rw [before]; exact queue) first
  obtain ⟨after, current⟩ := joins.exchange scanState
  exact ⟨after, current.trans (scanCurrent.trans
    (by rw [startExchange_congr (s := s) (t := reloaded i s) rfl]))⟩

/-! ### A relay -/

theorem canTake_of_ready {s : State} (ready : Ready s) :
    (canTake s && s.port.rx.isEmpty) = true := by
  obtain ⟨rx, room, answering, reset⟩ := ready
  simp [canTake, freePlace, rx, room, answering, reset]

theorem relayKindOf_relayKindByte (k : RelayKind) : relayKindOf (relayKindByte k) = some k := by
  cases k <;> rfl

/-- R151, R152: the frame passes the gate up to the relay slots. -/
structure PassesGate (s : State) (k : RelayKind) (f : Frame) (target n : Nat) : Prop where
  kind : relayKindOf f.kind = some k
  decodes : relayDecodes k f.payload = true
  target : relayTarget s f.dst = some target
  plain : protectedWrite k f.payload = false
  slot : freeSlot s = some n

theorem relayGate_of_passes {s : State} {k : RelayKind} {f : Frame} {target n : Nat}
    (h : PassesGate s k f target n) :
    relayGate f s = acceptRelay target k f.tag f.dst f.payload s := by
  unfold relayGate
  simp [h.kind, h.decodes, h.target, h.plain]

theorem acceptRelay_idle {s : State} {target n : Nat} (k : RelayKind) (tag dest : Byte)
    (payload : List Byte) (slot : freeSlot s = some n)
    (state : (segAt s (nodeCfg s target).segment).state = .idle)
    (queue : (segAt s (nodeCfg s target).segment).queue = []) :
    (acceptRelay target k tag dest payload s).1 = none ∧
      (segAt (acceptRelay target k tag dest payload s).2 (nodeCfg s target).segment).state =
        .exchange ∧
      (segAt (acceptRelay target k tag dest payload s).2 (nodeCfg s target).segment).current =
        some (startExchange s (nodeCfg s target).segment (relayExchange n target k tag payload)) := by
  obtain ⟨answer, joins⟩ := joinSegment_idle (relayExchange n target k tag payload) state queue
  unfold acceptRelay
  rw [slot]
  dsimp only
  generalize joinSegment (nodeCfg s target).segment _ s = j at answer joins
  rw [answer]
  have grants := (Grants.refl (setSlot n (some (waitingSlot s target k tag dest))
    (keepPlace false j.state))).afterDeparture j.departed
  have before : segAt (setSlot n (some (waitingSlot s target k tag dest)) (keepPlace false j.state))
      (nodeCfg s target).segment = _ := (segAt_congr rfl _).trans joins
  have wire := grants.wire (i := (nodeCfg s target).segment) (by rw [before])
  rw [before] at wire
  exact ⟨rfl, wire⟩

theorem takeRelay_idle {s : State} {k : RelayKind} {f : Frame} {target n : Nat}
    (h : PassesGate s k f target n) (state : (segAt s (nodeCfg s target).segment).state = .idle)
    (queue : (segAt s (nodeCfg s target).segment).queue = []) :
    (segAt (takeRelay f s) (nodeCfg s target).segment).state = .exchange ∧
      (segAt (takeRelay f s) (nodeCfg s target).segment).current =
        some (startExchange s (nodeCfg s target).segment (relayExchange n target k f.tag f.payload)) := by
  have gate : PassesGate (keepPlace true s) k f target n := ⟨h.kind, h.decodes, h.target, h.plain, h.slot⟩
  obtain ⟨accepted, wire⟩ := acceptRelay_idle (s := keepPlace true s) k f.tag f.dst f.payload gate.slot
    state queue
  unfold takeRelay
  rw [relayGate_of_passes gate]
  split
  next u hu =>
    rw [hu] at wire
    exact wire
  next status u hu =>
    rw [hu] at accepted
    cases accepted

theorem supervisor_ne_node {b : Byte} (h : isNodeByte b = true) : (b == supervisorByte) = false := by
  rw [Bool.eq_false_iff]
  intro same
  rw [eq_of_beq same] at h
  exact absurd h (by decide)

theorem relayArrives_of_ready {s : State} (ready : Ready s) {f : Frame} (fits : f.payload.length ≤ 240)
    (dest : isNodeByte f.dst = true) : relayArrives f s = takeRelay f s := by
  unfold relayArrives takeFrame
  rw [if_neg (by omega), if_neg (by simp [addressable, dest]), if_pos (canTake_of_ready ready),
    supervisor_ne_node dest]
  rfl

/-! ### A granted zone's enable -/

theorem fits_iff {s : State} {z : Nat} : fits s z = true ↔ LeavesRoom s z := by
  unfold fits effectiveInrush
  exact decide_eq_true_iff

theorem goes_of_not_rests {s : State} {z : Nat} (found : s.zc.queue.find? (eligible s) = some z)
    (goes : ¬ArbiterRests s) : admissionOpen s = true ∧ fits s z = true := by
  refine ⟨?_, fits_iff.mpr ?_⟩
  · by_contra shut
    exact goes (.inl (by simpa using shut))
  · by_contra no
    exact goes (.inr (.inr ⟨z, List.mem_of_find?_eq_some found, found, no⟩))

theorem offerTo_enable_accepted {g : Segment} {target output : Nat}
    (room : controlRoom g target output = true) :
    g.state ≠ .disabled ∧ (offerTo (feedExchange target output true) g.queue).answer = .accepted := by
  simp only [controlRoom, Bool.and_eq_true, Bool.or_eq_true, bne_iff_ne, Bool.not_eq_true',
    decide_eq_true_eq] at room
  obtain ⟨⟨enabled, space⟩, free⟩ := room
  refine ⟨enabled, ?_⟩
  simp only [offerTo, feedExchange, if_true, free, Bool.false_eq_true, if_false]
  split
  · rfl
  next no =>
    have less : g.queue.length < 20 := space.resolve_right no
    simp [offerRoom, classRoom, less]

theorem feedRoom_of_eligible {s : State} {z : Nat} (h : eligible s z = true) : feedRoom s z = true := by
  unfold eligible ineligible at h
  repeat' split at h
  all_goals simp_all

/-- R65: a run of the arbiter that does not rest grants the first eligible zone: its enable joins its
segment, and what follows is grants again. -/
theorem runArbiter_grants {s : State} {z : Nat} (found : s.zc.queue.find? (eligible s) = some z)
    (goes : ¬ArbiterRests s) : Grants (joinSegment (nodeCfg s (zoneCfg s z).feedEntry).segment
      (feedExchange (zoneCfg s z).feedEntry (zoneCfg s z).output true) s).state (runArbiter s) := by
  have queued := List.mem_of_find?_eq_some found
  have may := List.find?_some found
  obtain ⟨isOpen, fits⟩ := goes_of_not_rests found goes
  obtain ⟨enabled, accepted⟩ := offerTo_enable_accepted (feedRoom_of_eligible may)
  have answer := joinSegment_answer (nodeCfg s (zoneCfg s z).feedEntry).segment
    (feedExchange (zoneCfg s z).feedEntry (zoneCfg s z).output true) s
  rw [if_neg enabled, accepted] at answer
  have state := joinSegment_state (nodeCfg s (zoneCfg s z).feedEntry).segment
    (feedExchange (zoneCfg s z).feedEntry (zoneCfg s z).output true) s
  unfold runArbiter
  obtain ⟨fuel, hfuel⟩ : ∃ fuel, s.zc.queue.length = fuel + 1 :=
    ⟨s.zc.queue.length - 1, by have := List.length_pos_of_mem queued; omega⟩
  rw [hfuel, arbiterRun, if_pos isOpen, found]
  dsimp only
  rw [if_pos fits]
  generalize joinSegment _ _ s = j at answer state
  rw [answer]
  refine (Grants.grantZone ?_ ?_).arbiterRun fuel
  · rw [state]; exact queued
  · rw [state]
    show (zoneAt s z).disablePending = false
    exact not_owed_of_eligible may

/-! ### A disable -/

/-- R68: a disable that joins an IDLE segment goes onto the wire at once. -/
theorem queueDisable_idle {s : State} {z i : Nat}
    (inUse : (nodeCfg s (zoneCfg s z).feedEntry).inUse = true)
    (here : (nodeCfg s (zoneCfg s z).feedEntry).segment = i) (state : (segAt s i).state = .idle)
    (queue : (segAt s i).queue = []) : segAt (queueDisable z s).1 i = { segAt s i with
      state := .exchange, queue := [], current := some (startExchange s i (disableOf s z)) } := by
  subst here
  have hi := lt_of_state_ne_disabled (s := s) (by rw [state]; simp)
  rw [segAt_congr (queueDisable_segs z s inUse), segAt_modSeg_same _ _ hi, joined_idle _ _ _ state queue]

theorem switchZoneOff_idle {s : State} {z i : Nat}
    (inUse : (nodeCfg s (zoneCfg s z).feedEntry).inUse = true)
    (here : (nodeCfg s (zoneCfg s z).feedEntry).segment = i) (state : (segAt s i).state = .idle)
    (queue : (segAt s i).queue = []) :
    (segAt (switchZoneOff z s) i).current = some (startExchange s i (disableOf s z)) := by
  have taken := queueDisable_idle (s := modZone z (leftRunning .off) s) inUse here state queue
  have works : Works (queueDisable z (modZone z (leftRunning .off) s)).1 (switchZoneOff z s) :=
    ((Works.refl _).tellZoneChange _ _ _).afterDeparture _
  obtain ⟨-, current⟩ := works.wire (i := i) (by rw [taken])
  rw [current, taken]
  rfl

theorem zoneOffRequest_of_runs {s : State} {z : Nat} (running : runs s z = true) :
    zoneOffRequest z s = switchZoneOff z s := by
  unfold zoneOffRequest
  unfold runs countsAllotment at running
  split <;> rename_i h <;> simp [h] at running <;> rfl

/-- R149: a ZONE OFF that is taken at once, but for its answer. -/
theorem exec_zoneOff_segs (tag zone : Byte) {s : State} (ready : Ready s) (fits : zone.toNat ≤ 31) :
    ∃ t, exec (.zoneOff tag zone) s = .next t ∧
      t.segs = (zoneOffRequest zone.toNat (keepPlace true s)).segs := by
  refine ⟨_, rfl, ?_⟩
  unfold request
  rw [if_neg (by simp [requestPayload]), if_pos (canTake_of_ready ready)]
  simp only [serve, carryOut, zoneRequest, if_neg (Nat.not_lt.mpr fits)]
  rfl

theorem startExchange_ex (s : State) (i : Nat) (e : Exchange) : (startExchange s i e).ex = e := rfl

/-- Settles O56: each event of an exchange acts in its own phase only; the segment that returns to IDLE
takes the head of its queue, which the handing on keeps URGENT-first; and an exchange that joins an IDLE
segment is on the wire when the command ends. -/
theorem exchangeMovesThroughItsPhases : Obligations.ExchangeMovesThroughItsPhases := by
  unfold Obligations.ExchangeMovesThroughItsPhases
  refine ⟨fun i s => ⟨fun c current => ?_, exec_of_no_exchange⟩, ?_, ?_, ?_, ?_, ?_⟩
  · refine ⟨exec_sendComplete_of_sending current, fun phase => ⟨?_, fun index => ?_⟩,
      exec_replyFirstByte_of_waiting current, fun phase => ⟨?_, ?_, fun d running => ?_⟩,
      fun phase => ⟨?_, fun bytes => ?_⟩⟩
    · exact exec_sendComplete_of_not_sending current phase
    · exact exec_readbackMismatch_of_not_sending index current phase
    · exact exec_replyFirstByte_of_not_waiting current phase
    · exact exec_replyWindowExpiry_of_stopped current
    · rw [exec_replyWindowExpiry_of_running current running,
        windowPassed_of_not_waiting d current phase]
    · exact exec_replySilence_of_not_receiving current phase
    · exact exec_replyComplete_of_not_receiving bytes current phase
  · intro i s c command current law event
    obtain ⟨u, segs, tables, ended⟩ := exec_ends current event
    have lawU : SegmentLaw u := segmentLaw_of_segs segs law
    have currentU : (segAt u i).current = some c := by rw [segAt_congr segs]; exact current
    obtain ⟨v, handed, exec⟩ : ∃ v, Handed i c u v ∧ exec command s = .next (returnToIdle i v) := by
      rcases ended with ⟨x, exec⟩ | ⟨f, exec⟩
      · exact ⟨_, handed_endFailed x lawU currentU, exec.trans (congrArg _ (endFailed_eq i c x u))⟩
      · exact ⟨_, handed_endGood f lawU currentU, exec.trans (congrArg _ (endGood_eq i c f u))⟩
    have taken := handed.taken i.isLt lawU
    rw [segAt_congr segs] at taken
    obtain ⟨wire, bare, next⟩ := taken
    refine ⟨_, exec, fun x hx => ?_, bare, next⟩
    obtain ⟨state, just, behind⟩ := wire x hx
    simp only [JustTaken, replyWindow, setting, nodeCfg, tables] at just
    exact ⟨state, just, behind⟩
  · intro i s d k rest running state queue owed first
    have exec : exec (.pollTimerExpiry i) s = .next (pollExpired i (atTime d s)) := by
      rw [exec_pollTimerExpiry, running]; rfl
    obtain ⟨after, current⟩ := pollExpired_takes i.isLt (s := atTime d s) state queue owed first
    exact ⟨_, _, exec, after, current, rfl, justTaken_startExchange rfl i _⟩
  · intro c rk tag dest payload s k n ready fits node row target slot state queue
    obtain ⟨exec, kind, gate⟩ : exec c s = .next (relayArrives (relayFrame rk tag dest payload) s) ∧
        relayIsWrite rk = decide (rk = .itemWrite) ∧
        PassesGate s rk (relayFrame rk tag dest payload) k n := by
      rcases row with ⟨rfl, rfl, rfl⟩ | ⟨rfl, rfl, some⟩ | ⟨rfl, rfl, some, whole, plain⟩
      · exact ⟨rfl, rfl, relayKindOf_relayKindByte .poll, rfl, target, rfl, slot⟩
      · exact ⟨rfl, rfl, relayKindOf_relayKindByte .itemRead, by simp [relayDecodes, relayFrame, some], target,
          rfl, slot⟩
      · exact ⟨rfl, rfl, relayKindOf_relayKindByte .itemWrite, by simp [relayDecodes, relayFrame, some, whole],
          target, plain, slot⟩
    rw [relayArrives_of_ready ready fits node] at exec
    obtain ⟨after, current⟩ := takeRelay_idle gate state queue
    refine ⟨_, _, exec, after, current, justTaken_startExchange rfl _ _, ?_⟩
    rw [startExchange_ex, relayExchange, kind]
    simp [relayFrame]
  · intro z d y s u lists law running hu goes found state
    have exec : exec (.retryTimerExpiry z) s = .next (runArbiter u) := by
      subst hu
      show Host.Outcome.next (onExpiry (zoneAt s z).retry (retryExpired z) s) = _
      rw [running]
      rfl
    have segs (j : Nat) : segAt u j = segAt s j := by subst hu; rfl
    have zone : zoneCfg u y = zoneCfg s y := by subst hu; rfl
    have node : nodeCfg u = nodeCfg s := by subst hu; rfl
    have grants := runArbiter_grants found goes
    rw [zone, node] at grants
    have hi := lt_of_state_ne_disabled (s := s) (by rw [state]; simp)
    have queue : (segAt s (nodeCfg s (zoneCfg s y).feedEntry).segment).queue = [] := by
      obtain ⟨-, ⟨-, empty, -⟩, -⟩ := law _ hi
      exact empty (by simp [state])
    obtain ⟨-, joins⟩ := joinSegment_idle (s := u)
      (feedExchange (zoneCfg s y).feedEntry (zoneCfg s y).output true)
      (by rw [segs]; exact state) (by rw [segs]; exact queue)
    obtain ⟨-, current⟩ := grants.wire (by rw [joins])
    rw [joins] at current
    exact ⟨_, _, exec, current, justTaken_startExchange (by subst hu; rfl) _ _, rfl⟩
  · intro tag zone s ready _ fits running inUse state queue
    obtain ⟨t, exec, segs⟩ := exec_zoneOff_segs tag zone ready fits
    rw [zoneOffRequest_of_runs (s := keepPlace true s) running] at segs
    have current := switchZoneOff_idle (s := keepPlace true s) inUse rfl state queue
    refine ⟨t, _, exec, (congrArg Segment.current (segAt_congr segs _)).trans current,
      justTaken_startExchange rfl _ _, rfl⟩

end Sys2Proof.Machine


namespace Sys2Proof.Machine

/-! ## The return to IDLE, for the other blocks (R6, R66) -/

/-- The state in which segment `i` has returned to IDLE and its arbiter has acted; the Zone Controller's
run for what left the queue is still to come. -/
def handedBack (i : Nat) (s : State) : State :=
  modSeg i (fun g => arbitrated s i { g with state := .idle }) s

theorem works_returnToIdle {i : Nat} (hi : i < 4) (s : State) :
    Works (handedBack i s) (returnToIdle i s) := by
  rw [returnToIdle_eq i s hi]
  exact (Works.refl _).afterDeparture _

theorem grants_returnToIdle {i : Nat} (hi : i < 4) (s : State) :
    Grants (handedBack i s) (returnToIdle i s) := by
  rw [returnToIdle_eq i s hi]
  exact (Grants.refl _).afterDeparture _

theorem returnToIdle_nodes (i : Nat) (s : State) : (returnToIdle i s).nodes = s.nodes :=
  touches_of_erase (bs := [.port, .segs, .cap, .zc, .mail]) (by simp) .nodes (by decide)

theorem returnToIdle_marks {i : Nat} (hi : i < 4) (s : State) :
    SameMarks (segAt s i) (segAt (returnToIdle i s) i) := by
  have back : segAt (handedBack i s) i = arbitrated s i { segAt s i with state := .idle } :=
    segAt_modSeg_same _ s hi
  have marks := ((works_returnToIdle hi s).segs i).marks
  rw [back] at marks
  exact .trans (g₂ := { segAt s i with state := .idle }) ⟨rfl, rfl, rfl, rfl⟩
    ((sameMarks_arbitrated s i _).trans marks)

/-- What stands on a segment, but for an enable, still stands on it after a return to IDLE. -/
theorem carries_returnToIdle {i j : Nat} {s : State} {p : Exchange → Bool}
    (held : HeldSegment (segAt s i)) (spares : SparesEnables p) (stands : Stands (segAt s j) p) :
    Carries (segAt (returnToIdle i s) j) p := by
  have hi : i < 4 := lt_of_state_ne_disabled (by rw [held.state]; simp)
  have back : Stands (segAt (handedBack i s) j) p := by
    unfold handedBack
    rw [segAt_modSeg]
    split
    next h =>
      obtain ⟨rfl, -⟩ := h
      have queued : (segAt s i).queue.any p = true := by
        rcases stands.2 with h | h
        · exact h
        · simp [held.current] at h
      refine ⟨?_, carries_arbitrated s i (.inl queued)⟩
      cases queue : (segAt s i).queue with
      | nil => simp [queue] at queued
      | cons e rest => rw [arbitrated_of_cons s i (by rfl) (by rfl)]; simp
    · exact stands
  exact (((works_returnToIdle hi s).segs j).carries spares back).2

/-! ## A zone that is switched off (R68, R69) -/

/-- What the queueing of a disable does to the zones: the disable may be owed. -/
theorem queueDisable_zone (y : Nat) (s : State) (z : Nat) :
    (queueDisable y s).1.zc.queue = s.zc.queue ∧ ∃ owed,
      zoneAt (queueDisable y s).1 z = { zoneAt s z with disablePending := owed } := by
  have pending (x : DisableOutcome) (u : State) (hu : u.zc = s.zc) :
      (setDisablePending y x u).zc.queue = s.zc.queue ∧ ∃ owed,
        zoneAt (setDisablePending y x u) z = { zoneAt s z with disablePending := owed } := by
    have here := zoneAt_congr hu z
    unfold setDisablePending
    split
    · exact ⟨by rw [hu], _, by rw [here]⟩
    · dsimp only
      rw [raiseFlag_zc, zoneAt_congr (raiseFlag_zc _ _ _), zoneAt_modZone, here]
      refine ⟨by rw [← hu]; rfl, ?_⟩
      split
      · exact ⟨_, rfl⟩
      · exact ⟨_, rfl⟩
  unfold queueDisable
  dsimp only
  have joined : (joinSegment (nodeCfg s (zoneCfg s y).feedEntry).segment
      (feedExchange (zoneCfg s y).feedEntry (zoneCfg s y).output false) s).state.zc = s.zc := by
    rw [joinSegment_state]; rfl
  split
  · split
    · exact ⟨by rw [joined], _, by rw [zoneAt_congr joined]⟩
    · exact ⟨by rw [joined], _, by rw [zoneAt_congr joined]⟩
    · exact pending _ _ joined
  · exact pending _ s rfl

/-- The disable of the zone's output stands on its segment, or is owed. -/
def OffOrOwed (s : State) (z entry output : Nat) : Prop :=
  (zoneAt s z).disablePending = true ∨
    Stands (segAt s (nodeCfg s entry).segment) (isFeedSet entry output false)

theorem setDisablePending_sets {z : Nat} (hz : z < 32) (x : DisableOutcome) (s : State) :
    zoneAt (setDisablePending z x s) z = { zoneAt s z with disablePending := true } := by
  unfold setDisablePending
  split
  next h => rw [← h]
  · dsimp only
    rw [zoneAt_congr (raiseFlag_zc _ _ _), zoneAt_modZone, if_pos ⟨rfl, hz⟩]

/-- R68: FEED_PENDING is raised where the debt is new. -/
theorem flag_setDisablePending {z : Nat} (x : DisableOutcome) {s : State}
    (fresh : (zoneAt s z).disablePending = false) :
    inFlagSet (setDisablePending z x s).port.flags .feedPending = true := by
  unfold setDisablePending
  rw [if_neg (by simp [fresh])]
  exact flag_raiseFlag _ _ _

theorem offOrOwed_queueDisable {z : Nat} (hz : z < 32) (s : State) :
    OffOrOwed (queueDisable z s).1 z (zoneCfg s z).feedEntry (zoneCfg s z).output := by
  have pending (x : DisableOutcome) (u : State) :
      OffOrOwed (setDisablePending z x u) z (zoneCfg s z).feedEntry (zoneCfg s z).output :=
    .inl (by rw [setDisablePending_sets hz])
  unfold queueDisable
  dsimp only
  split
  · have stands (accepted : (joinSegment (nodeCfg s (zoneCfg s z).feedEntry).segment
        (feedExchange (zoneCfg s z).feedEntry (zoneCfg s z).output false) s).answer ≠ .refused) :
        OffOrOwed (joinSegment (nodeCfg s (zoneCfg s z).feedEntry).segment
          (feedExchange (zoneCfg s z).feedEntry (zoneCfg s z).output false) s).state z
          (zoneCfg s z).feedEntry (zoneCfg s z).output := by
      right
      rw [joinSegment_answer] at accepted
      have enabled : (segAt s (nodeCfg s (zoneCfg s z).feedEntry).segment).state ≠ .disabled :=
        fun h => accepted (if_pos h)
      rw [if_neg enabled] at accepted
      have node : nodeCfg (joinSegment (nodeCfg s (zoneCfg s z).feedEntry).segment
          (feedExchange (zoneCfg s z).feedEntry (zoneCfg s z).output false) s).state
            (zoneCfg s z).feedEntry = nodeCfg s (zoneCfg s z).feedEntry := by
        rw [joinSegment_state]; rfl
      rw [node, segAt_joinSegment, if_pos rfl]
      exact carries_joined_self s _ enabled accepted fun x ht hk => isFeedSet_iff.mpr ⟨ht, hk⟩
    split
    next h => exact stands (by rw [h]; simp)
    next h => exact stands (by rw [h]; simp)
    · exact pending _ _
  · exact pending _ s

theorem OffOrOwed.works {s t : State} {z entry output : Nat} (h : OffOrOwed s z entry output)
    (works : Works s t)
    (owed : (zoneAt s z).disablePending = true → (zoneAt t z).disablePending = true) :
    OffOrOwed t z entry output := by
  refine h.imp owed fun stands => ?_
  have node : nodeCfg t entry = nodeCfg s entry := by simp [nodeCfg, works.tables]
  rw [node]
  exact (works.segs _).carries (sparesEnables_feedSet_off _ _) stands

theorem OffOrOwed.returnToIdle {i : Nat} {s : State} {z entry output : Nat}
    (h : OffOrOwed s z entry output) (held : HeldSegment (segAt s i)) :
    SwitchedOff (returnToIdle i s) z entry output := by
  have hi : i < 4 := lt_of_state_ne_disabled (by rw [held.state]; simp)
  have node : nodeCfg (Machine.returnToIdle i s) entry = nodeCfg s entry := by
    have tables : (Machine.returnToIdle i s).tables = s.tables := (works_returnToIdle hi s).tables
    simp [nodeCfg, tables]
  refine h.imp (fun owed => ?_) fun stands => ?_
  · rw [(grants_returnToIdle hi s).pending]
    exact owed
  · rw [node]
    exact carries_returnToIdle held (sparesEnables_feedSet_off _ _) stands

/-! ## A failed attempt (R71) -/

/-- R71: how a zone stands whose attempt has failed, with `a` failed attempts, in LOCKOUT or not. -/
structure Failed (z a : Nat) (locked : Bool) (s : State) : Prop where
  attempts : (zoneAt s z).attempts = a
  acked : (zoneAt s z).acked = false
  inrush : (zoneAt s z).inrush = .stopped
  lockout : locked = true → (zoneAt s z).state = .lockout ∧ z ∉ s.zc.queue
  admitted : locked = false → Admitted s z

theorem Failed.grants {z a : Nat} {locked : Bool} {s t : State} (h : Failed z a locked s)
    (grants : Grants s t) : Failed z a locked t := by
  rcases grants.zones z with same | ⟨queued, -, same⟩
  · have lockout (hl : locked = true) : (zoneAt t z).state = .lockout ∧ z ∉ t.zc.queue :=
      ⟨same ▸ (h.lockout hl).1, fun hz => (h.lockout hl).2 (grants.queue z hz)⟩
    have admitted (hl : locked = false) : Admitted t z := by
      unfold Admitted
      rw [same]
      exact h.admitted hl
    exact ⟨same ▸ h.attempts, same ▸ h.acked, same ▸ h.inrush, lockout, admitted⟩
  · refine ⟨same ▸ h.attempts, by rw [same]; rfl, same ▸ h.inrush, fun hl => ?_, fun _ => ?_⟩
    · exact absurd queued (h.lockout hl).2
    · exact .inr (by rw [same]; rfl)

/-- A zone's failed attempt stands whatever is done to its debt of a disable. -/
theorem Failed.queueDisable {z a : Nat} {locked : Bool} {s : State} (h : Failed z a locked s)
    (y : Nat) : Failed z a locked (queueDisable y s).1 := by
  obtain ⟨queue, owed, same⟩ := queueDisable_zone y s z
  refine ⟨same ▸ h.attempts, same ▸ h.acked, same ▸ h.inrush, fun hl => ?_, fun hl => ?_⟩
  · rw [queue, same]
    exact h.lockout hl
  · unfold Admitted
    rw [same]
    exact h.admitted hl

/-- R71: the record of a zone whose attempt fails, before its disable is queued. -/
def attemptFailed (z : Nat) (s : State) : State :=
  let attempts := (zoneAt s z).attempts + 1
  let locked := attempts == (zoneCfg s z).lockout
  let u := modZone z (fun r => { leftRunning (if locked then .lockout else .queued) r with
    attempts := attempts
    retry := if locked || retryDelay s == 0 then Timer.stopped else startTimer s (retryDelay s) }) s
  if locked then u else enqueueZone z u

theorem failed_attemptFailed {z : Nat} (hz : z < 32) {s : State} (unqueued : z ∉ s.zc.queue) :
    Failed z ((zoneAt s z).attempts + 1)
      ((zoneAt s z).attempts + 1 == (zoneCfg s z).lockout) (attemptFailed z s) := by
  unfold attemptFailed
  dsimp only
  split
  next locked =>
    refine ⟨?_, ?_, ?_, fun _ => ⟨?_, unqueued⟩, by simp [locked]⟩
    all_goals rw [zoneAt_modZone, if_pos ⟨rfl, hz⟩]
    all_goals simp [leftRunning]
  next unlocked =>
    have same (u : State) : zoneAt (enqueueZone z u) z = zoneAt u z := rfl
    refine ⟨?_, ?_, ?_, fun locked => absurd locked unlocked, fun _ => .inl ?_⟩
    all_goals rw [same, zoneAt_modZone, if_pos ⟨rfl, hz⟩]
    all_goals simp [leftRunning]

/-- R71: the disable of a zone whose attempt failed is queued, ZONE_LOCKOUT is raised, and the other blocks
are told. -/
theorem failAttempt_eq (z : Nat) (cause : AttemptCause) (s : State) : ∃ p new,
    failAttempt z cause s = runArbiter (tellZoneChange z .inrush new
      (if (zoneAt s z).attempts + 1 == (zoneCfg s z).lockout then
        raiseFlag .zoneLockout p (queueDisable z (attemptFailed z s)).1
      else (queueDisable z (attemptFailed z s)).1)) :=
  ⟨_, _, rfl⟩

/-- R69, R71: what a failed attempt leaves. -/
structure AttemptFails (z : Nat) (s t : State) : Prop where
  failed : Failed z ((zoneAt s z).attempts + 1)
    ((zoneAt s z).attempts + 1 == (zoneCfg s z).lockout) t
  off : OffOrOwed t z (zoneCfg s z).feedEntry (zoneCfg s z).output
  flag : (zoneAt s z).attempts + 1 = (zoneCfg s z).lockout →
    inFlagSet t.port.flags .zoneLockout = true

theorem failAttempt_fails {z : Nat} (hz : z < 32) (cause : AttemptCause) {s : State}
    (unqueued : z ∉ s.zc.queue) : AttemptFails z s (failAttempt z cause s) := by
  obtain ⟨p, new, eq⟩ := failAttempt_eq z cause s
  rw [eq]
  have failed := (failed_attemptFailed hz unqueued).queueDisable z
  have off := offOrOwed_queueDisable hz (attemptFailed z s)
  have zone : zoneCfg (attemptFailed z s) z = zoneCfg s z := by
    unfold attemptFailed; dsimp only; split <;> rfl
  rw [zone] at off
  generalize (queueDisable z (attemptFailed z s)).1 = u at failed off
  have raised : Grants u (raiseFlag .zoneLockout p u) := (Grants.refl u).raiseFlag _ _
  have raisedWorks : Works u (raiseFlag .zoneLockout p u) := (Works.refl u).raiseFlag _ _
  split
  · have told := ((Grants.refl (raiseFlag .zoneLockout p u)).tellZoneChange z .inrush new).runArbiter
    have toldWorks : Works (raiseFlag .zoneLockout p u)
        (runArbiter (tellZoneChange z .inrush new (raiseFlag .zoneLockout p u))) :=
      Works.runArbiter ((Works.refl _).tellZoneChange _ _ _)
    have grants := raised.trans told
    refine ⟨failed.grants grants, off.works (raisedWorks.trans toldWorks) fun owed => ?_, fun _ => ?_⟩
    · rw [grants.pending]; exact owed
    · exact toldWorks.flags _ (flag_raiseFlag _ _ _)
  next unlocked =>
    have grants := ((Grants.refl u).tellZoneChange z .inrush new).runArbiter
    have works : Works u (runArbiter (tellZoneChange z .inrush new u)) :=
      Works.runArbiter ((Works.refl _).tellZoneChange _ _ _)
    refine ⟨failed.grants grants, off.works works fun owed => ?_, fun locked => ?_⟩
    · rw [grants.pending]; exact owed
    · exact absurd (beq_iff_eq.mpr locked) unlocked

/-- R69, R71: what the failed attempt of zone `z` leaves, when its segment has returned to IDLE. -/
theorem AttemptFails.returnToIdle {z i : Nat} {s u : State} (h : AttemptFails z s u) (hi : i < 4) :
    (zoneAt (returnToIdle i u) z).attempts = (zoneAt s z).attempts + 1 ∧
      (zoneAt (returnToIdle i u) z).acked = false ∧
      (zoneAt (returnToIdle i u) z).inrush = .stopped ∧
      (HeldSegment (segAt u i) → SwitchedOff (returnToIdle i u) z (zoneCfg s z).feedEntry
        (zoneCfg s z).output) ∧
      ((zoneAt s z).attempts + 1 = (zoneCfg s z).lockout →
        (zoneAt (returnToIdle i u) z).state = .lockout ∧
        inFlagSet (returnToIdle i u).port.flags .zoneLockout = true) ∧
      ((zoneAt s z).attempts + 1 ≠ (zoneCfg s z).lockout → Admitted (returnToIdle i u) z) := by
  have back : Failed z ((zoneAt s z).attempts + 1)
      ((zoneAt s z).attempts + 1 == (zoneCfg s z).lockout) (handedBack i u) :=
    ⟨h.failed.attempts, h.failed.acked, h.failed.inrush, h.failed.lockout, h.failed.admitted⟩
  have failed := back.grants (grants_returnToIdle hi u)
  refine ⟨failed.attempts, failed.acked, failed.inrush, h.off.returnToIdle, fun locked => ⟨?_, ?_⟩,
    fun unlocked => ?_⟩
  · exact (failed.lockout (beq_iff_eq.mpr locked)).1
  · exact (works_returnToIdle hi u).flags _ (h.flag locked)
  · exact failed.admitted (beq_eq_false_iff_ne.mpr unlocked)

/-! ## The zone of a pair (R60) -/

theorem zoneOfPair_some {s : State} {entry output z : Nat} (h : zoneOfPair s entry output = some z) :
    z < 32 ∧ (zoneCfg s z).feedEntry = entry ∧ (zoneCfg s z).output = output := by
  have member : z ∈ allZones := List.mem_of_find?_eq_some h
  have found := List.find?_some h
  simp only [Bool.and_eq_true, beq_iff_eq] at found
  obtain ⟨⟨-, entry⟩, output⟩ := found
  exact ⟨List.mem_range.mp member, entry, output⟩

theorem zoneOfPair_congr {s t : State} (h : t.tables = s.tables) (entry output : Nat) :
    zoneOfPair t entry output = zoneOfPair s entry output := by
  simp [zoneOfPair, zoneCfg, h]

/-- R62: a zone that is not QUEUED does not stand in the admission queue. -/
theorem not_queued_of_state {s : State} (law : ZoneListsLaw s) {z : Nat}
    (state : (zoneAt s z).state ≠ .queued) : z ∉ s.zc.queue := by
  obtain ⟨-, -, bound, -, lists, -⟩ := law
  exact fun queued => state ((lists z (bound z queued)).mp queued)

theorem not_queued_of_runs {s : State} (law : ZoneListsLaw s) {z : Nat} (running : runs s z = true) :
    z ∉ s.zc.queue := by
  refine not_queued_of_state law fun queued => ?_
  simp [runs, countsAllotment, queued] at running

end Sys2Proof.Machine


namespace Sys2Proof.Machine

/-! ## The end of a relay's exchange (R153) -/

/-- The two states hold the same responses, kept places and relay slots. -/
structure SamePlaces (s t : State) : Prop where
  responses : t.port.responses = s.port.responses
  answering : t.port.answering = s.port.answering
  slots : t.port.slots = s.port.slots
  placeKept : t.port.placeKept = s.port.placeKept

theorem Works.places {s t : State} (h : Works s t) : SamePlaces s t :=
  ⟨h.responses, h.answering, h.slots, h.placeKept⟩

theorem SamePlaces.of_port {s t : State} (h : t.port = s.port) : SamePlaces s t := by
  constructor <;> rw [h]

theorem SamePlaces.trans {s t u : State} (h : SamePlaces s t) (h' : SamePlaces t u) :
    SamePlaces s u :=
  ⟨h'.responses.trans h.responses, h'.answering.trans h.answering, h'.slots.trans h.slots,
    h'.placeKept.trans h.placeKept⟩

theorem SamePlaces.slotAt {s t : State} (h : SamePlaces s t) (n : Nat) :
    slotAt t n = Machine.slotAt s n := by
  simp [Machine.slotAt, h.slots]

theorem SamePlaces.keptPlaces {s t : State} (h : SamePlaces s t) :
    keptPlaces t = Machine.keptPlaces s := by
  simp [Machine.keptPlaces, h.slots, h.placeKept]

theorem slotAt_setSlot {n : Nat} (hn : n < 8) (x : Option RelaySlot) (s : State) :
    slotAt (setSlot n x s) n = x :=
  nth_put_self _ _ _ hn

/-- R147, R153: the answer of the WAITING slot `n` is decided: it joins the response queue in the place
kept for it, or is held. -/
def Answered (n : Nat) (x : RelaySlot) (answer : Frame) (s t : State) : Prop :=
  if s.port.responses.length + keptPlaces s ≤ 8 ∧ s.port.answering = [] then
    slotAt t n = none ∧ t.port.answering = [] ∧
      t.port.responses = s.port.responses ++ [⟨answer, none⟩]
  else t.port.responses = s.port.responses ∧ t.port.answering = s.port.answering ++ [n] ∧
    slotAt t n = some { x with timer := .stopped, state := .answering answer false }

theorem Answered.congr {n : Nat} {x : RelaySlot} {answer : Frame} {s s' t t' : State}
    (h : Answered n x answer s' t') (before : SamePlaces s s') (after : SamePlaces t' t) :
    Answered n x answer s t := by
  unfold Answered at h ⊢
  rw [before.responses, before.keptPlaces, before.answering] at h
  rw [after.responses, after.slotAt, after.answering]
  exact h

theorem relayEnded_of_waiting {n : Nat} (hn : n < 8) (f : RelaySlot → Frame) {s : State}
    {x : RelaySlot} (here : slotAt s n = some x) (waiting : x.state = .waiting) :
    Answered n x (f x) s (relayEnded n f s) := by
  have ended : relayEnded n f s = decideAnswer n x (f x) false s := by
    simp only [relayEnded, here, waiting]
  rw [ended]
  unfold Answered
  rcases decideAnswer_cases n x (f x) false s with ⟨room, first, eq⟩ | ⟨no, eq⟩
  · rw [if_pos ⟨of_decide_eq_true room, first⟩, eq]
    exact ⟨slotAt_setSlot hn _ _, first, rfl⟩
  · rw [if_neg fun h => no ⟨decide_eq_true h.1, h.2⟩, eq]
    exact ⟨rfl, rfl, slotAt_setSlot hn _ _⟩

theorem relayEnded_of_expired {n : Nat} (hn : n < 8) (f : RelaySlot → Frame) {s : State}
    {x : RelaySlot} (here : slotAt s n = some x) (expired : x.state = .expired) :
    slotAt (relayEnded n f s) n = none ∧
      (relayEnded n f s).port.responses = s.port.responses ∧
      (relayEnded n f s).port.answering = s.port.answering := by
  have ended : relayEnded n f s = setSlot n none s := by simp only [relayEnded, here, expired]
  rw [ended]
  exact ⟨slotAt_setSlot hn _ _, rfl, rfl⟩

theorem relayEnded_of_answering {n : Nat} (hn : n < 8) (f : RelaySlot → Frame) {s : State}
    {x : RelaySlot} {held : Frame} {pending : Bool} (here : slotAt s n = some x)
    (answering : x.state = .answering held pending) :
    slotAt (relayEnded n f s) n = some { x with state := .answering held false } ∧
      (relayEnded n f s).port.responses = s.port.responses ∧
      (relayEnded n f s).port.answering = s.port.answering := by
  have ended : relayEnded n f s = setSlot n (some { x with state := .answering held false }) s := by
    simp only [relayEnded, here, answering]
  rw [ended]
  exact ⟨slotAt_setSlot hn _ _, rfl, rfl⟩

theorem places_returnToIdle {i : Nat} (hi : i < 4) (s : State) : SamePlaces s (returnToIdle i s) :=
  .trans (t := handedBack i s) (.of_port rfl) (works_returnToIdle hi s).places

/-! ## A failure is retried, or is final (R11, R12) -/

/-- R3: the room of the class of `c`'s exchange is used up. -/
def FullFor (c : Current) (q : List Exchange) : Prop :=
  (if c.ex.cls = .urgent then 24 else 20) ≤ q.length

/-- R11, R12: a failure of `c` is final. -/
def FailsForGood (c : Current) (q : List Exchange) : Prop :=
  c.ex.cls = .poll ∨ c.ex.retryUsed = true ∨
    (q.any (fun e => clashes e c.ex) = false ∧ FullFor c q) ∨
    ∃ output on, c.ex.kind = .feedSet output on ∧
      q.any (isFeedSet c.ex.target output on) = false ∧
      q.any (isFeedSet c.ex.target output !on) = true

theorem classRoom_iff (c : Current) (q : List Exchange) :
    classRoom c.ex.cls q.length = true ↔ ¬FullFor c q := by
  unfold FullFor
  cases c.ex.cls <;> simp [classRoom]

theorem no_feedSet_of_no_clash {e : Exchange} {q : List Exchange} {output : Nat} {on : Bool}
    (free : q.any (fun x => clashes x e) = false) (kind : e.kind = .feedSet output on) (b : Bool) :
    q.any (isFeedSet e.target output b) = false := by
  rw [Bool.eq_false_iff] at free ⊢
  intro h
  obtain ⟨x, hx, same⟩ := List.any_eq_true.mp h
  obtain ⟨target, setting⟩ := isFeedSet_iff.mp same
  exact free (List.any_eq_true.mpr ⟨x, hx, clashes_iff.mpr ⟨target, .inr ⟨_, _, _, setting, kind⟩⟩⟩)

/-- R11: with no other of its pair in the queue, the requeue is a matter of room. -/
theorem requeue_of_no_clash {e : Exchange} {q : List Exchange}
    (free : q.any (fun x => clashes x e) = false) :
    requeue e q = if classRoom e.cls q.length then some (joinHead { e with retryUsed := true } q)
      else none := by
  unfold requeue
  dsimp only
  split
  next output on kind =>
    rw [if_neg (by simp [no_feedSet_of_no_clash free kind]),
      if_neg (by simp [no_feedSet_of_no_clash free kind])]
  · rfl
  · rfl

theorem requeue_of_other {e : Exchange} {q : List Exchange} {output : Nat} {on : Bool}
    (kind : e.kind = .feedSet output on) (same : q.any (isFeedSet e.target output on) = false)
    (other : q.any (isFeedSet e.target output !on) = true) : requeue e q = none := by
  unfold requeue
  simp [kind, same, other]

theorem handFailure_of_final {i : Nat} {c : Current} (x : Failure) {s : State}
    (final : FailsForGood c (segAt s i).queue) : handFailure i c x s = tellFailed i c x s := by
  have refused (h : requeue c.ex (segAt s i).queue = none) :
      handFailure i c x s = tellFailed i c x s := by
    unfold handFailure
    rw [h]
    exact ite_self _
  rcases final with poll | used | ⟨free, full⟩ | ⟨output, on, kind, same, other⟩
  · simp [handFailure, poll]
  · simp [handFailure, used]
  · have room : ¬classRoom c.ex.cls (segAt s i).queue.length = true :=
      fun room => (classRoom_iff c _).mp room full
    exact refused (by rw [requeue_of_no_clash free, if_neg room])
  · exact refused (requeue_of_other kind same other)

/-- R11: the exchange stands on its segment again. -/
def retried (i : Nat) (q : List Exchange) (s : State) : State :=
  modCounters i (fun n => { n with retries := sat16 n.retries }) (modSeg i (fun g => { g with queue := q }) s)

theorem handFailure_of_retry {i : Nat} {c : Current} (x : Failure) {s : State}
    (cls : c.ex.cls ≠ .poll) (fresh : c.ex.retryUsed = false) (room : ¬FullFor c (segAt s i).queue)
    (free : (segAt s i).queue.any (fun e => clashes e c.ex) = false) :
    handFailure i c x s =
      retried i (joinHead { c.ex with retryUsed := true } (segAt s i).queue) s := by
  unfold handFailure
  rw [if_neg (by simp [cls, fresh]), requeue_of_no_clash free, if_pos ((classRoom_iff c _).mpr room)]
  rfl

theorem handFailure_cases (i : Nat) (c : Current) (x : Failure) (s : State) :
    handFailure i c x s = tellFailed i c x s ∨ ∃ q, handFailure i c x s = retried i q s := by
  unfold handFailure
  split
  · exact .inl rfl
  · split
    · exact .inr ⟨_, rfl⟩
    · exact .inl rfl

theorem segAt_retried {i : Nat} (hi : i < 4) (q : List Exchange) (s : State) :
    segAt (retried i q s) i = { segAt s i with
      queue := q
      counters := { (segAt s i).counters with retries := sat16 (segAt s i).counters.retries } } := by
  rw [retried, modCounters, segAt_modSeg_same _ _ hi, segAt_modSeg_same _ _ hi]

theorem HandsOn.counters {i : Nat} {s t : State} (h : HandsOn i s t) :
    (segAt t i).counters = (segAt s i).counters := by
  obtain ⟨g, p, x, joins, seg⟩ := h.seg
  rw [seg]
  exact joins.marks.counters

/-! ## What a failure leaves -/

section
variable {i : Nat} {c : Current} {x : Failure} {s : State}

/-- R20: the counters at the end of a failed exchange, but for the retries. -/
theorem counters_endFailed (hi : i < 4) : ∃ r, (segAt (endFailed i c x s) i).counters =
    { countFailure x (segAt s i).counters with retries := r } := by
  rw [endFailed_eq, (returnToIdle_marks hi _).counters]
  have counted := segAt_failureCounted i c x s hi
  rcases handFailure_cases i c x (failureCounted i c x s) with eq | ⟨q, eq⟩
  · rw [eq, (handsOn_tellFailed hi c x _).counters, counted]
    exact ⟨_, rfl⟩
  · rw [eq, segAt_retried hi, counted]
    exact ⟨_, rfl⟩

theorem countFailure_retries (n : SegCounters) : (countFailure x n).retries = n.retries := by
  cases x <;> rfl

theorem retries_of_final (hi : i < 4) (final : FailsForGood c (segAt s i).queue) :
    (segAt (endFailed i c x s) i).counters.retries = (segAt s i).counters.retries := by
  have counted := segAt_failureCounted i c x s hi
  rw [endFailed_eq, (returnToIdle_marks hi _).counters, handFailure_of_final x (by rw [counted]; exact final),
    (handsOn_tellFailed hi c x _).counters, counted]
  exact countFailure_retries _

/-- R8: SEG_FAULT is raised for a byte that was heard back wrong. -/
theorem flag_segFault (hi : i < 4) (index : Byte) :
    inFlagSet (endFailed i c (.readback index) s).port.flags .segFault = true := by
  rw [endFailed_eq]
  refine (works_returnToIdle hi _).flags _ ?_
  show inFlagSet (handFailure i c _ _).port.flags _ = true
  have raised : inFlagSet (failureCounted i c (.readback index) s).port.flags .segFault = true :=
    flag_raiseFlag _ _ _
  rcases handFailure_cases i c (.readback index) (failureCounted i c (.readback index) s) with
    eq | ⟨q, eq⟩ <;> rw [eq]
  · exact (handsOn_tellFailed hi c _ _).flags _ raised
  · exact raised

theorem failureCounted_zc : (failureCounted i c x s).zc = s.zc :=
  touches_of_erase (erase_failureCounted (bs := [.segs, .port]) i c x s (by decide) (by decide)) .zc
    (by decide)

theorem failureCounted_tables : (failureCounted i c x s).tables = s.tables :=
  touches_of_erase (erase_failureCounted (bs := [.segs, .port]) i c x s (by decide) (by decide)) .tables
    (by decide)

theorem failureCounted_nodes : (failureCounted i c x s).nodes = s.nodes :=
  touches_of_erase (erase_failureCounted (bs := [.segs, .port]) i c x s (by decide) (by decide)) .nodes
    (by decide)

theorem failureCounted_places : SamePlaces s (failureCounted i c x s) := by
  cases x with
  | readback index =>
    exact .trans (t := modCounters i (countFailure (.readback index)) (clearCurrent i s)) (.of_port rfl)
      ((Works.refl _).raiseFlag _ _).places
  | noReply => exact .of_port rfl
  | badReply => exact .of_port rfl

/-- R11: what is retried stands on its segment when the segment has returned to IDLE. -/
theorem carries_retried (hi : i < 4) {u : State} {e : Exchange} (queued : e ∈ (segAt u i).queue) :
    Carries (segAt (returnToIdle i u) i) (fun x => x == e) := by
  obtain ⟨-, taken⟩ := returnToIdle_segment (u := u) hi
  cases queue : (segAt u i).queue with
  | nil => simp [queue] at queued
  | cons y ys =>
    have joins := taken y ys queue
    obtain ⟨-, current⟩ := joins.exchange rfl
    rw [queue] at queued
    rcases List.mem_cons.mp queued with rfl | later
    · exact .inr (by rw [current]; simp [startExchange])
    · exact .inl (List.any_eq_true.mpr ⟨e, mem_enables joins rfl later, beq_self_eq_true e⟩)

/-- R11: a failure that is retried leaves the owner's blocks alone. -/
theorem endFailed_retried (hi : i < 4) (cls : c.ex.cls ≠ .poll) (fresh : c.ex.retryUsed = false)
    (room : ¬FullFor c (segAt s i).queue)
    (free : (segAt s i).queue.any (fun e => clashes e c.ex) = false) :
    (segAt (endFailed i c x s) i).counters.retries = min 65535 ((segAt s i).counters.retries + 1) ∧
      Carries (segAt (endFailed i c x s) i) (fun e => e == { c.ex with retryUsed := true }) ∧
      (endFailed i c x s).port.slots = s.port.slots ∧
      (endFailed i c x s).port.responses = s.port.responses ∧ (endFailed i c x s).nodes = s.nodes ∧
      (ZoneListsLaw s → ∀ z < 32, runs s z = true → zoneAt (endFailed i c x s) z = zoneAt s z) := by
  have counted := segAt_failureCounted i c x s hi
  have eq := handFailure_of_retry (s := failureCounted i c x s) x cls fresh (by rw [counted]; exact room)
    (by rw [counted]; exact free)
  have seg := segAt_retried hi
    (joinHead { c.ex with retryUsed := true } (segAt (failureCounted i c x s) i).queue)
    (failureCounted i c x s)
  rw [endFailed_eq, eq]
  generalize hu : retried i
    (joinHead { c.ex with retryUsed := true } (segAt (failureCounted i c x s) i).queue)
    (failureCounted i c x s) = u at seg
  have places : SamePlaces s (returnToIdle i u) :=
    (failureCounted_places.trans (.of_port (by rw [← hu]; rfl))).trans (places_returnToIdle hi u)
  have nodes : u.nodes = s.nodes := by rw [← hu]; exact failureCounted_nodes
  have zc : u.zc = s.zc := by rw [← hu]; exact failureCounted_zc
  refine ⟨?_, carries_retried hi (by rw [seg]; simp), places.slots, places.responses,
    (returnToIdle_nodes i u).trans nodes, fun law z _ running => ?_⟩
  · rw [(returnToIdle_marks hi u).counters, seg, counted]
    show sat16 (countFailure x (segAt s i).counters).retries = _
    rw [countFailure_retries]
    rfl
  · have unqueued := not_queued_of_runs law running
    rw [← zc] at unqueued
    exact ((grants_returnToIdle hi u).unqueued (z := z) unqueued).trans (zoneAt_congr zc z)

end

end Sys2Proof.Machine


namespace Sys2Proof.Machine

/-! ## A FEED_SET that fails or is refused (R67, R68, R71) -/

theorem AttemptFails.congr {z : Nat} {s s' t : State} (h : AttemptFails z s' t) (zc : s'.zc = s.zc)
    (tables : s'.tables = s.tables) : AttemptFails z s t := by
  obtain ⟨failed, off, flag⟩ := h
  have zone : zoneCfg s' z = zoneCfg s z := by simp [zoneCfg, tables]
  rw [zoneAt_congr zc, zone] at failed flag
  rw [zone] at off
  exact ⟨failed, off, flag⟩

/-- R67, R71: an enable that ends, but is not accepted, fails the attempt of its INRUSH zone. -/
theorem enable_fails {s : State} {entry output z : Nat} {report : FeedReport}
    (pair : zoneOfPair s entry output = some z) (state : (zoneAt s z).state = .inrush)
    (waits : (zoneAt s z).acked = false) (unqueued : z ∉ s.zc.queue) (bad : report ≠ .accepted) :
    AttemptFails z s (feedSetEnded entry output true report s) := by
  obtain ⟨hz, -, -⟩ := zoneOfPair_some pair
  obtain ⟨cause, eq⟩ : ∃ cause, feedSetEnded entry output true report s = failAttempt z cause s := by
    simp only [feedSetEnded, enableEnded, pair, state, waits, if_true]
    cases report with
    | accepted => exact absurd rfl bad
    | refused => exact ⟨_, rfl⟩
    | failed => exact ⟨_, rfl⟩
    | cancelled => exact ⟨_, rfl⟩
  rw [eq]
  exact failAttempt_fails hz cause unqueued

/-- R68: a disable that ends, but is not accepted, is owed by a zone that does not run. -/
theorem disable_fails {s : State} {entry output z : Nat} {report : FeedReport}
    (pair : zoneOfPair s entry output = some z) (bad : report ≠ .accepted) :
    (runs s z = true → feedSetEnded entry output false report s = s) ∧
      (runs s z = false → ∃ outcome,
        feedSetEnded entry output false report s = setDisablePending z outcome s) := by
  unfold runs
  simp only [feedSetEnded, disableEnded, pair, Bool.false_eq_true, if_false]
  cases report with
  | accepted => exact absurd rfl bad
  | refused => exact ⟨fun h => if_pos h, fun h => ⟨_, if_neg (by simp [h])⟩⟩
  | failed => exact ⟨fun h => if_pos h, fun h => ⟨_, if_neg (by simp [h])⟩⟩
  | cancelled => exact ⟨fun h => if_pos h, fun h => ⟨_, if_neg (by simp [h])⟩⟩

/-- R68: the disable of a zone that does not run is owed once its segment has returned to IDLE. -/
theorem owed_returnToIdle {i z : Nat} (hi : i < 4) (hz : z < 32) (outcome : DisableOutcome) (u : State) :
    zoneAt (returnToIdle i (setDisablePending z outcome u)) z =
        { zoneAt u z with disablePending := true } ∧
      ((zoneAt u z).disablePending = false →
        inFlagSet (returnToIdle i (setDisablePending z outcome u)).port.flags .feedPending = true) := by
  have sets := setDisablePending_sets hz outcome u
  constructor
  · rw [(grants_returnToIdle hi _).owed (z := z)]
    · exact sets
    · show (zoneAt (setDisablePending z outcome u) z).disablePending = true
      rw [sets]
  · exact fun fresh => (works_returnToIdle hi _).flags _ (flag_setDisablePending outcome fresh)

/-! ## Node records (R24, R29) -/

theorem nodeAt_modNode (k : Nat) (f : NodeRun → NodeRun) (s : State) (j : Nat) :
    nodeAt (modNode k f s) j = if k = j ∧ j < 48 then f (nodeAt s j) else nodeAt s j := by
  show nth (put s.nodes k (f (nodeAt s k))) j = _
  by_cases hkj : k = j
  · subst hkj
    by_cases hk : k < 48
    · simp [hk]
    · rw [put_of_le _ _ _ (Nat.le_of_not_lt hk)]
      simp [hk, nodeAt]
  · rw [nth_put_of_ne _ _ hkj]
    simp [hkj, nodeAt]

theorem nodeAt_congr {s t : State} (h : t.nodes = s.nodes) (k : Nat) : nodeAt t k = nodeAt s k := by
  simp [nodeAt, h]

theorem changeNode_nodes (k : Nat) (x : NodeState) (cause : NodeCause) (s : State) :
    (changeNode k x cause s).nodes = (modNode k (enterNodeState x) s).nodes :=
  touches_of_erase (bs := [.port, .segs, .cap, .zc, .ride, .leak, .mail]) (by simp [changeNode]) .nodes
    (by decide)

/-- R29: a miss is counted, and takes the entry to LOST at the threshold. -/
theorem countMiss_node {s : State} {k : Nat} (hk : k < 48) (inUse : (nodeCfg s k).inUse = true)
    (enabled : (nodeAt s k).state ≠ .disabled) :
    (nodeAt (countMiss k s) k).misses = min 15 ((nodeAt s k).misses + 1) ∧
      (nodeAt (countMiss k s) k).state =
        if lostThreshold s ≤ min 15 ((nodeAt s k).misses + 1) then .lost else (nodeAt s k).state := by
  unfold countMiss
  dsimp only
  rw [if_neg (by simp [inUse, enabled])]
  split
  next h =>
    obtain ⟨-, reached⟩ := Bool.and_eq_true_iff.mp h
    have reached := of_decide_eq_true reached
    rw [nodeAt_congr (changeNode_nodes _ _ _ _), nodeAt_modNode, if_pos ⟨rfl, hk⟩, nodeAt_modNode,
      if_pos ⟨rfl, hk⟩]
    exact ⟨rfl, (if_pos reached).symm⟩
  next h =>
    rw [nodeAt_modNode, if_pos ⟨rfl, hk⟩]
    refine ⟨rfl, ?_⟩
    show (nodeAt s k).state = _
    split
    next reached =>
      by_contra other
      exact h (Bool.and_eq_true_iff.mpr ⟨by simpa using other, decide_eq_true reached⟩)
    · rfl

/-! ## A failure that is final -/

section
variable {i : Nat} {c : Current} {x : Failure} {s : State}

theorem endFailed_final (hi : i < 4) (final : FailsForGood c (segAt s i).queue) :
    endFailed i c x s = returnToIdle i (tellFailed i c x (failureCounted i c x s)) := by
  rw [endFailed_eq, handFailure_of_final x]
  rw [segAt_failureCounted i c x s hi]
  exact final

theorem tellFailed_feedSet {output : Nat} {on : Bool} (kind : c.ex.kind = .feedSet output on)
    (u : State) : tellFailed i c x u = feedSetEnded c.ex.target output on .failed u := by
  simp only [tellFailed, kind]

theorem tellFailed_relay {k tag : Byte} {payload : List Byte} {n : Nat}
    (kind : c.ex.kind = .relay k tag payload) (owner : c.ex.owner = .relaySlot n) (u : State) :
    tellFailed i c x u = relayEnded n (fun slot => failedAnswer slot (failureStatus x)) u := by
  simp only [tellFailed, kind, owner]

/-- R67, R71: an enable that fails for good. -/
theorem endFailed_enable (hi : i < 4) (current : (segAt s i).current = some c)
    (final : FailsForGood c (segAt s i).queue) {output z : Nat}
    (kind : c.ex.kind = .feedSet output true) (law : ZoneListsLaw s)
    (pair : zoneOfPair s c.ex.target output = some z) (state : (zoneAt s z).state = .inrush)
    (waits : (zoneAt s z).acked = false) :
    (zoneAt (endFailed i c x s) z).attempts = (zoneAt s z).attempts + 1 ∧
      (zoneAt (endFailed i c x s) z).acked = false ∧
      (zoneAt (endFailed i c x s) z).inrush = .stopped ∧
      (SegmentLaw s → SwitchedOff (endFailed i c x s) z c.ex.target output) ∧
      ((zoneAt s z).attempts + 1 = (zoneCfg s z).lockout →
        (zoneAt (endFailed i c x s) z).state = .lockout ∧
        inFlagSet (endFailed i c x s).port.flags .zoneLockout = true) ∧
      ((zoneAt s z).attempts + 1 ≠ (zoneCfg s z).lockout → Admitted (endFailed i c x s) z) := by
  obtain ⟨-, entry, out⟩ := zoneOfPair_some pair
  rw [endFailed_final hi final]
  have fails : AttemptFails z s (tellFailed i c x (failureCounted i c x s)) := by
    rw [tellFailed_feedSet kind]
    refine AttemptFails.congr (s' := failureCounted i c x s) ?_ failureCounted_zc failureCounted_tables
    refine enable_fails ?_ ?_ ?_ ?_ (by simp)
    · rw [zoneOfPair_congr failureCounted_tables]; exact pair
    · rw [zoneAt_congr failureCounted_zc]; exact state
    · rw [zoneAt_congr failureCounted_zc]; exact waits
    · rw [failureCounted_zc]; exact not_queued_of_state law (by simp [state])
  have told := fails.returnToIdle hi
  rw [entry, out] at told
  obtain ⟨attempts, acked, inrush, off, locked, admitted⟩ := told
  exact ⟨attempts, acked, inrush,
    fun segments => off ((lawBut_failureCounted x segments current).tellFailed c x).held, locked,
    admitted⟩

/-- R68: a disable that fails for good. -/
theorem endFailed_disable (hi : i < 4) (final : FailsForGood c (segAt s i).queue) {output z : Nat}
    (kind : c.ex.kind = .feedSet output false) (law : ZoneListsLaw s)
    (pair : zoneOfPair s c.ex.target output = some z) :
    (runs s z = true → zoneAt (endFailed i c x s) z = zoneAt s z) ∧
      (runs s z = false →
        zoneAt (endFailed i c x s) z = { zoneAt s z with disablePending := true } ∧
        ((zoneAt s z).disablePending = false →
          inFlagSet (endFailed i c x s).port.flags .feedPending = true)) := by
  obtain ⟨hz, -, -⟩ := zoneOfPair_some pair
  have zc : (failureCounted i c x s).zc = s.zc := failureCounted_zc
  have same : runs (failureCounted i c x s) z = runs s z := by simp [runs, zoneAt_congr zc]
  rw [endFailed_final hi final, tellFailed_feedSet kind]
  have counted : zoneOfPair (failureCounted i c x s) c.ex.target output = some z := by
    rw [zoneOfPair_congr failureCounted_tables]; exact pair
  obtain ⟨running, resting⟩ := disable_fails (report := .failed) counted (by simp)
  refine ⟨fun runs => ?_, fun rests => ?_⟩
  · rw [running (same.trans runs)]
    have unqueued := not_queued_of_runs law runs
    rw [← zc] at unqueued
    exact ((grants_returnToIdle hi _).unqueued (z := z) unqueued).trans (zoneAt_congr zc z)
  · obtain ⟨outcome, eq⟩ := resting (same.trans rests)
    rw [eq, ← zoneAt_congr zc]
    exact owed_returnToIdle hi hz outcome _

/-- R153: what stands of a relay whose exchange fails for good is what its slot's end leaves. -/
theorem endFailed_relay (hi : i < 4) (final : FailsForGood c (segAt s i).queue) {k tag : Byte}
    {payload : List Byte} {n : Nat} (kind : c.ex.kind = .relay k tag payload)
    (owner : c.ex.owner = .relaySlot n) : SamePlaces
      (relayEnded n (fun slot => failedAnswer slot (failureStatus x)) (failureCounted i c x s))
      (endFailed i c x s) := by
  rw [endFailed_final hi final, tellFailed_relay kind owner]
  exact places_returnToIdle hi _

theorem tellFailed_nodes (kind : c.ex.kind ≠ .poll) (u : State) :
    (tellFailed i c x u).nodes = u.nodes := by
  unfold tellFailed
  split
  next poll => exact absurd poll kind
  · exact touches_of_erase (bs := [.port, .segs, .cap, .zc, .mail]) (by simp) .nodes (by decide)
  · split
    · exact touches_of_erase (bs := [.port]) (by simp) .nodes (by decide)
    · rfl
    · rfl

theorem endFailed_nodes (hi : i < 4) (final : FailsForGood c (segAt s i).queue)
    (kind : c.ex.kind ≠ .poll) : (endFailed i c x s).nodes = s.nodes := by
  rw [endFailed_final hi final, returnToIdle_nodes, tellFailed_nodes kind]
  exact failureCounted_nodes

/-- R29: a POLL that fails counts a miss. -/
theorem endFailed_poll (hi : i < 4) (kind : c.ex.kind = .poll) (cls : c.ex.cls = .poll)
    (fresh : c.stale = false) (target : c.ex.target < 48)
    (inUse : (nodeCfg s c.ex.target).inUse = true)
    (enabled : (nodeAt s c.ex.target).state ≠ .disabled) :
    (nodeAt (endFailed i c x s) c.ex.target).misses = min 15 ((nodeAt s c.ex.target).misses + 1) ∧
      (nodeAt (endFailed i c x s) c.ex.target).state =
        if lostThreshold s ≤ (nodeAt (endFailed i c x s) c.ex.target).misses then .lost
        else (nodeAt s c.ex.target).state := by
  have nodes : (tellFailed i c x (failureCounted i c x s)).nodes =
      (countMiss c.ex.target (failureCounted i c x s)).nodes := by
    have told : tellFailed i c x (failureCounted i c x s) =
        pollEnded i c (countMiss c.ex.target (failureCounted i c x s)) := by
      simp [tellFailed, kind, fresh]
    rw [told]
    exact touches_of_erase (bs := [.segs, .mail]) (by simp) .nodes (by decide)
  have node : nodeAt (endFailed i c x s) c.ex.target =
      nodeAt (countMiss c.ex.target (failureCounted i c x s)) c.ex.target := by
    rw [endFailed_final hi (.inl cls)]
    exact nodeAt_congr ((returnToIdle_nodes i _).trans nodes) _
  have before := nodeAt_congr (failureCounted_nodes (i := i) (c := c) (x := x) (s := s)) c.ex.target
  have config : nodeCfg (failureCounted i c x s) c.ex.target = nodeCfg s c.ex.target := by
    simp [nodeCfg, failureCounted_tables]
  have threshold : lostThreshold (failureCounted i c x s) = lostThreshold s := by
    simp [lostThreshold, setting, failureCounted_tables]
  have ⟨misses, state⟩ := countMiss_node (s := failureCounted i c x s) target (by rw [config]; exact inUse)
    (by rw [before]; exact enabled)
  rw [before] at misses state
  rw [threshold] at state
  rw [node]
  exact ⟨misses, by rw [state, misses]⟩

end

/-! ## The commands that fail an exchange -/

/-- R8, R9: the event that fails the exchange on the wire, and its outcome. -/
theorem exec_fails {i : Fin 4} {s : State} {c : Current} {command : Instr} {outcome : Failure}
    (current : (segAt s i).current = some c)
    (event : (∃ index, command = .readbackMismatch i index ∧ c.phase = .sending ∧
        outcome = .readback index) ∨
      (command = .replyWindowExpiry i ∧ c.phase = .waiting ∧ c.timer ≠ .stopped ∧
        outcome = .noReply) ∨
      (command = .replySilence i ∧ c.phase = .receiving ∧ outcome = .badReply) ∨
      (∃ bytes, command = .replyComplete i bytes ∧ c.phase = .receiving ∧
        goodReply c bytes = none ∧ outcome = .badReply)) :
    ∃ now, exec command s = .next (endFailed i c outcome { s with now := now }) := by
  rcases event with ⟨index, rfl, phase, rfl⟩ | ⟨rfl, phase, timer, rfl⟩ | ⟨rfl, phase, rfl⟩ |
    ⟨bytes, rfl, phase, bad, rfl⟩
  · exact ⟨s.now, exec_readbackMismatch index current phase⟩
  · cases running : c.timer with
    | stopped => exact absurd running timer
    | running d =>
      exact ⟨max s.now d, (exec_replyWindowExpiry_of_running current running).trans
        (congrArg _ (windowPassed_of_waiting d current phase))⟩
  · exact ⟨s.now, exec_replySilence current phase⟩
  · exact ⟨s.now, exec_replyComplete_of_bad current phase bad⟩

/-- R20: a counter rises by one, and stays at its bound. -/
theorem sat16_eq {n : Nat} (h : n ≤ 65535) : sat16 n = n + min 1 (65535 - n) := by
  unfold sat16
  omega

theorem touches_endFailed (i : Nat) (c : Current) (x : Failure) (now : Nat) (s : State) :
    Touches (.now :: inspectBlocks) s (endFailed i c x { s with now := now }) := by
  refine touches_of_erase ?_
  rw [erase_endFailed]
  · simp [erase]
  all_goals simp [inspectBlocks]

/-- Settles O57: a failure is counted, and then either the exchange stands on its segment again and the
owner's blocks are as they were, or the owner is told: a zone's attempt fails or its disable is owed, a
relay is answered, an entry counts a miss. -/
theorem failedExchangeIsRetriedOrMissed : Obligations.FailedExchangeIsRetriedOrMissed := by
  unfold Obligations.FailedExchangeIsRetriedOrMissed
  intro i s c command outcome current readback noReply badReply event q full final status
  obtain ⟨now, exec⟩ := exec_fails current event
  have hi := i.isLt
  obtain ⟨r, counters⟩ : ∃ r, (segAt (endFailed i c outcome { s with now := now }) i).counters =
      { countFailure outcome (segAt s i).counters with retries := r } := counters_endFailed hi
  have answers : status = failureStatus outcome := by cases outcome <;> rfl
  have before : SamePlaces s (failureCounted i c outcome { s with now := now }) :=
    .trans (t := { s with now := now }) (.of_port rfl) failureCounted_places
  refine ⟨_, exec, touches_endFailed i c outcome now s, ?_, ?_, ?_, ?_, ?_, ?_,
    fun final => ⟨?_, ?_, ?_, ?_, ?_⟩, ?_⟩
  · rw [counters]; cases outcome <;> rfl
  · rw [counters]
    cases outcome with
    | readback index => exact sat16_eq readback
    | noReply => rfl
    | badReply => rfl
  · rw [counters]
    cases outcome with
    | readback index => rfl
    | noReply => exact sat16_eq noReply
    | badReply => rfl
  · rw [counters]
    cases outcome with
    | readback index => rfl
    | noReply => rfl
    | badReply => exact sat16_eq badReply
  · rintro ⟨index, rfl⟩
    exact flag_segFault hi index
  · exact fun cls fresh room free =>
      endFailed_retried (s := { s with now := now }) hi cls fresh room free
  · exact retries_of_final (s := { s with now := now }) hi final
  · exact fun output z kind law pair =>
      endFailed_enable (s := { s with now := now }) hi current final kind law pair
  · exact fun output z kind law pair =>
      endFailed_disable (s := { s with now := now }) hi final kind law pair
  · intro kind tag payload n slot relay owner hn here
    have after := endFailed_relay (x := outcome) (s := { s with now := now }) hi final relay owner
    rw [← before.slotAt] at here
    rw [answers]
    refine ⟨fun waiting => ?_, fun expired => ?_, fun held pending answering => ?_⟩
    · exact (relayEnded_of_waiting hn _ here waiting).congr before after
    · obtain ⟨freed, responses, -⟩ := relayEnded_of_expired hn
        (fun slot => failedAnswer slot (failureStatus outcome)) here expired
      exact ⟨(after.slotAt n).trans freed, after.responses.trans (responses.trans before.responses)⟩
    · obtain ⟨held, responses, -⟩ := relayEnded_of_answering hn
        (fun slot => failedAnswer slot (failureStatus outcome)) here answering
      exact ⟨(after.slotAt n).trans held, after.responses.trans (responses.trans before.responses)⟩
  · exact endFailed_nodes (s := { s with now := now }) hi final
  · exact fun kind cls fresh target inUse enabled =>
      endFailed_poll (s := { s with now := now }) hi kind cls fresh target inUse enabled

end Sys2Proof.Machine


namespace Sys2Proof.Machine

/-! ## The items of a reply (R27) -/

theorem code_lt_of_kindHasItem {k : NodeKind} {code : Nat} (h : kindHasItem k code = true) :
    code < 24 := by
  cases k <;> simp [kindHasItem] at h <;> omega

theorem mem_of_mem_lastOfEach {x : Item} : ∀ {l : List Item}, x ∈ lastOfEach l → x ∈ l
  | [], h => h
  | y :: rest, h => by
    unfold lastOfEach at h
    split at h
    · exact .tail _ (mem_of_mem_lastOfEach h)
    · rcases List.mem_cons.mp h with rfl | h
      · exact .head _
      · exact .tail _ (mem_of_mem_lastOfEach h)

theorem pairwise_lastOfEach : ∀ l : List Item, (lastOfEach l).Pairwise (fun x y => x.code ≠ y.code)
  | [] => .nil
  | x :: rest => by
    unfold lastOfEach
    split
    · exact pairwise_lastOfEach rest
    next last =>
      refine List.pairwise_cons.mpr ⟨fun y hy same => last ?_, pairwise_lastOfEach rest⟩
      exact List.any_eq_true.mpr ⟨y, mem_of_mem_lastOfEach hy, by simp [same]⟩

theorem code_lt_of_mem_itemsTaken {k : NodeKind} {payload : List Byte} {x : Item}
    (h : x ∈ itemsTaken k payload) : x.code < 24 :=
  code_lt_of_kindHasItem (List.mem_filter.mp (mem_of_mem_lastOfEach h)).2

/-! ## What the inspection of a reply does to the records (R26, R27, R34 to R37) -/

/-- The records of the other entries are as they were. -/
def OthersKeep (k : Nat) (s t : State) : Prop := ∀ j, j ≠ k → nodeAt t j = nodeAt s j

theorem OthersKeep.trans {k : Nat} {s t u : State} (h : OthersKeep k s t) (h' : OthersKeep k t u) :
    OthersKeep k s u :=
  fun j hj => (h' j hj).trans (h j hj)

theorem othersKeep_of_nodes {k : Nat} {s t : State} (h : t.nodes = s.nodes) : OthersKeep k s t :=
  fun j _ => nodeAt_congr h j

theorem othersKeep_modNode (k : Nat) (f : NodeRun → NodeRun) (s : State) :
    OthersKeep k s (modNode k f s) := by
  intro j hj
  rw [nodeAt_modNode, if_neg fun h => hj h.1.symm]

theorem othersKeep_foldl {α : Type} {k : Nat} {f : State → α → State}
    (hf : ∀ s x, OthersKeep k s (f s x)) (l : List α) (s : State) : OthersKeep k s (l.foldl f s) := by
  induction l generalizing s with
  | nil => exact fun _ _ => rfl
  | cons x rest ih => exact (hf s x).trans (ih _)

theorem raiseFlag_nodes (f : EventFlag) (p : List Byte) (s : State) :
    (raiseFlag f p s).nodes = s.nodes :=
  touches_of_erase (bs := [.port]) (by simp) .nodes (by decide)

/-- R34 to R36: a check changes the slot of its item; LIMIT may be raised. -/
theorem checkItem_nodes (k : Nat) (s : State) (x : Item) : (checkItem k s x).nodes =
    (modNode k (putSlot x.code (checkSample (nth s.tables.limits x.code)
      (nth (nodeAt s k).slots x.code) x.value).1) s).nodes := by
  unfold checkItem
  dsimp only
  split
  · rfl
  · exact raiseFlag_nodes _ _ _

/-- R37: a report that is made sets the reported values of its items. -/
theorem makeReport_nodes (k : Nat) (taken : List Item) (s : State) : ∃ items : List Item,
    (makeReport k taken s).nodes = (items.foldl (markReported k) s).nodes := by
  have folded (items : List Item) {s t : State} (h : t.nodes = s.nodes) :
      (items.foldl (markReported k) t).nodes = (items.foldl (markReported k) s).nodes := by
    induction items generalizing s t with
    | nil => exact h
    | cons x rest ih => exact ih (by simp [markReported, nodeAt, h])
  unfold makeReport
  split
  · exact ⟨[], rfl⟩
  next items _ =>
    have queued : (queueReport (reportFrame s k items) s).1.nodes = s.nodes :=
      touches_of_erase (bs := [.port]) (by simp) .nodes (by decide)
    split <;> rename_i u hu <;> rw [hu] at queued
    · exact ⟨items, folded items queued⟩
    · exact ⟨[], queued⟩

theorem othersKeep_makeReport (k : Nat) (taken : List Item) (s : State) :
    OthersKeep k s (makeReport k taken s) := by
  obtain ⟨items, nodes⟩ := makeReport_nodes k taken s
  exact (othersKeep_foldl (fun s x => othersKeep_modNode k _ s) items s).trans (othersKeep_of_nodes nodes)

/-- The stages of an applied reply (R26): the items are stored and checked, and the state is settled. -/
def settled (k : Nat) (kind : Byte) (payload : List Byte) (s : State) : State :=
  let before := nodeAt s k
  let base : NodeState :=
    if before.state == .unseen || before.state == .lost then .active else before.state
  let telemetry := kind == telemetryByte
  let taken := if telemetry then itemsTaken (nodeCfg s k).kind payload else []
  settleNode k telemetry base (taken.foldl (checkItem k)
    (taken.foldl (storeItem k) (modNode k (fun r => { r with misses := 0 }) s)))

/-- R26, R39 to R44: the news of an applied reply are told, and its change of state is raised. -/
def announced (k : Nat) (kind : Byte) (payload : List Byte) (s : State) : State :=
  let before := nodeAt s k
  let taken := if kind == telemetryByte then itemsTaken (nodeCfg s k).kind payload else []
  let u := replyNews k before taken (settled k kind payload s)
  if (nodeAt u k).state == before.state then u
  else raiseNodeChange k (some before.state) (some (nodeAt u k).state) .reply u

/-- R26: the reply is applied. -/
def Applies (k : Nat) (stale : Bool) (s : State) : Prop :=
  stale = false ∧ (nodeCfg s k).inUse = true ∧ (nodeAt s k).state ≠ .disabled

theorem applies_or_unapplied (k : Nat) (stale : Bool) (s : State) : Applies k stale s ∨
    (stale = true ∨ (nodeCfg s k).inUse = false ∨ (nodeAt s k).state = .disabled) := by
  unfold Applies
  cases stale <;> cases (nodeCfg s k).inUse <;> by_cases h : (nodeAt s k).state = .disabled <;> simp [h]

theorem inspectReply_of_applies {k : Nat} {kind : Byte} {payload : List Byte} {poll stale : Bool}
    {s : State} (h : Applies k stale s) : inspectReply k kind payload poll stale s =
      if poll && kind == telemetryByte then
        makeReport k (if kind == telemetryByte then itemsTaken (nodeCfg s k).kind payload else [])
          (announced k kind payload s)
      else announced k kind payload s := by
  obtain ⟨fresh, inUse, enabled⟩ := h
  unfold inspectReply
  dsimp only
  rw [if_neg (by simp [fresh, inUse, enabled])]
  rfl

theorem replyNews_nodes (k : Nat) (before : NodeRun) (taken : List Item) (s : State) :
    (replyNews k before taken s).nodes = s.nodes :=
  touches_of_erase (bs := [.port, .segs, .cap, .zc, .ride, .leak, .mail]) (by simp) .nodes (by decide)

theorem announced_nodes (k : Nat) (kind : Byte) (payload : List Byte) (s : State) :
    (announced k kind payload s).nodes = (settled k kind payload s).nodes := by
  unfold announced
  dsimp only
  generalize (if kind == telemetryByte then itemsTaken (nodeCfg s k).kind payload else []) = taken
  split
  · exact replyNews_nodes _ _ _ _
  · exact (raiseFlag_nodes _ _ _).trans (replyNews_nodes _ _ _ _)

theorem othersKeep_settled (k : Nat) (kind : Byte) (payload : List Byte) (s : State) :
    OthersKeep k s (settled k kind payload s) := by
  unfold settled settleNode
  dsimp only
  have check (s : State) (x : Item) : OthersKeep k s (checkItem k s x) :=
    (othersKeep_modNode k _ s).trans (othersKeep_of_nodes (checkItem_nodes k s x))
  have store (s : State) (x : Item) : OthersKeep k s (storeItem k s x) := othersKeep_modNode k _ s
  exact (((othersKeep_modNode k _ s).trans (othersKeep_foldl store _ _)).trans
    (othersKeep_foldl check _ _)).trans (othersKeep_modNode k _ _)

/-- R26: a reply changes the record of its own entry, and no other. -/
theorem othersKeep_inspectReply (k : Nat) (kind : Byte) (payload : List Byte) (poll stale : Bool)
    (s : State) : OthersKeep k s (inspectReply k kind payload poll stale s) := by
  rcases applies_or_unapplied k stale s with applies | unapplied
  · rw [inspectReply_of_applies applies]
    have said := (othersKeep_settled k kind payload s).trans
      (othersKeep_of_nodes (announced_nodes k kind payload s))
    split
    · exact said.trans (othersKeep_makeReport _ _ _)
    · exact said
  · rw [inspectReply_of_unapplied unapplied]
    exact fun _ _ => rfl

/-! ### The samples of a record -/

/-- The records hold the same samples: what a report marks, and what the state is, may differ. -/
def SameSamples (r r' : NodeRun) : Prop := ∀ code < 24,
  (nth r'.slots code).present = (nth r.slots code).present ∧
  (nth r'.slots code).value = (nth r.slots code).value ∧
  (nth r'.slots code).age = (nth r.slots code).age ∧
  (nth r'.slots code).violation = (nth r.slots code).violation

theorem SameSamples.trans {r r' r'' : NodeRun} (h : SameSamples r r') (h' : SameSamples r' r'') :
    SameSamples r r'' := by
  intro code hc
  obtain ⟨present, value, age, violation⟩ := h code hc
  obtain ⟨present', value', age', violation'⟩ := h' code hc
  exact ⟨present'.trans present, value'.trans value, age'.trans age, violation'.trans violation⟩

theorem slot_putSlot (code : Nat) (slot : Slot) (r : NodeRun) {j : Nat} (hj : j < 24) :
    nth (putSlot code slot r).slots j = if code = j then slot else nth r.slots j := by
  show nth (put r.slots code slot) j = _
  split
  next h => subst h; exact nth_put_self _ _ _ hj
  next h => exact nth_put_of_ne _ _ h

theorem sameSamples_markReported (k : Nat) (s : State) (x : Item) :
    SameSamples (nodeAt s k) (nodeAt (markReported k s x) k) := by
  intro code hc
  unfold markReported
  rw [nodeAt_modNode]
  split
  · rw [slot_putSlot _ _ _ hc]
    split
    next h => subst h; exact ⟨rfl, rfl, rfl, rfl⟩
    · exact ⟨rfl, rfl, rfl, rfl⟩
  · exact ⟨rfl, rfl, rfl, rfl⟩

theorem markReported_keeps (k : Nat) (s : State) (x : Item) :
    (nodeAt (markReported k s x) k).state = (nodeAt s k).state ∧
      (nodeAt (markReported k s x) k).misses = (nodeAt s k).misses := by
  unfold markReported
  rw [nodeAt_modNode]
  split <;> exact ⟨rfl, rfl⟩

/-- R37: a report changes no sample, nor the state or the misses. -/
theorem makeReport_node (k : Nat) (taken : List Item) (s : State) :
    SameSamples (nodeAt s k) (nodeAt (makeReport k taken s) k) ∧
      (nodeAt (makeReport k taken s) k).state = (nodeAt s k).state ∧
      (nodeAt (makeReport k taken s) k).misses = (nodeAt s k).misses := by
  obtain ⟨items, nodes⟩ := makeReport_nodes k taken s
  rw [nodeAt_congr nodes]
  clear nodes
  induction items generalizing s with
  | nil => exact ⟨fun _ _ => ⟨rfl, rfl, rfl, rfl⟩, rfl, rfl⟩
  | cons x rest ih =>
    obtain ⟨samples, state, misses⟩ := ih (markReported k s x)
    obtain ⟨state', misses'⟩ := markReported_keeps k s x
    exact ⟨(sameSamples_markReported k s x).trans samples, state.trans state', misses.trans misses'⟩

theorem degradeCondition_congr {s t : State} {k : Nat} (tables : t.tables = s.tables)
    (samples : SameSamples (nodeAt s k) (nodeAt t k)) : degradeCondition t k = degradeCondition s k := by
  unfold degradeCondition
  dsimp only
  have config : nodeCfg t k = nodeCfg s k := by simp [nodeCfg, tables]
  obtain ⟨present, value, -, -⟩ := samples 5 (by decide)
  have selfTest : reading (nodeAt t k) 5 0 = reading (nodeAt s k) 5 0 := by
    simp only [reading, present, value]
  rw [selfTest, config, tables]
  congr 1
  rw [Bool.eq_iff_iff, List.any_eq_true, List.any_eq_true]
  refine exists_congr fun code => and_congr_right fun hc => ?_
  obtain ⟨-, -, -, violation⟩ := samples code (List.mem_range.mp hc)
  rw [violation]

/-! ### The samples stored -/

/-- R27: the slot holds the sample of the item. -/
def HoldsSample (k : Nat) (x : Item) (s : State) : Prop :=
  (nth (nodeAt s k).slots x.code).present = true ∧
    (nth (nodeAt s k).slots x.code).value = x.value ∧
    (nth (nodeAt s k).slots x.code).age = 0

theorem nodeAt_storeItem {k : Nat} (hk : k < 48) (s : State) (x : Item) : nodeAt (storeItem k s x) k =
    putSlot x.code { nth (nodeAt s k).slots x.code with present := true, value := x.value, age := 0 }
      (nodeAt s k) := by
  unfold storeItem
  rw [nodeAt_modNode, if_pos ⟨rfl, hk⟩]

theorem holdsSample_storeItem {k : Nat} (hk : k < 48) (s : State) {x : Item} (hx : x.code < 24) :
    HoldsSample k x (storeItem k s x) := by
  unfold HoldsSample
  rw [nodeAt_storeItem hk, slot_putSlot _ _ _ hx, if_pos rfl]
  exact ⟨rfl, rfl, rfl⟩

theorem HoldsSample.storeItem {k : Nat} {x y : Item} {s : State} (h : HoldsSample k x s) (hk : k < 48)
    (hx : x.code < 24) (other : y.code ≠ x.code) : HoldsSample k x (storeItem k s y) := by
  unfold HoldsSample
  rw [nodeAt_storeItem hk, slot_putSlot _ _ _ hx, if_neg other]
  exact h

theorem holdsSample_storeItems {k : Nat} (hk : k < 48) {l : List Item} (codes : ∀ x ∈ l, x.code < 24)
    (distinct : l.Pairwise fun x y => x.code ≠ y.code) (s : State) :
    ∀ x ∈ l, HoldsSample k x (l.foldl (storeItem k) s) := by
  have keep (l : List Item) {x : Item} (hx : x.code < 24) (others : ∀ y ∈ l, x.code ≠ y.code)
      {s : State} (h : HoldsSample k x s) : HoldsSample k x (l.foldl (storeItem k) s) := by
    induction l generalizing s with
    | nil => exact h
    | cons y rest ih =>
      exact ih (fun z hz => others z (.tail _ hz)) (h.storeItem hk hx (others y (.head _)).symm)
  induction l generalizing s with
  | nil => simp
  | cons y rest ih =>
    obtain ⟨first, distinct⟩ := List.pairwise_cons.mp distinct
    intro x hx
    rcases List.mem_cons.mp hx with rfl | hx
    · exact keep rest (codes x (.head _)) first (holdsSample_storeItem hk s (codes x (.head _)))
    · exact ih (fun z hz => codes z (.tail _ hz)) distinct _ x hx

theorem checkSample_keeps (c : LimitCfg) (slot : Slot) (v : Nat) :
    (checkSample c slot v).1.present = slot.present ∧ (checkSample c slot v).1.value = slot.value ∧
      (checkSample c slot v).1.age = slot.age := by
  simp only [checkSample]
  repeat' split
  all_goals exact ⟨rfl, rfl, rfl⟩

/-- R34: the check of an item keeps every sample. -/
theorem HoldsSample.checkItem {k : Nat} {x : Item} {s : State} (h : HoldsSample k x s)
    (hx : x.code < 24) (y : Item) : HoldsSample k x (checkItem k s y) := by
  unfold HoldsSample
  rw [nodeAt_congr (checkItem_nodes k s y), nodeAt_modNode]
  split
  · rw [slot_putSlot _ _ _ hx]
    split
    next same =>
      rw [same]
      obtain ⟨present, value, age⟩ := checkSample_keeps (nth s.tables.limits x.code)
        (nth (nodeAt s k).slots x.code) y.value
      rw [present, value, age]
      exact h
    · exact h
  · exact h

theorem misses_storeItem (k : Nat) (s : State) (x : Item) :
    (nodeAt (storeItem k s x) k).misses = (nodeAt s k).misses := by
  unfold storeItem
  rw [nodeAt_modNode]
  split <;> rfl

theorem misses_checkItem (k : Nat) (s : State) (x : Item) :
    (nodeAt (checkItem k s x) k).misses = (nodeAt s k).misses := by
  rw [nodeAt_congr (checkItem_nodes k s x), nodeAt_modNode]
  split <;> rfl

theorem misses_foldl {k : Nat} {f : State → Item → State}
    (hf : ∀ s x, (nodeAt (f s x) k).misses = (nodeAt s k).misses) (l : List Item) (s : State) :
    (nodeAt (l.foldl f s) k).misses = (nodeAt s k).misses := by
  induction l generalizing s with
  | nil => rfl
  | cons x rest ih => exact (ih _).trans (hf s x)

theorem nodeAt_settleNode {k : Nat} (hk : k < 48) (base : NodeState) (s : State) :
    nodeAt (settleNode k true base s) k =
      { nodeAt s k with state := if degradeCondition s k then .degraded else .active } := by
  unfold settleNode
  rw [nodeAt_modNode, if_pos ⟨rfl, hk⟩]
  rfl

/-- R30: the settling of the state leaves the degrade condition as it was. -/
theorem degradeCondition_settleNode {k : Nat} (hk : k < 48) (base : NodeState) (s : State) :
    degradeCondition (settleNode k true base s) k = degradeCondition s k := by
  refine degradeCondition_congr rfl ?_
  rw [nodeAt_settleNode hk]
  exact fun _ _ => ⟨rfl, rfl, rfl, rfl⟩

/-- R26, R27: the record that a TELEMETRY settles. -/
theorem settled_telemetry {k : Nat} (hk : k < 48) (payload : List Byte) (s : State) :
    (nodeAt (settled k telemetryByte payload s) k).misses = 0 ∧
      (nodeAt (settled k telemetryByte payload s) k).state =
        (if degradeCondition (settled k telemetryByte payload s) k then .degraded else .active) ∧
      ∀ x ∈ itemsTaken (nodeCfg s k).kind payload,
        HoldsSample k x (settled k telemetryByte payload s) := by
  unfold settled
  simp only [beq_self_eq_true, if_true]
  have taken (x : Item) (hx : x ∈ itemsTaken (nodeCfg s k).kind payload) : x.code < 24 :=
    code_lt_of_mem_itemsTaken hx
  have stored := holdsSample_storeItems hk taken (pairwise_lastOfEach _)
    (modNode k (fun r => { r with misses := 0 }) s)
  have cleared : (nodeAt ((itemsTaken (nodeCfg s k).kind payload).foldl (storeItem k)
      (modNode k (fun r => { r with misses := 0 }) s)) k).misses = 0 := by
    rw [misses_foldl (misses_storeItem k), nodeAt_modNode, if_pos ⟨rfl, hk⟩]
  generalize (itemsTaken (nodeCfg s k).kind payload).foldl (storeItem k) _ = u at stored cleared
  have checked (l : List Item) {x : Item} (hx : x.code < 24) {v : State} (h : HoldsSample k x v) :
      HoldsSample k x (l.foldl (checkItem k) v) := by
    induction l generalizing v with
    | nil => exact h
    | cons y rest ih => exact ih (h.checkItem hx y)
  have counted := (misses_foldl (misses_checkItem k) (itemsTaken (nodeCfg s k).kind payload) u).trans
    cleared
  have held (x : Item) (hx : x ∈ itemsTaken (nodeCfg s k).kind payload) :=
    checked (itemsTaken (nodeCfg s k).kind payload) (taken x hx) (stored x hx)
  generalize (itemsTaken (nodeCfg s k).kind payload).foldl (checkItem k) u = v at counted held
  rw [degradeCondition_settleNode hk]
  refine ⟨?_, by rw [nodeAt_settleNode hk], fun x hx => ?_⟩
  · rw [nodeAt_settleNode hk]; exact counted
  · unfold HoldsSample
    rw [nodeAt_settleNode hk]
    exact held x hx

end Sys2Proof.Machine


namespace Sys2Proof.Machine

/-! ## What a good reply leaves (R9, R10, R26) -/

theorem expectsReply_of_good {c : Current} {bytes : List Byte} {f : Frame}
    (good : goodReply c bytes = some f) : expectsReply c.ex.kind f.kind = true := by
  unfold goodReply at good
  split at good
  · cases good
  · split at good
    next h =>
      obtain rfl := Option.some.inj good
      exact (Bool.and_eq_true_iff.mp h).2
    · cases good

/-- R39 to R42: the news of a reply that carries no item reach the zones by grants alone. -/
theorem grants_replyNews (k : Nat) (before : NodeRun) (s : State) :
    Grants s (replyNews k before [] s) := by
  have rectifier (x : Option NodeState) : Grants s (tellConsumers k .rectifier x s) :=
    .of_erase (bs := [.port, .cap, .ride, .leak, .mail]) (by simp [tellConsumers]) (by decide)
  have battery (x : Option NodeState) : Grants s (tellConsumers k .battery x s) :=
    .of_erase (bs := [.port, .ride, .mail]) (by simp [tellConsumers]) (by decide)
  have feed (x : Option NodeState) : Grants s (tellConsumers k .feed x s) := (Grants.refl s).runArbiter
  unfold replyNews
  dsimp only
  split
  · exact .ite (rectifier _) (.refl s)
  · exact .ite (battery _) (.refl s)
  · exact .ite (feed _) (.refl s)
  · exact .of_erase (bs := [.port, .leak, .mail]) (by simp) (by decide)

/-- R26: the inspection of a reply that is no TELEMETRY reaches the zones by grants alone. -/
theorem grants_inspectReply {k : Nat} {kind : Byte} (payload : List Byte) (poll stale : Bool) (s : State)
    (other : (kind == telemetryByte) = false) :
    Grants s (inspectReply k kind payload poll stale s) := by
  rcases applies_or_unapplied k stale s with applies | unapplied
  · rw [inspectReply_of_applies applies, other, Bool.and_false, if_neg Bool.false_ne_true]
    have settle : Grants s (settled k kind payload s) := by
      unfold settled
      rw [other]
      exact .of_same rfl rfl rfl
    have news := settle.trans (grants_replyNews k (nodeAt s k) (settled k kind payload s))
    unfold announced
    rw [other]
    exact .ite news (news.raiseFlag _ _)
  · rw [inspectReply_of_unapplied unapplied]
    exact .refl s

section
variable {i : Nat} {c : Current} {f : Frame} {s : State}

theorem works_goodInspected : Works (goodCounted i s) (goodInspected i c f s) :=
  (Works.refl _).inspectReply _ _ _ _ _

/-- R10: the record of the entry is as the inspection leaves it, whatever its owner does. -/
theorem tellGood_nodes (u : State) : (tellGood i c f u).nodes = u.nodes := by
  unfold tellGood
  split
  · exact touches_of_erase (bs := [.segs, .mail]) (by simp) .nodes (by decide)
  · exact touches_of_erase (bs := [.port, .segs, .cap, .zc, .mail]) (by simp) .nodes (by decide)
  · split
    · exact touches_of_erase (bs := [.port]) (by simp) .nodes (by decide)
    · rfl
    · rfl

theorem endGood_nodes : (endGood i c f s).nodes = (goodInspected i c f s).nodes := by
  rw [endGood_eq, returnToIdle_nodes, tellGood_nodes]

theorem counters_endGood (hi : i < 4) : (segAt (endGood i c f s) i).counters =
    { (segAt s i).counters with good := min 65535 ((segAt s i).counters.good + 1) } := by
  have inspected := ((works_goodInspected (i := i) (c := c) (f := f) (s := s)).segs i).marks.counters
  rw [endGood_eq, (returnToIdle_marks hi _).counters, (handsOn_tellGood hi c f _).counters, inspected,
    segAt_goodCounted i s hi]
  rfl

theorem endGood_others {k : Nat} (other : k ≠ c.ex.target) :
    nodeAt (endGood i c f s) k = nodeAt s k :=
  (nodeAt_congr endGood_nodes k).trans (othersKeep_inspectReply _ _ _ _ _ (goodCounted i s) k other)

theorem endGood_unapplied (h : c.stale = true ∨ (nodeCfg s c.ex.target).inUse = false ∨
    (nodeAt s c.ex.target).state = .disabled) : (endGood i c f s).nodes = s.nodes := by
  rw [endGood_nodes, goodInspected, inspectReply_of_unapplied (s := goodCounted i s) h]
  rfl

/-! ### A POLL -/

theorem works_settled (k : Nat) (kind : Byte) (payload : List Byte) (s : State) :
    Works s (settled k kind payload s) :=
  ((((Works.refl s).modNode k _).foldl (fun t x => (Works.refl t).storeItem k x) _).foldl
    (fun t x => (Works.refl t).checkItem k x) _).settleNode k _ _

/-- R44: NODE_CHANGE is raised for a change of state. -/
theorem flag_announced {k : Nat} {kind : Byte} {payload : List Byte}
    (changed : (nodeAt (announced k kind payload s) k).state ≠ (nodeAt s k).state) :
    inFlagSet (announced k kind payload s).port.flags .nodeChange = true := by
  revert changed
  unfold announced
  dsimp only
  generalize (if kind == telemetryByte then itemsTaken (nodeCfg s k).kind payload else []) = taken
  split
  next same => exact fun changed => absurd (eq_of_beq same) changed
  · exact fun _ => flag_raiseFlag _ _ _

/-- R26, R27, R44: what the TELEMETRY of a POLL leaves in the record of its entry. -/
theorem inspectReply_telemetry {k : Nat} (hk : k < 48) (payload : List Byte)
    (applies : Applies k false s) :
    let t := inspectReply k telemetryByte payload true false s
    (nodeAt t k).misses = 0 ∧
      (nodeAt t k).state = (if degradeCondition t k = true then .degraded else .active) ∧
      (∀ x ∈ itemsTaken (nodeCfg s k).kind payload, HoldsSample k x t) ∧
      ((nodeAt t k).state ≠ (nodeAt s k).state → inFlagSet t.port.flags .nodeChange = true) := by
  intro t
  obtain ⟨taken, eq⟩ : ∃ taken, t = makeReport k taken (announced k telemetryByte payload s) :=
    ⟨_, inspectReply_of_applies applies⟩
  obtain ⟨samples, state, misses⟩ := makeReport_node k taken (announced k telemetryByte payload s)
  rw [← eq] at samples state misses
  have works : Works (announced k telemetryByte payload s) t := by
    rw [eq]; exact (Works.refl _).makeReport _ _
  have flag := flag_announced (s := s) (k := k) (kind := telemetryByte) (payload := payload)
  rw [← state] at flag
  have said := nodeAt_congr (announced_nodes k telemetryByte payload s) k
  obtain ⟨cleared, settles, stored⟩ := settled_telemetry hk payload s
  have inspected : t.tables = s.tables := ((Works.refl s).inspectReply _ _ _ _ _).tables
  have tables : t.tables = (settled k telemetryByte payload s).tables :=
    inspected.trans (works_settled k telemetryByte payload s).tables.symm
  rw [said] at samples state misses
  rw [degradeCondition_congr tables samples]
  refine ⟨misses.trans cleared, state.trans settles, fun x hx => ?_, fun changed => ?_⟩
  · obtain ⟨present, value, age, -⟩ := samples x.code (code_lt_of_mem_itemsTaken hx)
    unfold HoldsSample
    rw [present, value, age]
    exact stored x hx
  · exact works.flags _ (flag changed)

theorem endGood_poll (hi : i < 4) (kind : c.ex.kind = .poll) (telemetry : f.kind = telemetryByte)
    (fresh : c.stale = false) (target : c.ex.target < 48)
    (inUse : (nodeCfg s c.ex.target).inUse = true)
    (enabled : (nodeAt s c.ex.target).state ≠ .disabled) :
    (nodeAt (endGood i c f s) c.ex.target).misses = 0 ∧
      (nodeAt (endGood i c f s) c.ex.target).state =
        (if degradeCondition (endGood i c f s) c.ex.target = true then .degraded else .active) ∧
      (∀ x ∈ itemsTaken (nodeCfg s c.ex.target).kind f.payload,
        HoldsSample c.ex.target x (endGood i c f s)) ∧
      nth (segAt (endGood i c f s) i).polled c.ex.target = true ∧
      ((nodeAt (endGood i c f s) c.ex.target).state ≠ (nodeAt s c.ex.target).state →
        inFlagSet (endGood i c f s).port.flags .nodeChange = true) := by
  have inspected : goodInspected i c f s =
      inspectReply c.ex.target telemetryByte f.payload true false (goodCounted i s) := by
    rw [goodInspected, telemetry, fresh, kind]; rfl
  obtain ⟨misses, state, stored, flag⟩ := inspectReply_telemetry (s := goodCounted i s) target f.payload
    ⟨rfl, inUse, enabled⟩
  rw [← inspected] at misses state stored flag
  have node : nodeAt (endGood i c f s) c.ex.target = nodeAt (goodInspected i c f s) c.ex.target :=
    nodeAt_congr endGood_nodes _
  have tables : (endGood i c f s).tables = (goodInspected i c f s).tables := by
    rw [endGood_eq]
    exact (works_returnToIdle hi _).tables.trans (handsOn_tellGood hi c f _).tables
  have degrade : degradeCondition (endGood i c f s) c.ex.target =
      degradeCondition (goodInspected i c f s) c.ex.target :=
    degradeCondition_congr tables (by rw [node]; exact fun _ _ => ⟨rfl, rfl, rfl, rfl⟩)
  rw [node, degrade]
  refine ⟨misses, state, fun x hx => ?_, ?_, fun changed => ?_⟩
  · unfold HoldsSample
    rw [node]
    exact stored x hx
  · have applied : (nodeAt (goodInspected i c f s) c.ex.target).state ≠ .disabled := by
      rw [state]; split <;> simp
    obtain ⟨x, seg⟩ := pollEnded_seg i c (goodInspected i c f s) hi
    have told : tellGood i c f (goodInspected i c f s) = pollEnded i c (goodInspected i c f s) := by
      simp only [tellGood, kind]
    rw [endGood_eq, (returnToIdle_marks hi _).polled, told, seg]
    dsimp only
    rw [if_neg (by simp [fresh, applied])]
    exact nth_put_self _ _ _ target
  · rw [endGood_eq]
    exact (works_returnToIdle hi _).flags _ ((handsOn_tellGood hi c f _).flags _ (flag changed))

/-! ### A FEED_SET -/

/-- R67: an accepted enable starts the inrush window of its zone. -/
theorem enable_accepted {entry output z : Nat} (pair : zoneOfPair s entry output = some z)
    (state : (zoneAt s z).state = .inrush) (waits : (zoneAt s z).acked = false) :
    feedSetEnded entry output true .accepted s = modZone z (fun r =>
      { r with acked := true, inrush := startTimer s (zoneCfg s z).window }) s := by
  simp [feedSetEnded, enableEnded, pair, state, waits]

theorem disable_accepted {entry output z : Nat} (pair : zoneOfPair s entry output = some z) :
    feedSetEnded entry output false .accepted s =
      runArbiter (modZone z (fun r => { r with disablePending := false }) s) := by
  simp [feedSetEnded, disableEnded, pair]

theorem tellGood_feedSet {output : Nat} {on : Bool} (kind : c.ex.kind = .feedSet output on) (u : State) :
    tellGood i c f u = feedSetEnded c.ex.target output on
      (if feedAckAccepts output f.payload then .accepted else .refused) u := by
  simp only [tellGood, kind]

/-- R26: before its owner is told of a FEED_ACK, the zones are as they were, but for grants. -/
theorem grants_goodInspected (ack : f.kind = feedAckByte) :
    Grants (goodCounted i s) (goodInspected i c f s) :=
  grants_inspectReply _ _ _ _ (by rw [ack]; decide)

/-- What the zone of an acknowledged FEED_SET meets when its owner is told. -/
structure AckMet (s u : State) (entry output z : Nat) : Prop where
  bound : z < 32
  pair : zoneOfPair u entry output = some z
  zone : zoneCfg u z = zoneCfg s z
  now : u.now = s.now
  grants : Grants s u

theorem ackMet (ack : f.kind = feedAckByte) {entry output z : Nat}
    (pair : zoneOfPair s entry output = some z) :
    AckMet (goodCounted i s) (goodInspected i c f s) entry output z := by
  have works := works_goodInspected (i := i) (c := c) (f := f) (s := s)
  refine ⟨(zoneOfPair_some pair).1, ?_, by simp [zoneCfg, works.tables], works.now,
    grants_goodInspected ack⟩
  rw [zoneOfPair_congr works.tables]
  exact pair

theorem endGood_enable_accepted (hi : i < 4) (ack : f.kind = feedAckByte) {output z : Nat}
    (kind : c.ex.kind = .feedSet output true) (law : ZoneListsLaw s)
    (pair : zoneOfPair s c.ex.target output = some z)
    (accepts : feedAckAccepts output f.payload = true) (state : (zoneAt s z).state = .inrush)
    (waits : (zoneAt s z).acked = false) :
    (zoneAt (endGood i c f s) z).state = .inrush ∧ (zoneAt (endGood i c f s) z).acked = true ∧
      (zoneAt (endGood i c f s) z).inrush = .running (s.now + (zoneCfg s z).window) := by
  have met := ackMet (i := i) (c := c) ack pair
  have unqueued : z ∉ (goodInspected i c f s).zc.queue := fun queued =>
    not_queued_of_state law (z := z) (by simp [state]) (met.grants.queue z queued)
  have same : zoneAt (goodInspected i c f s) z = zoneAt s z :=
    met.grants.unqueued (not_queued_of_state law (z := z) (by simp [state]))
  rw [endGood_eq, tellGood_feedSet kind, accepts, if_pos rfl,
    enable_accepted met.pair (by rw [same]; exact state) (by rw [same]; exact waits)]
  have started (g : ZoneRun → ZoneRun) : zoneAt (returnToIdle i (modZone z g (goodInspected i c f s))) z =
      zoneAt (modZone z g (goodInspected i c f s)) z :=
    (grants_returnToIdle hi _).unqueued unqueued
  rw [started, zoneAt_modZone, if_pos ⟨rfl, met.bound⟩, same, met.zone]
  exact ⟨state, rfl, congrArg (fun now => Timer.running (now + (zoneCfg s z).window)) met.now⟩

theorem endGood_disable_accepted (hi : i < 4) (ack : f.kind = feedAckByte) {output z : Nat}
    (kind : c.ex.kind = .feedSet output false) (pair : zoneOfPair s c.ex.target output = some z)
    (accepts : feedAckAccepts output f.payload = true) :
    (zoneAt (endGood i c f s) z).disablePending = false := by
  have met := ackMet (i := i) (c := c) ack pair
  rw [endGood_eq, tellGood_feedSet kind, accepts, if_pos rfl, disable_accepted met.pair,
    (grants_returnToIdle hi _).pending]
  have ran := (Grants.refl (modZone z (fun r => { r with disablePending := false })
    (goodInspected i c f s))).runArbiter
  show (zoneAt (runArbiter _) z).disablePending = false
  rw [ran.pending, zoneAt_modZone, if_pos ⟨rfl, met.bound⟩]

/-- R67, R71: a refused enable fails the attempt of its zone. -/
theorem endGood_enable_refused (hi : i < 4) (current : (segAt s i).current = some c)
    (ack : f.kind = feedAckByte) {output z : Nat} (kind : c.ex.kind = .feedSet output true)
    (law : ZoneListsLaw s) (pair : zoneOfPair s c.ex.target output = some z)
    (refuses : feedAckAccepts output f.payload = false) (state : (zoneAt s z).state = .inrush)
    (waits : (zoneAt s z).acked = false) :
    (zoneAt (endGood i c f s) z).attempts = (zoneAt s z).attempts + 1 ∧
      (zoneAt (endGood i c f s) z).acked = false ∧
      (zoneAt (endGood i c f s) z).inrush = .stopped ∧
      (SegmentLaw s → SwitchedOff (endGood i c f s) z c.ex.target output) ∧
      ((zoneAt s z).attempts + 1 = (zoneCfg s z).lockout →
        (zoneAt (endGood i c f s) z).state = .lockout ∧
        inFlagSet (endGood i c f s).port.flags .zoneLockout = true) ∧
      ((zoneAt s z).attempts + 1 ≠ (zoneCfg s z).lockout → Admitted (endGood i c f s) z) := by
  obtain ⟨-, entry, out⟩ := zoneOfPair_some pair
  have met := ackMet (i := i) (c := c) ack pair
  have fresh := not_queued_of_state law (z := z) (by simp [state])
  have unqueued : z ∉ (goodInspected i c f s).zc.queue := fun queued =>
    fresh (met.grants.queue z queued)
  have same : zoneAt (goodInspected i c f s) z = zoneAt s z := met.grants.unqueued fresh
  have fails : AttemptFails z (goodInspected i c f s) (tellGood i c f (goodInspected i c f s)) := by
    rw [tellGood_feedSet kind, refuses]
    exact enable_fails met.pair (by rw [same]; exact state) (by rw [same]; exact waits) unqueued
      (by simp)
  have zone : zoneCfg (goodInspected i c f s) z = zoneCfg s z := met.zone
  have told := fails.returnToIdle hi
  rw [← endGood_eq, same, zone, entry, out] at told
  obtain ⟨attempts, acked, inrush, off, locked, admitted⟩ := told
  exact ⟨attempts, acked, inrush,
    fun segments => off ((lawBut_goodInspected f segments current).tellGood c f).held, locked,
    admitted⟩

/-- R68: a refused disable is owed. -/
theorem endGood_disable_refused (hi : i < 4) (ack : f.kind = feedAckByte) {output z : Nat}
    (kind : c.ex.kind = .feedSet output false) (law : ZoneListsLaw s)
    (pair : zoneOfPair s c.ex.target output = some z)
    (refuses : feedAckAccepts output f.payload = false) (rests : runs s z = false)
    (state : (zoneAt s z).state ≠ .queued) :
    (zoneAt (endGood i c f s) z).disablePending = true ∧
      ((zoneAt s z).disablePending = false →
        inFlagSet (endGood i c f s).port.flags .feedPending = true) := by
  have met := ackMet (i := i) (c := c) ack pair
  have same : zoneAt (goodInspected i c f s) z = zoneAt s z :=
    met.grants.unqueued (not_queued_of_state law state)
  obtain ⟨-, resting⟩ := disable_fails (report := .refused) met.pair (by simp)
  obtain ⟨outcome, eq⟩ := resting (by rw [runs, same]; exact rests)
  obtain ⟨owed, flag⟩ := owed_returnToIdle hi met.bound outcome (goodInspected i c f s)
  rw [endGood_eq, tellGood_feedSet kind, refuses, if_neg Bool.false_ne_true, eq, owed]
  exact ⟨rfl, fun fresh => flag (by rw [same]; exact fresh)⟩

/-! ### A relay -/

theorem endGood_relay (hi : i < 4) {k tag : Byte} {payload : List Byte} {n : Nat}
    (kind : c.ex.kind = .relay k tag payload) (owner : c.ex.owner = .relaySlot n) : SamePlaces
      (relayEnded n (fun slot => replyAnswer slot f) (goodInspected i c f s)) (endGood i c f s) := by
  have told : tellGood i c f (goodInspected i c f s) =
      relayEnded n (fun slot => replyAnswer slot f) (goodInspected i c f s) := by
    simp only [tellGood, kind, owner]
  rw [endGood_eq, told]
  exact places_returnToIdle hi _

theorem goodInspected_places : SamePlaces s (goodInspected i c f s) :=
  .trans (t := goodCounted i s) (.of_port rfl) works_goodInspected.places

end

/-- Settles O58: a good reply is counted and inspected, and its owner told: a POLL's entry is settled and
marked polled, a FEED_SET's zone starts its window, fails its attempt or owes its disable, and a relay is
answered; the return to IDLE that follows reaches the zones by grants alone. -/
theorem goodReplyIsInspectedAndHandedOn : Obligations.GoodReplyIsInspectedAndHandedOn := by
  unfold Obligations.GoodReplyIsInspectedAndHandedOn
  intro i s c bytes f current phase good
  have hi := i.isLt
  have expected := expectsReply_of_good good
  have ack {output : Nat} {on : Bool} (kind : c.ex.kind = .feedSet output on) :
      f.kind = feedAckByte := by
    rw [kind] at expected
    exact eq_of_beq expected
  refine ⟨_, exec_replyComplete_of_good current phase good, ?_, counters_endGood hi,
    fun k _ other => endGood_others other, endGood_unapplied, ?_, ?_, ?_, ?_, ?_⟩
  · refine touches_of_erase (erase_endGood _ _ _ _ ?_ ?_ ?_ ?_ ?_ ?_ ?_ ?_)
    all_goals decide
  · intro kind fresh target inUse enabled
    rw [kind] at expected
    exact endGood_poll hi kind (eq_of_beq expected) fresh target inUse enabled
  · intro output on z kind law pair accepts
    refine ⟨fun enable state waits => ?_, fun disable => ?_⟩
    · subst enable
      exact endGood_enable_accepted hi (ack kind) kind law pair accepts state waits
    · subst disable
      exact endGood_disable_accepted hi (ack kind) kind pair accepts
  · intro output on z kind law pair refuses
    refine ⟨fun enable state waits => ?_, fun disable rests state => ?_⟩
    · subst enable
      exact endGood_enable_refused hi current (ack kind) kind law pair refuses state waits
    · subst disable
      exact endGood_disable_refused hi (ack kind) kind law pair refuses rests state
  · intro kind tag payload n slot relay owner hn here waiting
    rw [← (goodInspected_places (i := i) (c := c) (f := f)).slotAt] at here
    exact (relayEnded_of_waiting hn _ here waiting).congr goodInspected_places
      (endGood_relay hi relay owner)
  · intro kind tag payload n slot relay owner hn here
    have before : SamePlaces s (goodInspected i c f s) := goodInspected_places
    have after := endGood_relay (f := f) (s := s) hi relay owner
    rw [← before.slotAt] at here
    refine ⟨fun expired => ?_, fun held pending answering => ?_⟩
    · obtain ⟨freed, responses, waiting⟩ := relayEnded_of_expired hn (fun slot => replyAnswer slot f)
        here expired
      exact ⟨(after.slotAt n).trans freed, after.responses.trans (responses.trans before.responses),
        after.answering.trans (waiting.trans before.answering)⟩
    · obtain ⟨kept, responses, waiting⟩ := relayEnded_of_answering hn (fun slot => replyAnswer slot f)
        here answering
      exact ⟨(after.slotAt n).trans kept, after.responses.trans (responses.trans before.responses),
        after.answering.trans (waiting.trans before.answering)⟩

end Sys2Proof.Machine


namespace Sys2Proof.Machine

/-! ## What the laws of the node records read

`shown s` is all that the laws of the node records and of the figures taken from them read. An operation
that keeps it keeps both laws, and as for frames these equations compose under `simp`. -/

/-- The node records, the figures and the indication taken from them, and the tables they are read with. -/
structure Shown where
  configs : Vector NodeCfg 48
  lineConfigs : Vector LineCfg 11
  reserve : Nat
  quorum : Nat
  fraction : Nat
  efficiency : Nat
  nodes : Vector NodeRun 48
  lines : Vector LineRun 11
  count : Nat
  available : Nat
  lostInput : Vector Bool 48
  copies : Vector BatteryCopy 48
  eSum : Nat
  pCap : Nat
  batteries : Nat
  energy : Nat
  linePart : Bool
  rectPart : Bool
  indication : Bool
  state : RideState

/-- What the laws of the node records read of a state. -/
def shown (s : State) : Shown where
  configs := s.tables.nodes
  lineConfigs := s.tables.lines
  reserve := reserveCount s
  quorum := lossQuorum s
  fraction := reserveFraction s
  efficiency := efficiency s
  nodes := s.nodes
  lines := s.lines
  count := s.cap.count
  available := s.cap.available
  lostInput := s.ride.lostInput
  copies := s.ride.copies
  eSum := s.ride.eSum
  pCap := s.ride.pCap
  batteries := s.ride.batteries
  energy := s.ride.energy
  linePart := s.ride.linePart
  rectPart := s.ride.rectPart
  indication := s.ride.indication
  state := s.ride.state

/-- The blocks that hold nothing of what is shown. -/
def unshown : List Block :=
  [.now, .free, .pending, .image, .loader, .port, .segs, .zc, .seq, .leak, .mail]

theorem shown_of_erase {s t : State} (h : erase unshown t = erase unshown s) : shown t = shown s := by
  have touches := touches_of_erase h
  have tables : t.tables = s.tables := touches .tables (by decide)
  have nodes : t.nodes = s.nodes := touches .nodes (by decide)
  have lines : t.lines = s.lines := touches .lines (by decide)
  have cap : t.cap = s.cap := touches .cap (by decide)
  have ride : t.ride = s.ride := touches .ride (by decide)
  simp [shown, reserveCount, lossQuorum, reserveFraction, efficiency, setting, tables, nodes, lines, cap,
    ride]

@[simp] theorem shown_ite (c : Prop) [Decidable c] (s t : State) :
    shown (if c then s else t) = if c then shown s else shown t := apply_ite _ _ _ _

@[simp] theorem shown_ite_fst {α : Type} (c : Prop) [Decidable c] (x y : State × α) :
    shown (if c then x else y).1 = if c then shown x.1 else shown y.1 :=
  apply_ite (fun z : State × α => shown z.1) _ _ _

@[simp] theorem shown_ite_snd {α : Type} (c : Prop) [Decidable c] (x y : α × State) :
    shown (if c then x else y).2 = if c then shown x.2 else shown y.2 :=
  apply_ite (fun z : α × State => shown z.2) _ _ _

theorem shown_foldl {α : Type} {f : State → α → State} (h : ∀ s x, shown (f s x) = shown s)
    (l : List α) (s : State) : shown (l.foldl f s) = shown s := by
  induction l generalizing s with
  | nil => rfl
  | cons x rest ih => exact (ih _).trans (h s x)

/-! ### Updates -/

@[simp] theorem shown_modPort (f : Port → Port) (s : State) : shown (modPort f s) = shown s := rfl

@[simp] theorem shown_modZc (f : ZoneCtl → ZoneCtl) (s : State) : shown (modZc f s) = shown s := rfl

@[simp] theorem shown_modZone (z : Nat) (f : ZoneRun → ZoneRun) (s : State) :
    shown (modZone z f s) = shown s := rfl

@[simp] theorem shown_modMail (f : Mail → Mail) (s : State) : shown (modMail f s) = shown s := rfl

@[simp] theorem shown_modSeg (i : Nat) (f : Segment → Segment) (s : State) :
    shown (modSeg i f s) = shown s := rfl

@[simp] theorem shown_modCap (f : Capacity → Capacity) (s : State)
    (count : (f s.cap).count = s.cap.count) (available : (f s.cap).available = s.cap.available) :
    shown (modCap f s) = shown s := by
  simp only [shown, modCap_cap, count, available]
  rfl

/-! ### Flags, joins and disables -/

@[simp] theorem shown_raiseFlag (f : EventFlag) (p : List Byte) (s : State) :
    shown (raiseFlag f p s) = shown s := shown_of_erase (by simp [unshown])

@[simp] theorem shown_joinSegment (i : Nat) (e : Exchange) (s : State) :
    shown (joinSegment i e s).state = shown s := shown_of_erase (by simp [unshown])

@[simp] theorem shown_queueDisable (z : Nat) (s : State) : shown (queueDisable z s).1 = shown s :=
  shown_of_erase (by simp [unshown])

@[simp] theorem shown_setDisablePending (z : Nat) (x : DisableOutcome) (s : State) :
    shown (setDisablePending z x s) = shown s := shown_of_erase (by simp [unshown])

/-! ### The Capacity Unit: every event but the recomputing of available power -/

@[simp] theorem shown_tellCapacityNews (before : Capacity) (s : State) :
    shown (tellCapacityNews before s) = shown s := shown_of_erase (by simp [unshown])

@[simp] theorem shown_enterBalanced (s : State) : shown (enterBalanced s) = shown s := by
  simp [enterBalanced]

@[simp] theorem shown_handOverShed (w : Walk) (s : State) : shown (handOverShed w s) = shown s := by
  simp [handOverShed]

@[simp] theorem shown_computeShed (s : State) : shown (computeShed s) = shown s := by
  simp [computeShed]

@[simp] theorem shown_enterDeficit (s : State) : shown (enterDeficit s) = shown s := by
  simp [enterDeficit]

@[simp] theorem shown_evaluateCapacity (s : State) : shown (evaluateCapacity s) = shown s := by
  unfold evaluateCapacity
  dsimp only
  split <;> simp

@[simp] theorem shown_recomputeCommitted (s : State) : shown (recomputeCommitted s) = shown s := by
  simp [recomputeCommitted]

@[simp] theorem shown_suspendCapacity (s : State) : shown (suspendCapacity s) = shown s := by
  simp [suspendCapacity]

@[simp] theorem shown_resumeCapacity (s : State) : shown (resumeCapacity s) = shown s := by
  simp [resumeCapacity]

@[simp] theorem shown_graceExpired (s : State) : shown (graceExpired s) = shown s := by
  unfold graceExpired
  dsimp only
  split <;> simp

@[simp] theorem shown_capacityShedDone (s : State) : shown (capacityShedDone s) = shown s := by
  simp [capacityShedDone]

/-! ### The Zone Controller -/

@[simp] theorem shown_tellZoneChange (z : Nat) (old new : ZoneState) (s : State) :
    shown (tellZoneChange z old new s) = shown s := by
  simp [tellZoneChange, tellSequencer]

@[simp] theorem shown_grantZone (z : Nat) (s : State) : shown (grantZone z s) = shown s := by
  simp [grantZone, dequeueZone]

@[simp] theorem shown_arbiterRun (fuel : Nat) (s : State) : shown (arbiterRun fuel s) = shown s := by
  induction fuel generalizing s with
  | zero => rfl
  | succ fuel ih =>
    unfold arbiterRun
    split
    · split
      · rfl
      · split
        · dsimp only
          split <;> simp [ih]
        · rfl
    · rfl

@[simp] theorem shown_runArbiter (s : State) : shown (runArbiter s) = shown s := shown_arbiterRun _ s

@[simp] theorem shown_afterDeparture (departed : Bool) (s : State) :
    shown (afterDeparture departed s) = shown s := by
  simp [afterDeparture]

@[simp] theorem shown_drainZone (s : State) (z : Nat) : shown (drainZone s z) = shown s := by
  simp [drainZone, enqueueZone, leaveReadmit]

@[simp] theorem shown_evaluateReadmit (s : State) : shown (evaluateReadmit s) = shown s := by
  unfold evaluateReadmit
  split
  · rw [shown_runArbiter, shown_foldl shown_drainZone]
  · rfl

@[simp] theorem shown_shedZone (s : State) (z : Nat) : shown (shedZone s z) = shown s := by
  simp [shedZone]

@[simp] theorem shown_shedList (l : List Nat) (s : State) : shown (shedList l s).1 = shown s := by
  induction l generalizing s with
  | nil => rfl
  | cons z rest ih => exact (ih _).trans (shown_shedZone s z)

@[simp] theorem shown_slotCountWritten (s : State) : shown (slotCountWritten s) = shown s := by
  simp [slotCountWritten, shedSurplus, shown_foldl]

@[simp] theorem shown_failAttempt (z : Nat) (x : AttemptCause) (s : State) :
    shown (failAttempt z x s) = shown s := by
  simp [failAttempt, enqueueZone]

@[simp] theorem shown_feedSetEnded (entry output : Nat) (on : Bool) (report : FeedReport) (s : State) :
    shown (feedSetEnded entry output on report s) = shown s := by
  have enable : shown (enableEnded entry output report s) = shown s := by
    unfold enableEnded
    split
    · rfl
    · cases report <;> simp
  have disable : shown (disableEnded entry output report s) = shown s := by
    unfold disableEnded
    split
    · rfl
    · cases report <;> simp
  simp [feedSetEnded, enable, disable]

@[simp] theorem shown_adoptOff (z : Nat) (new : ZoneState) (s : State) :
    shown (adoptOff z new s) = shown s := by
  simp [adoptOff]

@[simp] theorem shown_adoptZone (z reading : Nat) (s : State) :
    shown (adoptZone z reading s) = shown s := by
  unfold adoptZone
  split <;> simp

@[simp] theorem shown_zoneReport (entry : Nat) (s : State) (news : Nat × Nat) :
    shown (zoneReport entry s news) = shown s := by
  have good (z : Nat) : shown (powerGood z s) = shown s := by simp [powerGood]
  have trip (z reading : Nat) : shown (tripZone z reading s) = shown s := by simp [tripZone]
  unfold zoneReport
  split
  · rfl
  next z _ =>
    dsimp only
    split
    · split
      · split <;> simp [good]
      · rfl
    · simp [trip]
    · simp
    all_goals rfl

@[simp] theorem shown_queueZone (z : Nat) (s : State) : shown (queueZone z s) = shown s := by
  simp [queueZone, enqueueZone]

@[simp] theorem shown_switchZoneOff (z : Nat) (s : State) : shown (switchZoneOff z s) = shown s := by
  simp [switchZoneOff]

@[simp] theorem shown_unqueueZone (z : Nat) (new : ZoneState) (s : State) :
    shown (unqueueZone z new s) = shown s := by
  simp [unqueueZone, dequeueZone]

@[simp] theorem shown_unshedZone (z : Nat) (new : ZoneState) (s : State) :
    shown (unshedZone z new s) = shown s := by
  simp [unshedZone, leaveReadmit]

@[simp] theorem shown_zoneRequest (z : Nat) (action : ZoneAction) (s : State) :
    shown (zoneRequest z action s).2 = shown s := by
  have on : shown (zoneOnRequest z s).2 = shown s := by
    unfold zoneOnRequest
    cases (zoneAt s z).state <;> simp
  have off : shown (zoneOffRequest z s) = shown s := by
    unfold zoneOffRequest
    split <;> simp
  have reset : shown (zoneResetRequest z s).2 = shown s := by simp [zoneResetRequest]
  unfold zoneRequest
  cases action <;> simp [on, off, reset]

@[simp] theorem shown_seqQueueRequest (z : Nat) (s : State) :
    shown (seqQueueRequest z s).2 = shown s := by
  unfold seqQueueRequest
  cases (zoneAt s z).state <;> simp

@[simp] theorem shown_isolateZone (s : State) (z : Nat) : shown (isolateZone s z) = shown s := by
  unfold isolateZone
  dsimp only
  split <;> simp

@[simp] theorem shown_releaseZone (s : State) (z : Nat) : shown (releaseZone s z) = shown s := by
  simp [releaseZone]

@[simp] theorem shown_takeGroupNews (s : State) (news : GroupNews) :
    shown (takeGroupNews s news) = shown s := by
  simp [takeGroupNews, shown_foldl]

@[simp] theorem shown_epoZone (s : State) (z : Nat) : shown (epoZone s z) = shown s := by
  unfold epoZone
  dsimp only
  split <;> simp

@[simp] theorem shown_takeEpoLevel (asserted : Bool) (s : State) :
    shown (takeEpoLevel asserted s) = shown s := by
  simp [takeEpoLevel, setEpoLatch, shown_foldl]

@[simp] theorem shown_epoClearRequest (s : State) : shown (epoClearRequest s).2 = shown s := by
  simp [epoClearRequest]

@[simp] theorem shown_takeCapNews (news : CapNews) (s : State) :
    shown (takeCapNews news s) = shown s := by
  simp [takeCapNews]

@[simp] theorem shown_takeEnergyNews (energy : Nat) (s : State) :
    shown (takeEnergyNews energy s) = shown s := by
  simp [takeEnergyNews]

@[simp] theorem shown_takeRideNews (s : State) (news : RideNews) :
    shown (takeRideNews s news) = shown s := by
  cases news <;> simp [takeRideNews]

@[simp] theorem shown_inrushShedDone (zones : List Nat) (s : State) :
    shown (inrushShedDone zones s) = shown s := rfl

@[simp] theorem shown_takeBridging (s : State) : shown (takeBridging s) = shown s := by
  simp [takeBridging]

@[simp] theorem shown_takeLinkNews (news : LinkNews) (s : State) :
    shown (takeLinkNews news s) = shown s := by
  simp [takeLinkNews, shown_foldl]

/-! ### The Ride-Through Unit: plans and episodes -/

@[simp] theorem shown_raiseShort (p : PlanRecord) (s : State) : shown (raiseShort p s) = shown s := by
  unfold raiseShort
  split
  · rw [shown_raiseFlag]; rfl
  · rfl

@[simp] theorem shown_handOverPlan (p : PlanRecord) (s : State) :
    shown (handOverPlan p s) = shown s := by
  unfold handOverPlan
  split
  · rfl
  · rw [shown_raiseFlag]; rfl

@[simp] theorem shown_evaluatePlan (x : Occasion) (s : State) :
    shown (evaluatePlan x s) = shown s := by
  unfold evaluatePlan
  dsimp only
  rw [shown_handOverPlan, shown_raiseShort]
  rfl

@[simp] theorem shown_countEpisode (s : State) : shown (countEpisode s) = shown s := by
  unfold countEpisode
  dsimp only
  split
  · unfold raiseRideChange
    rw [shown_raiseFlag]; rfl
  · rfl

@[simp] theorem shown_setBridging (b : Bool) (s : State) : shown (setBridging b s) = shown s := by
  have told := shown_of_erase (s := modRide (fun r => { r with bridgeLine := b }) s)
    (t := leakTakeBridging b (modRide (fun r => { r with bridgeLine := b }) s)) (by simp [unshown])
  unfold setBridging driveAlert
  rw [shown_modPort, shown_modPort]
  exact told.trans rfl

@[simp] theorem shown_recomputeExpired (s : State) : shown (recomputeExpired s) = shown s := by
  unfold recomputeExpired
  split
  · rw [shown_evaluatePlan]; rfl
  · rfl

@[simp] theorem shown_rideReleaseRequest (s : State) : shown (rideReleaseRequest s) = shown s := by
  unfold rideReleaseRequest
  dsimp only
  split
  · unfold flushConserveNews raiseRideChange
    rw [shown_foldl shown_takeRideNews, shown_modMail, shown_raiseFlag]
    rfl
  · rfl

end Sys2Proof.Machine


namespace Sys2Proof.Machine

/-! ## What a step can do to the node records

A law that reads only what is shown needs to be kept by the events of the Frame Inspector, by the table
writes that its figures read, and by what the AC loss indication follows. The walk over the commands is made
once, for all such laws. -/

/-- R164: the four settings that are shown: the reserve, the loss quorum, the reserve fraction and the
efficiency. -/
def shownSettings : List Nat := [13, 21, 27, 28]

/-- The settings of the four segment enables (R164). -/
def enableSettings : List Nat := [0, 3, 6, 9]

theorem shown_with_settings {v : Vector Nat 41} {s : State}
    (h : ∀ j ∈ shownSettings, nth v j = nth s.tables.settings j) :
    shown { s with tables := { s.tables with settings := v } } = shown s := by
  simp only [shownSettings, List.forall_mem_cons] at h
  obtain ⟨reserve, quorum, fraction, efficiency, -⟩ := h
  simp [shown, reserveCount, lossQuorum, reserveFraction, Machine.efficiency, setting, reserve, quorum,
    fraction, efficiency]

/-- R164: the partners held against a written setting are settings 20 and 36. -/
theorem nth_fitPartner (k : Nat) (v : Vector Nat 41) {j : Nat} (hj : j ≠ 20 ∧ j ≠ 36) :
    nth (fitPartner k v) j = nth v j := by
  unfold fitPartner
  split
  · exact nth_put_of_ne _ _ hj.1.symm
  split
  · split
    · exact nth_put_of_ne _ _ hj.2.symm
    · rfl
  · rfl

/-- R164: the settings after a write of setting `k`. -/
def settingsAfter (k v : Nat) (s : State) : Vector Nat 41 :=
  fitPartner k (put s.tables.settings k (fitSetting k v))

theorem nth_settingsAfter {k j : Nat} (v : Nat) (s : State) (hj : j ∈ shownSettings) (other : k ≠ j) :
    nth (settingsAfter k v s) j = nth s.tables.settings j := by
  have alone : ∀ j ∈ shownSettings, j ≠ 20 ∧ j ≠ 36 := by decide
  rw [settingsAfter, nth_fitPartner k _ (alone j hj), nth_put_of_ne _ _ other]

theorem shown_settingsAfter {k : Nat} (v : Nat) (s : State)
    (same : k ∈ shownSettings → nth (settingsAfter k v s) k = nth s.tables.settings k) :
    shown { s with tables := { s.tables with settings := settingsAfter k v s } } = shown s := by
  refine shown_with_settings fun j hj => ?_
  by_cases hkj : k = j
  · subst hkj
    exact same hj
  · exact nth_settingsAfter v s hj hkj

theorem writeSetting_eq (k v : Nat) (s : State) : writeSetting k v s =
    if nth (settingsAfter k v s) k = nth s.tables.settings k
    then { s with tables := { s.tables with settings := settingsAfter k v s } }
    else settingWritten k { s with tables := { s.tables with settings := settingsAfter k v s } } := rfl

/-! ### Relays, cancelled exchanges and the return to IDLE show nothing -/

@[simp] theorem shown_relayEnded (n : Nat) (f : RelaySlot → Frame) (s : State) :
    shown (relayEnded n f s) = shown s := shown_of_erase (by simp [unshown])

@[simp] theorem shown_firstScanTest (expiry : Bool) (i : Nat) (s : State) :
    shown (firstScanTest expiry i s) = shown s := shown_of_erase (by simp [unshown])

@[simp] theorem shown_tellCancelled (s : State) (e : Exchange) : shown (tellCancelled s e) = shown s := by
  unfold tellCancelled
  split
  · rfl
  · simp
  · split <;> simp

@[simp] theorem shown_returnToIdle (i : Nat) (s : State) : shown (returnToIdle i s) = shown s := by
  unfold returnToIdle
  dsimp only
  rw [shown_afterDeparture]
  exact shown_of_erase (by simp [unshown])

@[simp] theorem shown_tellGood (i : Nat) (c : Current) (f : Frame) (s : State) :
    shown (tellGood i c f s) = shown s := by
  unfold tellGood
  split
  · exact shown_of_erase (by simp [unshown])
  · simp
  · split <;> simp

@[simp] theorem shown_takeRelay (f : Frame) (s : State) : shown (takeRelay f s) = shown s := by
  have accept (target : Nat) (k : RelayKind) (tag dest : Byte) (payload : List Byte) (s : State) :
      shown (acceptRelay target k tag dest payload s).2 = shown s := by
    unfold acceptRelay
    split
    · rfl
    · dsimp only
      split
      · rw [shown_afterDeparture]
        exact shown_of_erase (by simp [unshown])
      · exact shown_joinSegment _ _ s
      · exact shown_joinSegment _ _ s
  have gate (s : State) : shown (relayGate f s).2 = shown s := by
    unfold relayGate
    split
    · rfl
    split
    · rfl
    split
    · rfl
    split
    · rfl
    · exact accept _ _ _ _ _ s
  have gated := gate (keepPlace true s)
  unfold takeRelay
  split <;> rename_i h <;> rw [h] at gated
  · exact gated
  · exact gated

@[simp] theorem shown_relayTimedOut (n : Nat) (s : State) : shown (relayTimedOut n s) = shown s := by
  unfold relayTimedOut
  split
  · rfl
  split
  · dsimp only
    rw [shown_afterDeparture]
    exact shown_of_erase (by simp [unshown])
  · rfl
  · rfl

/-! ### The walk over the commands -/

/-- A law that reads only what is shown, and that every event of the Frame Inspector, every table write its
figures read, and every event of the indication keeps. -/
structure Inspected (P : State → Prop) : Prop where
  same {s t : State} : P s → shown t = shown s → P t
  reply (k : Nat) (kind : Byte) (payload : List Byte) (poll stale : Bool) {s : State} :
    P s → P (inspectReply k kind payload poll stale s)
  miss (k : Nat) {s : State} : P s → P (countMiss k s)
  age (i : Nat) {s : State} : P s → P (ageItems i s)
  lose (k : Nat) {s : State} : P s → P (loseEntry s k)
  disable {k : Nat} {s : State} : P s →
    P (changeNode k .disabled .request (withdrawPoll k (setService k .disabled s)).1)
  enable {k : Nat} {s : State} : P s → P (changeNode k .unseen .request (setService k .enabled s))
  write {k : Nat} {c : NodeCfg} {s : State} : nodeWritable s k c = true → P s → P (takeNodeWrite k c s)
  setting {k : Nat} (v : Nat) {s : State} : k ∉ enableSettings → P s → P (writeSetting k v s)
  line (i : Nat) (c : LineCfg) {s : State} : P s → P (writeLine i c s)
  sample (i : Nat) (drive : PinDrive) {s : State} : P s → P (sampleLine i drive s)
  confirm {s : State} : P s → P (confirmExpired s)
  settle {s : State} : P s → P (settleExpired s)

namespace Inspected

variable {P : State → Prop} {s : State}

theorem unshown (h : Inspected P) {t : State} (law : P s)
    (quiet : erase Machine.unshown t = erase Machine.unshown s) : P t := h.same law (shown_of_erase quiet)

theorem foldl (_ : Inspected P) {α : Type} {f : State → α → State} (hf : ∀ s x, P s → P (f s x))
    (l : List α) (law : P s) : P (l.foldl f s) := by
  induction l generalizing s with
  | nil => exact law
  | cons x rest ih => exact ih (hf s x law)

/-! #### The ends of exchanges and the poll timer -/

theorem endGood (h : Inspected P) (i : Nat) (c : Current) (f : Frame) (law : P s) :
    P (endGood i c f s) := by
  have counted : P (modCounters i (fun n => { n with good := sat16 n.good }) (clearCurrent i s)) :=
    h.same law rfl
  unfold Machine.endGood
  exact h.same (h.reply _ _ _ _ _ counted) ((shown_returnToIdle _ _).trans (shown_tellGood _ _ _ _))

theorem tellFailed (h : Inspected P) (i : Nat) (c : Current) (x : Failure) (law : P s) :
    P (tellFailed i c x s) := by
  have missed : P (if c.stale then s else countMiss c.ex.target s) := by
    split
    · exact law
    · exact h.miss _ law
  unfold Machine.tellFailed
  split
  · exact h.unshown missed (by simp [Machine.unshown])
  · exact h.same law (shown_feedSetEnded _ _ _ _ s)
  · split
    · exact h.same law (shown_relayEnded _ _ s)
    · exact law
    · exact law

theorem handFailure (h : Inspected P) (i : Nat) (c : Current) (x : Failure) (law : P s) :
    P (handFailure i c x s) := by
  unfold Machine.handFailure
  split
  · exact h.tellFailed i c x law
  split
  · exact h.same law rfl
  · exact h.tellFailed i c x law

theorem endFailed (h : Inspected P) (i : Nat) (c : Current) (x : Failure) (law : P s) :
    P (endFailed i c x s) := by
  unfold Machine.endFailed
  refine h.same (h.handFailure i c x ?_) (shown_returnToIdle _ _)
  cases x with
  | readback index => exact h.same law (shown_raiseFlag _ _ _)
  | noReply => exact h.same law rfl
  | badReply => exact h.same law rfl

theorem pollExpired (h : Inspected P) (i : Nat) (law : P s) : P (pollExpired i s) := by
  unfold Machine.pollExpired
  dsimp only
  have started : P (modSeg i (fun g => { g with pollTimer := startTimer s (pollPeriod s i) }) s) :=
    h.same law rfl
  exact h.same (h.unshown (h.age i started) (by simp [Machine.unshown])) (shown_afterDeparture _ _)

theorem readbackDiffers (h : Inspected P) (i : Nat) (index : Byte) (law : P s) :
    P (readbackDiffers i index s) := by
  unfold Machine.readbackDiffers
  split
  · exact law
  · split
    · exact h.endFailed i _ _ law
    · exact law
    · exact law

theorem windowPassed (h : Inspected P) (i : Nat) (law : P s) : P (windowPassed i s) := by
  unfold Machine.windowPassed
  split
  · exact law
  · split
    · exact h.endFailed i _ _ law
    · exact law
    · exact law

theorem replyBroken (h : Inspected P) (i : Nat) (law : P s) : P (replyBroken i s) := by
  unfold Machine.replyBroken
  split
  · exact law
  · split
    · exact h.endFailed i _ _ law
    · exact law
    · exact law

theorem replyArrived (h : Inspected P) (i : Nat) (bytes : List Byte) (law : P s) :
    P (replyArrived i bytes s) := by
  unfold Machine.replyArrived
  split
  · exact law
  · split
    · split
      · exact h.endGood i _ _ law
      · exact h.endFailed i _ _ law
    · exact law
    · exact law

/-! #### NODE requests and table writes -/

theorem nodeRequest (h : Inspected P) (k : Nat) (disable : Bool) (law : P s) :
    P (nodeRequest k disable s).2 := by
  have disabled : P (disableEntry k s) := by
    unfold disableEntry
    exact h.same (h.disable law) ((shown_afterDeparture _ _).trans (shown_firstScanTest _ _ _))
  have enabled : P (enableEntry k s) := by
    unfold enableEntry
    exact h.same (h.enable law) (shown_firstScanTest _ _ _)
  unfold Machine.nodeRequest
  split
  · exact law
  split
  · exact law
  split
  · dsimp only
    split
    · exact law
    · exact disabled
  · dsimp only
    split
    · exact enabled
    · exact law

theorem segmentEnableChanged (h : Inspected P) (i : Nat) (law : P s) : P (segmentEnableChanged i s) := by
  have disabled : P (disableSegment i s) := by
    unfold disableSegment loseSegment
    dsimp only
    refine h.same (h.foldl (fun _ k => h.lose k) _ (h.same law ?_)) (shown_afterDeparture _ _)
    exact (shown_foldl shown_tellCancelled _ _).trans (shown_modSeg i _ s)
  have written : P (segmentEnableWritten i s) := by
    unfold segmentEnableWritten
    split
    · split
      · exact h.same law rfl
      · exact law
    · split
      · exact law
      · exact disabled
  exact h.unshown written (by simp [Machine.segmentEnableChanged, Machine.unshown])

theorem writeSetting (h : Inspected P) (k v : Nat) (law : P s) : P (writeSetting k v s) := by
  by_cases enable : k ∈ enableSettings
  · have hidden : ∀ k ∈ enableSettings, k ∉ shownSettings := by decide
    have stored : P { s with tables := { s.tables with settings := settingsAfter k v s } } :=
      h.same law (shown_settingsAfter v s fun shown => absurd shown (hidden k enable))
    rw [writeSetting_eq]
    split
    · exact stored
    · simp only [enableSettings, List.mem_cons, List.not_mem_nil, or_false] at enable
      rcases enable with rfl | rfl | rfl | rfl <;> exact h.segmentEnableChanged _ stored
  · exact h.setting v enable law

theorem offerEntry (h : Inspected P) (table : TableId) (k : Nat) (bytes : List Byte) (law : P s) :
    P (offerEntry table k bytes s).1 := by
  unfold Machine.offerEntry
  cases table with
  | node =>
    dsimp only
    split
    · exact law
    · split
      next writable => exact h.write writable law
      · exact law
  | limit => dsimp only; split; exacts [law, h.same law rfl]
  | zone =>
    dsimp only
    split
    · exact law
    · split
      · exact h.same law rfl
      · exact law
  | leakChannel =>
    dsimp only
    split
    · exact law
    next c _ =>
      unfold writeChannel
      split
      · exact h.unshown (s := { s with tables := { s.tables with
          channels := put s.tables.channels k (clampChannel c) } })
          (h.same law rfl) (by simp [Machine.unshown])
      · exact law
  | leakMap =>
    dsimp only
    split
    · exact law
    next c _ =>
      unfold writeLeakMap
      split
      · exact h.unshown (s := { s with tables := { s.tables with
          leakMap := put s.tables.leakMap k { c with vote := max 1 (min 4 c.vote) } } })
          (h.same law rfl) (by simp [Machine.unshown])
      · exact law
  | sequence =>
    dsimp only
    split
    · exact law
    · split
      · exact law
      · exact h.same law rfl
  | line => dsimp only; split; exacts [law, h.line _ _ law]
  | settings => dsimp only; split; exacts [law, h.writeSetting _ _ law]

theorem takeEntries (h : Inspected P) (table : TableId) (l : List (List Byte)) {p : Progress}
    (law : P p.state) : P (l.foldl (takeEntry table) p).state := by
  induction l generalizing p with
  | nil => exact law
  | cons bytes rest ih =>
    refine ih ?_
    have offered := h.offerEntry table p.next bytes law
    unfold takeEntry
    split
    · exact law
    split <;> rename_i taken <;> rw [taken] at offered <;> exact offered

theorem tableDataRequest (h : Inspected P) (payload : List Byte) (law : P s) :
    P (tableDataRequest payload s).2.2 := by
  unfold Machine.tableDataRequest
  split
  · exact law
  split
  · exact law
  next r _ =>
    dsimp only
    split
    · exact h.unshown (h.takeEntries r.table
        (entriesOf (entrySize r.table) (payload.length / entrySize r.table) payload)
        (p := ⟨0, 0, none, r.next, r.remaining, s⟩) law) (by simp [Machine.unshown])
    · exact law

/-! #### Requests and frames -/

theorem carryOut (h : Inspected P) (r : Request) (law : P s) : P (carryOut r s).2.2 := by
  cases r with
  | tableData payload => exact h.tableDataRequest payload law
  | node entry disable => exact h.nodeRequest _ _ law
  | zone z action => exact h.same law (shown_zoneRequest _ _ s)
  | epoClear => exact h.same law (shown_epoClearRequest s)
  | rideRelease => exact h.same law (shown_rideReleaseRequest s)
  | leakClear group =>
    have cleared : P (leakClear group.toNat s).2 := h.unshown law (by simp [Machine.unshown])
    unfold Machine.carryOut leakClearRequest
    dsimp only
    split <;> rename_i answered <;> rw [answered] at cleared
    · exact cleared
    · exact h.same cleared (shown_foldl shown_takeGroupNews _ _)
  | status subject index => exact law
  | tableRead table start count => exact law
  | keepalive => exact h.unshown law (by simp [Machine.carryOut, Machine.unshown])
  | flagTake flags => exact h.unshown law (by simp [Machine.carryOut, Machine.unshown])
  | tableLoad table start count => exact h.unshown law (by simp [Machine.carryOut, Machine.unshown])
  | seqRun start count => exact h.unshown law (by simp [Machine.carryOut, Machine.unshown])
  | seqStop => exact h.unshown law (by simp [Machine.carryOut, Machine.unshown])
  | imageSave => exact h.unshown law (by simp [Machine.carryOut, Machine.unshown])
  | imageErase => exact h.unshown law (by simp [Machine.carryOut, Machine.unshown])
  | reset hard => exact h.same law rfl

theorem serve (h : Inspected P) (tag : Byte) (r : Request) (law : P s) : P (serve tag r s) :=
  h.same (h.carryOut r (s := keepPlace true s) (h.same law rfl)) rfl

theorem takeFrame (h : Inspected P) (f : Frame) (law : P s) : P (takeFrame f s) := by
  unfold Machine.takeFrame
  split
  · split
    · exact h.serve _ _ law
    · exact h.same law rfl
  · exact h.same law (shown_takeRelay f s)

theorem takeHead (h : Inspected P) (law : P s) : P (takeHead s) := by
  unfold Machine.takeHead
  split
  · exact law
  split
  · exact h.takeFrame _ (h.same law rfl)
  · exact law

theorem request (h : Inspected P) (tag : Byte) (r : Request) (law : P s) : P (request tag r s) := by
  unfold Machine.request
  split
  · exact h.same law rfl
  split
  · exact h.serve tag r law
  · exact h.unshown law (by simp [Machine.unshown])

theorem relayArrives (h : Inspected P) (f : Frame) (law : P s) : P (relayArrives f s) := by
  unfold Machine.relayArrives
  split
  · exact h.same law rfl
  split
  · exact h.same law rfl
  split
  · exact h.takeFrame f law
  · exact h.unshown law (by simp [Machine.unshown])

/-! #### Expiries and deliveries -/

theorem onExpiry (h : Inspected P) (x : Timer) {f : State → State} (hf : ∀ s, P s → P (f s))
    (law : P s) : P (onExpiry x f s) := by
  cases x with
  | stopped => exact law
  | running d => exact hf _ (h.same law rfl)

theorem onExpiry_shown (h : Inspected P) (x : Timer) {f : State → State} (hf : ∀ s, shown (f s) = shown s)
    (law : P s) : P (Machine.onExpiry x f s) :=
  h.onExpiry x (fun s hs => h.same hs (hf s)) law

theorem onDelivery (h : Inspected P) {α : Type} (path : List α) (rest : List α → Mail → Mail)
    {f : α → State → State} (hf : ∀ x s, shown (f x s) = shown s) (law : P s) :
    P (onDelivery path rest f s) := by
  cases path with
  | nil => exact law
  | cons x tail => exact h.same law (hf x _)

/-- The law holds in the state that an outcome goes on with. -/
def Keeps (P : State → Prop) (o : Host.Outcome State Fault Refusal) : Prop := ∀ t, o = .next t → P t

theorem keeps_next {t : State} (law : P t) : Keeps P (.next t) := by
  rintro _ ⟨⟩
  exact law

theorem replyWindowExpiry (h : Inspected P) (i : Fin 4) (law : P s) :
    Keeps P (execReplyWindowExpiry i s) := by
  refine keeps_next ?_
  split
  · exact law
  · exact h.onExpiry _ (fun _ => h.windowPassed i) law

theorem relayTimerExpiry (h : Inspected P) (n : Fin 8) (law : P s) : Keeps P (execRelayTimerExpiry n s) := by
  refine keeps_next ?_
  split
  · exact law
  · exact h.onExpiry_shown _ (shown_relayTimedOut n) law

theorem capacityDelivery (h : Inspected P) (receiver : Receiver) (law : P s) :
    Keeps P (execCapacityDelivery receiver s) := by
  refine keeps_next ?_
  cases receiver with
  | zoneController => exact h.onDelivery _ _ shown_takeCapNews law
  | sequencer => exact h.onDelivery _ _ (fun _ _ => shown_of_erase (by simp [Machine.unshown])) law

theorem energyFigureDelivery (h : Inspected P) (receiver : Receiver) (law : P s) :
    Keeps P (execEnergyFigureDelivery receiver s) := by
  refine keeps_next ?_
  cases receiver with
  | zoneController => exact h.onDelivery _ _ shown_takeEnergyNews law
  | sequencer => exact h.onDelivery _ _ (fun _ _ => shown_of_erase (by simp [Machine.unshown])) law

theorem counted (h : Inspected P) (law : P s) :
    Keeps P (execEpoFailNotice s) ∧ Keeps P (execAutostart s) := by
  refine ⟨keeps_next ?_, keeps_next ?_⟩ <;> split
  · exact law
  · exact h.unshown law (by simp [Machine.unshown])
  · exact law
  · exact h.unshown law (by simp [Machine.unshown])

theorem inrushShed (h : Inspected P) (law : P s) : P (takeInrushShed s) := by
  unfold takeInrushShed
  split
  · exact h.same law (shown_takeBridging _)
  · exact law

theorem rideDelivery (h : Inspected P) (law : P s) : P (takeRideDelivery s) := by
  unfold takeRideDelivery
  split
  · exact law
  · split
    · exact law
    · exact h.same law (shown_takeRideNews _ _)
  · exact h.same law (shown_takeRideNews _ _)

theorem shown_shedTaken (zones : List Nat) (s : State) :
    shown (takeCapacityShed zones s) = shown s ∧ shown (takePlanShed zones s) = shown s :=
  ⟨shown_shedList zones s, shown_shedList zones s⟩

theorem shown_inrushExpired (z : Nat) (s : State) : shown (inrushExpired z s) = shown s := by
  simp [inrushExpired]

/-- Every command keeps the law; the resets are told apart, since they start from the image or from the
tables. -/
theorem exec (h : Inspected P) (c : Instr) (law : P s) (cold : ∀ kind, P (coldReset kind s))
    (warm : P (warmReset s)) : Keeps P (exec c s) := by
  have hidden {f : State → State} (hf : ∀ s, erase Machine.unshown (f s) = erase Machine.unshown s) :
      ∀ s, shown (f s) = shown s := fun s => shown_of_erase (hf s)
  cases c with
  | powerOnReset => exact keeps_next (cold _)
  | hardReset => refine keeps_next ?_; split; exacts [cold _, law]
  | softReset => refine keeps_next ?_; split; exacts [warm, law]
  | upstreamFrame bytes => exact keeps_next (h.unshown law (by simp [Machine.unshown]))
  | upstreamByteTimeout => exact keeps_next (h.unshown law (by simp [Machine.unshown]))
  | rxFrameTaken => exact keeps_next (h.takeHead law)
  | transmitStart => exact keeps_next (h.unshown law (by simp [Machine.unshown]))
  | transmitDone => exact keeps_next (h.unshown law (by simp [Machine.unshown]))
  | keepaliveCloseTime => exact keeps_next (h.unshown law (by simp [Machine.unshown]))
  | imageSaveComplete crcMatches => exact keeps_next (h.unshown law (by simp [Machine.unshown]))
  | relayAnswerPlaced => exact keeps_next (h.unshown law (by simp [Machine.unshown]))
  | resetHard tag | resetSoft tag | keepalive tag | statusSummary tag part | statusNode tag entry
  | statusZone tag zone | statusCapacity tag part | statusRide tag part | statusLeak tag part
  | statusSequencer tag part | statusSegment tag segment | statusQueues tag part | flagTake tag flags
  | tableLoad tag table start count | tableData tag payload | tableRead tag table start count
  | zoneOn tag zone | zoneOff tag zone | zoneReset tag zone | seqRun tag start count | seqStop tag
  | leakClear tag group | epoClear tag | rideRelease tag | nodeEnable tag entry
  | nodeDisable tag entry | imageSave tag | imageErase tag => exact keeps_next (h.request _ _ law)
  | relayPoll tag dest payload | relayItemRead tag dest payload | relayItemWrite tag dest payload
  | relayFeedSet tag dest payload => exact keeps_next (h.relayArrives _ law)
  | relayTimerExpiry slot => exact h.relayTimerExpiry slot law
  | pollTimerExpiry segment => exact keeps_next (h.onExpiry _ (fun _ => h.pollExpired _) law)
  | sendComplete segment => exact keeps_next (h.unshown law (by simp [Machine.unshown]))
  | readbackMismatch segment index => exact keeps_next (h.readbackDiffers _ _ law)
  | replyFirstByte segment => exact keeps_next (h.unshown law (by simp [Machine.unshown]))
  | replyWindowExpiry segment => exact h.replyWindowExpiry segment law
  | replyComplete segment bytes => exact keeps_next (h.replyArrived _ _ law)
  | replySilence segment => exact keeps_next (h.replyBroken _ law)
  | loadWindowExpiry =>
    exact keeps_next (h.onExpiry_shown _ (hidden fun _ => by simp [Machine.unshown]) law)
  | graceTimerExpiry => exact keeps_next (h.onExpiry_shown _ shown_graceExpired law)
  | stepTimerExpiry =>
    exact keeps_next (h.onExpiry_shown _ (hidden fun _ => by simp [Machine.unshown]) law)
  | channelConfirmExpiry channel =>
    exact keeps_next (h.onExpiry_shown _ (hidden fun _ => by simp [Machine.unshown]) law)
  | chatterTimerExpiry =>
    exact keeps_next (h.onExpiry_shown _ (hidden fun _ => by simp [Machine.unshown]) law)
  | beaconTimerExpiry =>
    exact keeps_next (h.onExpiry_shown _ (hidden fun _ => by simp [Machine.unshown]) law)
  | inrushTimerExpiry zone => exact keeps_next (h.onExpiry_shown _ (shown_inrushExpired _) law)
  | retryTimerExpiry zone => exact keeps_next (h.onExpiry_shown _ (fun s => shown_runArbiter _) law)
  | confirmTimerExpiry => exact keeps_next (h.onExpiry _ (fun _ => h.confirm) law)
  | settleTimerExpiry => exact keeps_next (h.onExpiry _ (fun _ => h.settle) law)
  | recomputeTimerExpiry => exact keeps_next (h.onExpiry_shown _ shown_recomputeExpired law)
  | episodeWindowExpiry => exact keeps_next (h.onExpiry_shown _ (fun _ => rfl) law)
  | lineSample line drive => exact keeps_next (h.onExpiry _ (fun _ => h.sample _ drive) law)
  | capacityShedTaken =>
    exact keeps_next (h.onDelivery _ _ (fun zones s => (shown_shedTaken zones s).1) law)
  | planShedTaken => exact keeps_next (h.onDelivery _ _ (fun zones s => (shown_shedTaken zones s).2) law)
  | capacityShedCompletion => exact keeps_next (h.onDelivery _ _ (fun _ => shown_capacityShedDone) law)
  | planShedCompletion => exact keeps_next (h.onDelivery _ _ (fun _ _ => rfl) law)
  | capacityDelivery receiver => exact h.capacityDelivery receiver law
  | energyFigureDelivery receiver => exact h.energyFigureDelivery receiver law
  | seqZoneQueueRequest =>
    exact keeps_next (h.onDelivery _ _ (fun ask s => shown_seqQueueRequest ask.zone s) law)
  | seqZoneAnswer =>
    exact keeps_next (h.onDelivery _ _ (fun _ => hidden fun _ => by simp [Machine.unshown]) law)
  | zoneStateDelivery =>
    exact keeps_next (h.onDelivery _ _ (fun _ => hidden fun _ => by simp [Machine.unshown]) law)
  | sequencerRideNotice =>
    exact keeps_next (h.onDelivery _ _ (fun _ => hidden fun _ => by simp [Machine.unshown]) law)
  | epoFailNotice => exact (h.counted law).1
  | autostart => exact (h.counted law).2
  | capacityRideNotice =>
    refine keeps_next (h.onDelivery _ _ (fun normal s => ?_) law)
    cases normal
    · exact shown_suspendCapacity s
    · exact shown_resumeCapacity s
  | rideDeliveryZone => exact keeps_next (h.rideDelivery law)
  | bridgingInrushShed => exact keeps_next (h.inrushShed law)
  | leakGroupDelivery =>
    exact keeps_next (h.onDelivery _ _ (fun news s => shown_takeGroupNews s news) law)
  | linkStateDelivery => exact keeps_next (h.onDelivery _ _ shown_takeLinkNews law)

/-- A step keeps such a law, where a reset does: the command at the front of the queue is carried out, or
1 ms passes. -/
theorem step (h : Inspected P) (law : P s)
    (cold : ∀ kind rest, P (coldReset kind { s with pending := rest }))
    (warm : ∀ rest, P (warmReset { s with pending := rest })) : Keeps P (step s) := by
  unfold Machine.step
  split
  · exact keeps_next (h.same law rfl)
  next c rest _ =>
    exact h.exec c (h.same (t := { s with pending := rest }) law rfl) (fun kind => cold kind rest) (warm rest)

end Inspected

end Sys2Proof.Machine


namespace Sys2Proof.Machine

/-! ## The law of the node records (R21, R25, R31) -/

/-- R25, R31: the law of one entry in use: DISABLED just when its service field says so, and its slots
cleared in UNSEEN, LOST and DISABLED. -/
def LawfulEntry (c : NodeCfg) (r : NodeRun) : Prop :=
  (r.state = .disabled ↔ c.service = .disabled) ∧
    (r.state = .unseen ∨ r.state = .lost ∨ r.state = .disabled →
      r.slots = Vector.replicate 24 Slot.clear)

theorem nodeCfg_congr {s t : State} (h : t.tables.nodes = s.tables.nodes) (k : Nat) :
    nodeCfg t k = nodeCfg s k := by
  simp [nodeCfg, h]

theorem nodeLaw_congr {s t : State} (law : NodeLaw s) (configs : t.tables.nodes = s.tables.nodes)
    (nodes : t.nodes = s.nodes) : NodeLaw t := by
  intro k hk
  rw [nodeCfg_congr configs, nodeAt_congr nodes]
  exact law k hk

/-- What touches neither the tables nor the records keeps the law. -/
theorem nodeLaw_of_erase {bs : List Block} {s t : State} (law : NodeLaw s) (h : erase bs t = erase bs s)
    (away : Block.tables ∉ bs ∧ Block.nodes ∉ bs) : NodeLaw t := by
  have tables : t.tables = s.tables := touches_of_erase h .tables away.1
  exact nodeLaw_congr law (congrArg Tables.nodes tables) (touches_of_erase h .nodes away.2)

theorem nodeLaw_modNode {k : Nat} {f : NodeRun → NodeRun} {s : State} (law : NodeLaw s)
    (hf : (nodeCfg s k).inUse = true → LawfulEntry (nodeCfg s k) (nodeAt s k) →
      LawfulEntry (nodeCfg s k) (f (nodeAt s k))) : NodeLaw (modNode k f s) := by
  intro j hj inUse
  rw [nodeAt_modNode]
  split
  next h => obtain ⟨rfl, -⟩ := h; exact hf inUse (law k hj inUse)
  · exact law j hj inUse

/-! ### Entering a state (R25) -/

theorem lawful_enterNodeState {c : NodeCfg} {x : NodeState} {r : NodeRun}
    (h : x = .disabled ↔ c.service = .disabled) : LawfulEntry c (enterNodeState x r) := by
  cases x <;> simp_all [LawfulEntry, enterNodeState]

theorem service_enabled {c : NodeCfg} {r : NodeRun} (law : LawfulEntry c r) (h : r.state ≠ .disabled) :
    c.service ≠ .disabled := fun service => h (law.1.mpr service)

theorem tables_changeNode (k : Nat) (x : NodeState) (cause : NodeCause) (s : State) :
    (changeNode k x cause s).tables = s.tables :=
  touches_of_erase (bs := [.port, .segs, .nodes, .cap, .zc, .ride, .leak, .mail]) (by simp) .tables
    (by decide)

theorem nodeLaw_changeNode {k : Nat} {x : NodeState} (cause : NodeCause) {s : State}
    (others : ∀ j < 48, j ≠ k → (nodeCfg s j).inUse = true → LawfulEntry (nodeCfg s j) (nodeAt s j))
    (service : k < 48 → (nodeCfg s k).inUse = true →
      (x = .disabled ↔ (nodeCfg s k).service = .disabled)) : NodeLaw (changeNode k x cause s) := by
  intro j hj
  rw [nodeCfg_congr (congrArg Tables.nodes (tables_changeNode k x cause s)),
    nodeAt_congr (changeNode_nodes k x cause s), nodeAt_modNode]
  intro inUse
  split
  next h => obtain ⟨rfl, -⟩ := h; exact lawful_enterNodeState (service hj inUse)
  next h => exact others j hj (fun same => h ⟨same.symm, hj⟩) inUse

/-- R31: the entry takes the state that its service field, set with it, says. -/
theorem nodeLaw_setService {k : Nat} {service : Service} {x : NodeState} {s u : State} (law : NodeLaw s)
    (nodes : u.nodes = s.nodes) (tables : u.tables = (setService k service s).tables)
    (h : x = .disabled ↔ service = .disabled) : NodeLaw (changeNode k x .request u) := by
  have config (j : Nat) : nodeCfg u j = nth (put s.tables.nodes k
      { nodeCfg s k with service := service }) j := by
    rw [nodeCfg, tables]
    rfl
  refine nodeLaw_changeNode _ (fun j hj other => ?_) fun hk _ => ?_
  · rw [config, nth_put_of_ne _ _ other.symm, nodeAt_congr nodes]
    exact law j hj
  · rw [config, nth_put_self _ _ _ hk]
    exact h

/-! ### The events of the Frame Inspector -/

theorem nodeLaw_lose (k : Nat) {s : State} (law : NodeLaw s) : NodeLaw (loseEntry s k) := by
  unfold loseEntry
  dsimp only
  split
  · exact law
  next h =>
    have enabled : (nodeAt s k).state ≠ .disabled := by
      intro disabled
      simp [disabled] at h
    refine nodeLaw_changeNode _ (fun j hj _ => law j hj) fun hk inUse => ?_
    simpa using service_enabled (law k hk inUse) enabled

theorem nodeLaw_miss (k : Nat) {s : State} (law : NodeLaw s) : NodeLaw (countMiss k s) := by
  unfold countMiss
  dsimp only
  split
  · exact law
  next h =>
    have counted (n : Nat) : NodeLaw (modNode k (fun r => { r with misses := n }) s) :=
      nodeLaw_modNode law fun _ entry => entry
    split
    · refine nodeLaw_changeNode _ (fun j hj _ => counted _ j hj) fun hk inUse => ?_
      have enabled : (nodeAt s k).state ≠ .disabled := by
        intro disabled
        simp [disabled] at h
      exact ⟨nofun, fun service => absurd service (service_enabled (law k hk inUse) enabled)⟩
    · exact counted _

/-- R28: a cleared slot ages to itself. -/
theorem map_ageSlot_clear :
    (Vector.replicate 24 Slot.clear).map ageSlot = Vector.replicate 24 Slot.clear := by
  rw [Vector.map_replicate]
  rfl

theorem nodeAt_ageItems (i : Nat) (s : State) {k : Nat} (hk : k < 48) : nodeAt (ageItems i s) k =
    if agesOn s i k then { nodeAt s k with slots := (nodeAt s k).slots.map ageSlot } else nodeAt s k :=
  nth_tabulate _ k hk

theorem nodeLaw_age (i : Nat) {s : State} (law : NodeLaw s) : NodeLaw (ageItems i s) := by
  intro k hk inUse
  obtain ⟨service, cleared⟩ := law k hk inUse
  rw [nodeAt_ageItems i s hk]
  split
  · refine ⟨service, fun state => ?_⟩
    show (nodeAt s k).slots.map ageSlot = _
    rw [cleared state]
    exact map_ageSlot_clear
  · exact ⟨service, cleared⟩

/-- R24, R26: an applied reply leaves its entry ACTIVE or DEGRADED. -/
theorem settled_state {k : Nat} (hk : k < 48) (kind : Byte) (payload : List Byte) {s : State}
    (enabled : (nodeAt s k).state ≠ .disabled) :
    (nodeAt (settled k kind payload s) k).state = .active ∨
      (nodeAt (settled k kind payload s) k).state = .degraded := by
  unfold settled settleNode
  dsimp only
  rw [nodeAt_modNode, if_pos ⟨rfl, hk⟩]
  dsimp only
  split
  · split
    · exact .inr rfl
    · exact .inl rfl
  · cases state : (nodeAt s k).state <;> simp_all

theorem inspectReply_state {k : Nat} (hk : k < 48) (kind : Byte) (payload : List Byte) (poll : Bool)
    {stale : Bool} {s : State} (applies : Applies k stale s) :
    let t := inspectReply k kind payload poll stale s
    (nodeAt t k).state = .active ∨ (nodeAt t k).state = .degraded := by
  have said : (nodeAt (announced k kind payload s) k).state = .active ∨
      (nodeAt (announced k kind payload s) k).state = .degraded := by
    rw [nodeAt_congr (announced_nodes k kind payload s)]
    exact settled_state hk kind payload applies.2.2
  dsimp only
  rw [inspectReply_of_applies applies]
  split
  · rw [(makeReport_node k _ _).2.1]
    exact said
  · exact said

theorem nodeLaw_reply (k : Nat) (kind : Byte) (payload : List Byte) (poll stale : Bool) {s : State}
    (law : NodeLaw s) : NodeLaw (inspectReply k kind payload poll stale s) := by
  rcases applies_or_unapplied k stale s with applies | unapplied
  case inr => rw [inspectReply_of_unapplied unapplied]; exact law
  intro j hj
  rw [nodeCfg_congr (congrArg Tables.nodes ((Works.refl s).inspectReply k kind payload poll stale).tables)]
  intro inUse
  by_cases same : j = k
  · subst same
    have enabled := service_enabled (law j hj inUse) applies.2.2
    rcases inspectReply_state hj kind payload poll applies with state | state <;>
      simp [state, enabled]
  · rw [othersKeep_inspectReply k kind payload poll stale s j same]
    exact law j hj inUse

/-! ### Table writes, line samples and resets -/

theorem lawful_writtenRun {c : NodeCfg} (inUse : c.inUse = true) : LawfulEntry c (writtenRun c) := by
  unfold writtenRun
  rw [if_pos inUse]
  refine lawful_enterNodeState ?_
  cases h : c.service <;> simp [writtenState, h]

/-- R22: what a NODE write leaves of the records and of their table. -/
theorem takeNodeWrite_leaves (k : Nat) (c : NodeCfg) (s : State) :
    (takeNodeWrite k c s).nodes = put s.nodes k (writtenRun c) ∧
      (takeNodeWrite k c s).tables = { s.tables with nodes := put s.tables.nodes k c } := by
  have touches := touches_of_erase (bs := [.port, .segs, .cap, .zc, .ride, .leak, .mail])
    (s := { s with
      tables := { s.tables with nodes := put s.tables.nodes k c }
      nodes := put s.nodes k (writtenRun c) }) (t := takeNodeWrite k c s)
    (by simp only [takeNodeWrite]; repeat' split
        all_goals simp)
  exact ⟨touches .nodes (by decide), touches .tables (by decide)⟩

theorem nodeLaw_write (k : Nat) (c : NodeCfg) {s : State} (law : NodeLaw s) :
    NodeLaw (takeNodeWrite k c s) := by
  obtain ⟨nodes, tables⟩ := takeNodeWrite_leaves k c s
  intro j hj
  have config : nodeCfg (takeNodeWrite k c s) j = nth (put s.tables.nodes k c) j := by
    rw [nodeCfg, tables]
  have record : nodeAt (takeNodeWrite k c s) j = nth (put s.nodes k (writtenRun c)) j := by
    rw [nodeAt, nodes]
  rw [config, record]
  by_cases same : k = j
  · subst same
    rw [nth_put_self _ _ _ hj, nth_put_self _ _ _ hj]
    exact lawful_writtenRun
  · rw [nth_put_of_ne _ _ same, nth_put_of_ne _ _ same]
    exact law j hj

theorem nodeLaw_setting {k : Nat} (v : Nat) {s : State} (other : k ∉ enableSettings) (law : NodeLaw s) :
    NodeLaw (writeSetting k v s) := by
  have stored : NodeLaw { s with tables := { s.tables with settings := settingsAfter k v s } } :=
    nodeLaw_congr law rfl rfl
  rw [writeSetting_eq]
  split
  · exact stored
  unfold settingWritten
  split
  case h_1 | h_2 | h_3 | h_4 => exact absurd (by decide) other
  case h_13 => exact stored
  all_goals
    exact nodeLaw_of_erase (bs := [.port, .segs, .cap, .zc, .ride, .leak, .mail]) stored (by simp) (by decide)

theorem nodeLaw_line (i : Nat) (c : LineCfg) {s : State} (law : NodeLaw s) : NodeLaw (writeLine i c s) := by
  have touches := touches_of_erase (bs := [.port, .segs, .cap, .zc, .ride, .leak, .lines, .mail])
    (s := { s with tables := { s.tables with lines := put s.tables.lines i (clampLine i c) } })
    (t := writeLine i c s)
    (by simp only [writeLine]; repeat' split
        all_goals simp)
  have tables : (writeLine i c s).tables = { s.tables with lines := put s.tables.lines i (clampLine i c) } :=
    touches .tables (by decide)
  exact nodeLaw_congr law (by rw [tables]) (touches .nodes (by decide))

theorem nodeLaw_blocksReset (k : Kept) (s : State) : NodeLaw (blocksReset k s) := by
  intro j hj inUse
  have record : nodeAt (blocksReset k s) j = writtenRun (nodeCfg s j) := nth_tabulate _ j hj
  rw [record]
  exact lawful_writtenRun inUse

theorem erase_restart (particulars : List Byte) (s : State) :
    erase [.port, .leak, .mail] (restart particulars s) = erase [.port, .leak, .mail] s := by
  simp [restart, leakSettled]

theorem nodeLaw_restart (particulars : List Byte) (k : Kept) (s : State) :
    NodeLaw (restart particulars (blocksReset k s)) :=
  nodeLaw_of_erase (nodeLaw_blocksReset k s) (erase_restart _ _) (by decide)

theorem nodeLaw_coldReset (kind : ResetKind) (s : State) : NodeLaw (coldReset kind s) := by
  unfold coldReset
  dsimp only
  refine nodeLaw_of_erase (bs := [.port, .seq, .mail]) ?_ (erase_tryAutostart _ (by decide) (by decide)
    (by decide)) (by decide)
  split
  · exact nodeLaw_restart _ _ _
  · exact nodeLaw_of_erase (nodeLaw_restart _ _ _) (bs := [.port]) (erase_raiseImage _ _ (by decide))
      (by decide)

theorem nodeLaw_warmReset (s : State) : NodeLaw (warmReset s) := by
  unfold warmReset
  dsimp only
  split
  · exact nodeLaw_of_erase (nodeLaw_restart _ _ _) (bs := [.port]) (erase_raiseImage _ _ (by decide))
      (by decide)
  · exact nodeLaw_restart _ _ _

/-! ### The law over one step -/

theorem inspected_nodeLaw : Inspected NodeLaw where
  same law h := nodeLaw_congr law (congrArg Shown.configs h) (congrArg Shown.nodes h)
  reply k kind payload poll stale _ := nodeLaw_reply k kind payload poll stale
  miss k _ := nodeLaw_miss k
  age i _ := nodeLaw_age i
  lose k _ := nodeLaw_lose k
  disable law := nodeLaw_setService law rfl rfl (by decide)
  enable law := nodeLaw_setService law rfl rfl (by decide)
  write _ := nodeLaw_write _ _
  setting v _ := nodeLaw_setting v
  line i c _ := nodeLaw_line i c
  sample i drive _ law := nodeLaw_of_erase
    (bs := [.free, .port, .segs, .cap, .zc, .ride, .leak, .lines, .mail]) law (by simp) (by decide)
  confirm law := nodeLaw_of_erase (bs := [.port, .ride, .leak, .mail]) law (by simp) (by decide)
  settle law := nodeLaw_of_erase (bs := [.port, .ride, .leak, .mail]) law (by simp) (by decide)

/-- Settles O6: each event of the Frame Inspector, and each write and reset, leaves every entry in use
lawful; the rest of a step touches no record. -/
theorem stepKeepsNodeRecords : Obligations.StepKeepsNodeRecords := by
  unfold Obligations.StepKeepsNodeRecords
  intro s t law h
  exact inspected_nodeLaw.step law (fun kind _ => nodeLaw_coldReset kind _) (fun _ => nodeLaw_warmReset _) t h

end Sys2Proof.Machine


namespace Sys2Proof.Machine

/-! ## The law of the figures, on what is shown (R39, R40, R46, R47, R111, R112, R119) -/

namespace Shown

/-- The in-use entry of kind `kind` stands in ACTIVE. -/
def activeOf (v : Shown) (kind : NodeKind) (k : Nat) : Bool :=
  (nth v.configs k).inUse && (nth v.configs k).kind == kind && (nth v.nodes k).state == .active

/-- R46: the rectifier contributes. -/
def contributes (v : Shown) (k : Nat) : Bool :=
  v.activeOf .rectifier k && reading (nth v.nodes k) 0 0 == 0

/-- R46: what a contributing rectifier gives. -/
def contribution (v : Shown) (k : Nat) : Nat :=
  min (nth v.configs k).rated (reading (nth v.nodes k) 3 (nth v.configs k).rated)

/-- R111: the rectifier's input counts as lost. -/
def lost (v : Shown) (k : Nat) : Bool := v.activeOf .rectifier k && reading (nth v.nodes k) 0 0 != 0

/-- R119: the copy of a battery entry. -/
def copy (v : Shown) (k : Nat) : BatteryCopy :=
  if v.activeOf .battery k then ⟨true, reading (nth v.nodes k) 6 0, reading (nth v.nodes k) 7 0⟩
  else ⟨false, 0, 0⟩

/-- The contributing entries, by index ascending. -/
def contributing (v : Shown) : List Nat := (List.range 48).filter v.contributes

/-- R119: the copies that are ACTIVE. -/
def activeCopies (v : Shown) : List BatteryCopy := v.copies.toList.filter (fun c => c.active)

/-- R111: the enabled AC-sense line reads LOST. -/
def lineLost (v : Shown) (i : Nat) : Bool :=
  (nth v.lines i).accepted == some (nth v.lineConfigs i).active

/-- R111: the line part. -/
def line (v : Shown) : Bool :=
  let enabled := [0, 1].filter fun i => (nth v.lineConfigs i).enable
  !enabled.isEmpty && enabled.all v.lineLost

/-- R111: the rectifier part. -/
def rect (v : Shown) : Bool := decide (v.quorum ≤ (v.lostInput.toList.filter id).length)

/-- R46, R47: the figures of available power. -/
structure Powered (v : Shown) : Prop where
  count : v.count = v.contributing.length
  available : v.available = availableOf v.reserve (v.contributing.map v.contribution)

/-- R119: the figures of the battery copies. -/
structure Charged (v : Shown) : Prop where
  batteries : v.batteries = v.activeCopies.length
  eSum : v.eSum = (v.activeCopies.map (fun c => c.energy)).sum
  pCap : v.pCap = (v.activeCopies.map (fun c => c.limit)).sum
  energy : v.energy = energyFigure v.fraction v.efficiency v.eSum

/-- R112, R113: the indication holds in SUSPECT and BRIDGING alone. -/
def Rides (v : Shown) : Prop := v.indication = true ↔ v.state = .suspect ∨ v.state = .bridging

/-- R111, R112: the indication and its two parts. -/
structure Indicated (v : Shown) : Prop where
  line : v.linePart = v.line
  rect : v.rectPart = v.rect
  either : v.indication = (v.linePart || v.rectPart)
  rides : v.Rides

/-- The law of the figures, but for what the consumers of kind `kind` have not been told of entry `k`. -/
structure Apart (kind : NodeKind) (k : Nat) (v : Shown) : Prop where
  powered : kind ≠ .rectifier → v.Powered
  lost : ∀ j < 48, (kind = .rectifier → j ≠ k) → nth v.lostInput j = v.lost j
  copies : ∀ j < 48, (kind = .battery → j ≠ k) → nth v.copies j = v.copy j
  charged : v.Charged
  indicated : v.Indicated

/-- The law of the figures. -/
structure Lawful (v : Shown) : Prop where
  powered : v.Powered
  lost : ∀ j < 48, nth v.lostInput j = v.lost j
  copies : ∀ j < 48, nth v.copies j = v.copy j
  charged : v.Charged
  indicated : v.Indicated

theorem Lawful.apart {v : Shown} (h : v.Lawful) (kind : NodeKind) (k : Nat) : v.Apart kind k :=
  ⟨fun _ => h.powered, fun j hj _ => h.lost j hj, fun j hj _ => h.copies j hj, h.charged, h.indicated⟩

theorem Apart.lawful {v : Shown} {kind : NodeKind} {k : Nat} (h : v.Apart kind k)
    (rectifier : kind ≠ .rectifier) (battery : kind ≠ .battery) : v.Lawful :=
  ⟨h.powered rectifier, fun j hj => h.lost j hj fun same => absurd same rectifier,
    fun j hj => h.copies j hj fun same => absurd same battery, h.charged, h.indicated⟩

end Shown

/-- The law of the figures reads only what is shown. -/
theorem figuresLaw_iff (s : State) : FiguresLaw s ↔ (shown s).Lawful := by
  constructor
  · rintro ⟨count, available, lost, copies, batteries, eSum, pCap, energy, line, rect, either, rides⟩
    exact ⟨⟨count, available⟩, lost, copies, ⟨batteries, eSum, pCap, energy⟩, ⟨line, rect, either, rides⟩⟩
  · rintro ⟨⟨count, available⟩, lost, copies, ⟨batteries, eSum, pCap, energy⟩, ⟨line, rect, either, rides⟩⟩
    exact ⟨count, available, lost, copies, batteries, eSum, pCap, energy, line, rect, either, rides⟩

namespace Shown

/-! ### A change of records or of their table -/

/-- What an entry gives to available power and to the lost inputs is the same. -/
structure SameRectifier (v w : Shown) (k : Nat) : Prop where
  contributes : w.contributes k = v.contributes k
  contribution : v.contributes k = true → w.contribution k = v.contribution k
  lost : w.lost k = v.lost k

theorem sameRectifier_of_inactive {v w : Shown} {k : Nat} (before : v.activeOf .rectifier k = false)
    (after : w.activeOf .rectifier k = false) : SameRectifier v w k := by
  constructor <;> simp [Shown.contributes, Shown.lost, before, after]

theorem copy_of_inactive {v : Shown} {k : Nat} (h : v.activeOf .battery k = false) :
    v.copy k = ⟨false, 0, 0⟩ := by
  simp [copy, h]

theorem powered_of_same {v w : Shown} (h : v.Powered) (count : w.count = v.count)
    (available : w.available = v.available) (reserve : w.reserve = v.reserve)
    (same : ∀ k < 48, SameRectifier v w k) : w.Powered := by
  have contributing : w.contributing = v.contributing :=
    List.filter_congr fun k hk => (same k (List.mem_range.mp hk)).contributes
  have given : w.contributing.map w.contribution = v.contributing.map v.contribution := by
    rw [contributing]
    refine List.map_congr_left fun k hk => ?_
    obtain ⟨hk, gives⟩ := List.mem_filter.mp hk
    exact (same k (List.mem_range.mp hk)).contribution gives
  exact ⟨by rw [count, contributing, h.count], by rw [available, reserve, given, h.available]⟩

/-- What is left of the law when records, or their table, change: the figures of an entry that gives what it
gave stand. -/
theorem Lawful.change {v : Shown} (h : v.Lawful) (configs : Vector NodeCfg 48) (nodes : Vector NodeRun 48)
    {kind : NodeKind} {k : Nat}
    (rectifier : ∀ j < 48, (kind = .rectifier → j ≠ k) →
      SameRectifier v { v with configs := configs, nodes := nodes } j)
    (battery : ∀ j < 48, (kind = .battery → j ≠ k) →
      Shown.copy { v with configs := configs, nodes := nodes } j = v.copy j) :
    Apart kind k { v with configs := configs, nodes := nodes } where
  powered other := powered_of_same h.powered rfl rfl rfl fun j hj =>
    rectifier j hj fun same => absurd same other
  lost j hj other := (h.lost j hj).trans (rectifier j hj other).lost.symm
  copies j hj other := (h.copies j hj).trans (battery j hj other).symm
  charged := ⟨h.charged.batteries, h.charged.eSum, h.charged.pCap, h.charged.energy⟩
  indicated := ⟨h.indicated.line, h.indicated.rect, h.indicated.either, h.indicated.rides⟩

/-- An entry with the same use, kind and rated power, the same state and the same readings gives the same. -/
structure SameEntry (v w : Shown) (k : Nat) : Prop where
  inUse : (nth w.configs k).inUse = (nth v.configs k).inUse
  kind : (nth w.configs k).kind = (nth v.configs k).kind
  rated : (nth w.configs k).rated = (nth v.configs k).rated
  state : (nth w.nodes k).state = (nth v.nodes k).state
  readings : ∀ code < 24, ∀ absent, reading (nth w.nodes k) code absent = reading (nth v.nodes k) code absent

theorem SameEntry.activeOf {v w : Shown} {k : Nat} (h : SameEntry v w k) (kind : NodeKind) :
    w.activeOf kind k = v.activeOf kind k := by
  simp only [Shown.activeOf, h.inUse, h.kind, h.state]

theorem SameEntry.rectifier {v w : Shown} {k : Nat} (h : SameEntry v w k) : SameRectifier v w k := by
  have input := h.readings 0 (by decide) 0
  have rating := h.readings 3 (by decide)
  constructor <;> simp [Shown.contributes, Shown.contribution, Shown.lost, h.activeOf, h.rated, input, rating]

theorem SameEntry.copy {v w : Shown} {k : Nat} (h : SameEntry v w k) : w.copy k = v.copy k := by
  simp only [Shown.copy, h.activeOf, h.readings 6 (by decide), h.readings 7 (by decide)]

theorem sameEntry_of_same {v w : Shown} {k : Nat} (config : nth w.configs k = nth v.configs k)
    (node : nth w.nodes k = nth v.nodes k) : SameEntry v w k := by
  constructor <;> simp [config, node]

theorem Lawful.keep {v : Shown} (h : v.Lawful) (configs : Vector NodeCfg 48) (nodes : Vector NodeRun 48)
    (same : ∀ j < 48, SameEntry v { v with configs := configs, nodes := nodes } j) :
    Lawful { v with configs := configs, nodes := nodes } :=
  (h.change configs nodes (kind := .feed) (k := 0) (fun j hj _ => (same j hj).rectifier)
    fun j hj _ => (same j hj).copy).lawful (by decide) (by decide)

/-! ### What the consumers make of their news -/

/-- R48: available power is recomputed. -/
def repowered (v : Shown) : Shown :=
  { v with
    count := v.contributing.length
    available := availableOf v.reserve (v.contributing.map v.contribution) }

/-- R119: the energy figures are recomputed from the copies. -/
def recharged (v : Shown) : Shown :=
  let eSum := (v.activeCopies.map (fun c => c.energy)).sum
  { v with
    eSum := eSum
    pCap := (v.activeCopies.map (fun c => c.limit)).sum
    batteries := v.activeCopies.length
    energy := energyFigure v.fraction v.efficiency eSum }

/-- R112: the indication is evaluated, and the ride-through state is then `x`. -/
def indicate (v : Shown) (x : RideState) : Shown :=
  { v with linePart := v.line, rectPart := v.rect, indication := v.line || v.rect, state := x }

theorem powered_repowered (v : Shown) : v.repowered.Powered := ⟨rfl, rfl⟩

theorem charged_recharged (v : Shown) : v.recharged.Charged := ⟨rfl, rfl, rfl, rfl⟩

end Shown

theorem min_one_beq_zero (n : Nat) : (min 1 n == 0) = (n == 0) := by
  cases n with
  | zero => rfl
  | succ n => rw [Nat.min_eq_left (Nat.le_add_left 1 n)]; rfl

theorem isContributing_eq (s : State) (k : Nat) : isContributing s k = (shown s).contributes k := by
  show (_ && _ && _ && (min 1 (reading (nodeAt s k) 0 0) == 0)) = _
  rw [min_one_beq_zero]
  rfl

theorem shown_recomputeAvailable (s : State) : shown (recomputeAvailable s) = (shown s).repowered := by
  unfold recomputeAvailable
  dsimp only
  rw [shown_tellCapacityNews, shown_evaluateCapacity]
  have contributing : contributors s = (shown s).contributing :=
    List.filter_congr fun k _ => isContributing_eq s k
  rw [contributing]
  rfl

theorem shown_recomputeEnergy (s : State) : shown (recomputeEnergy s) = (shown s).recharged := by
  unfold recomputeEnergy
  dsimp only
  split <;> rfl

/-! ### The indication (R111 to R115) -/

theorem shown_enterBridging (cause : RideCause) (s : State) :
    shown (enterBridging cause s) = { shown s with state := .bridging } := by
  have entered (t : State) : shown (modRide (fun r => { r with
      state := .bridging, confirm := .stopped, settle := .stopped }) t) =
      { shown t with state := .bridging } := rfl
  have counting (x : Elapsed) (t : State) :
      shown (modRide (fun r => { r with elapsed := x, short := false }) t) = shown t := rfl
  have restarted (x : Timer) (t : State) :
      shown (modRide (fun r => { r with recompute := x }) t) = shown t := rfl
  simp [enterBridging, raiseRideChange, tellZoneRide, entered, counting, restarted]

theorem shown_returnToNormal (cause : RideCause) (s : State) :
    shown (returnToNormal cause s) = { shown s with state := .normal } := by
  unfold returnToNormal raiseRideChange
  rw [shown_raiseFlag]
  rfl

theorem shown_leaveBridging (s : State) :
    ∃ x, (x = .normal ∨ x = .restoring) ∧ shown (leaveBridging s) = { shown s with state := x } := by
  have left (x : Elapsed) (t : State) :
      shown (modRide (fun r => { r with recompute := .stopped, elapsed := x }) t) = shown t := rfl
  unfold leaveBridging
  dsimp only
  split
  · exact ⟨.normal, .inl rfl, by rw [shown_returnToNormal, shown_setBridging, left]⟩
  · refine ⟨.restoring, .inr rfl, ?_⟩
    have settling (x : Timer) (t : State) : shown (modRide (fun r => { r with
        state := .restoring, settle := x }) t) = { shown t with state := .restoring } := rfl
    unfold raiseRideChange tellZoneRide
    rw [shown_raiseFlag, shown_modMail, settling, shown_setBridging, left]

theorem shown_indicationRises (s : State) : ∃ x : RideState, (x = .suspect ∨ x = .bridging) ∧
    shown (indicationRises s) = { shown s with state := x } := by
  unfold indicationRises
  split
  · split
    · exact ⟨.bridging, .inr rfl, shown_enterBridging _ _⟩
    · refine ⟨.suspect, .inl rfl, ?_⟩
      unfold raiseRideChange
      rw [shown_raiseFlag]
      rfl
  · exact ⟨.bridging, .inr rfl, shown_enterBridging _ _⟩
  next state => exact ⟨.suspect, .inl rfl, by rw [← state]; rfl⟩
  next state => exact ⟨.bridging, .inr rfl, by rw [← state]; rfl⟩

theorem shown_indicationFalls (s : State) : ∃ x : RideState, (x = .normal ∨ x = .restoring) ∧
    shown (indicationFalls s) = { shown s with state := x } := by
  unfold indicationFalls
  split
  · exact ⟨.normal, .inl rfl, shown_returnToNormal _ _⟩
  · exact shown_leaveBridging s
  next state => exact ⟨.normal, .inl rfl, by rw [← state]; rfl⟩
  next state => exact ⟨.restoring, .inr rfl, by rw [← state]; rfl⟩

/-- R112: the indication is evaluated, and the ride-through state follows its change. -/
theorem shown_evaluateIndication {s : State} (rides : (shown s).Rides) :
    ∃ x, shown (evaluateIndication s) = (shown s).indicate x ∧ ((shown s).indicate x).Rides := by
  have evaluated : shown (modRide (fun r => { r with
      linePart := linePartOf s, rectPart := rectPartOf s, indication := linePartOf s || rectPartOf s }) s) =
      (shown s).indicate s.ride.state := rfl
  unfold evaluateIndication
  dsimp only
  generalize modRide _ s = u at evaluated
  split
  next same =>
    refine ⟨s.ride.state, evaluated, ?_⟩
    have same : ((shown s).line || (shown s).rect) = (shown s).indication := eq_of_beq same
    unfold Shown.Rides Shown.indicate
    rw [same]
    exact rides
  split
  next new =>
    obtain ⟨x, state, rises⟩ := shown_indicationRises u
    rw [evaluated] at rises
    exact ⟨x, rises, fun _ => state, fun _ => new⟩
  next new =>
    obtain ⟨x, state, falls⟩ := shown_indicationFalls u
    rw [evaluated] at falls
    refine ⟨x, falls, fun rings => absurd rings new, fun other => ?_⟩
    rcases state with rfl | rfl <;> simp [Shown.indicate] at other

/-- The law of the figures holds after the indication is evaluated, where all but the indication did. -/
theorem lawful_evaluateIndication {s : State} (powered : (shown s).Powered)
    (lost : ∀ j < 48, nth (shown s).lostInput j = (shown s).lost j)
    (copies : ∀ j < 48, nth (shown s).copies j = (shown s).copy j) (charged : (shown s).Charged)
    (rides : (shown s).Rides) : (shown (evaluateIndication s)).Lawful := by
  obtain ⟨x, eq, follows⟩ := shown_evaluateIndication rides
  rw [eq]
  exact ⟨⟨powered.count, powered.available⟩, lost, copies,
    ⟨charged.batteries, charged.eSum, charged.pCap, charged.energy⟩, ⟨rfl, rfl, rfl, follows⟩⟩

/-! ### The consumers are told (R39, R40) -/

theorem lawful_takeRectifier {k : Nat} {counted : Bool} {s : State} (apart : (shown s).Apart .rectifier k)
    (powered : (shown s).Powered) (told : counted = (shown s).lost k) :
    (shown (takeRectifier k counted s)).Lawful := by
  refine lawful_evaluateIndication ⟨powered.count, powered.available⟩ (fun j hj => ?_)
    (fun j hj => apart.copies j hj nofun)
    ⟨apart.charged.batteries, apart.charged.eSum, apart.charged.pCap, apart.charged.energy⟩
    apart.indicated.rides
  show nth (put s.ride.lostInput k counted) j = (shown s).lost j
  by_cases same : k = j
  · subst same
    rw [nth_put_self _ _ _ hj]
    exact told
  · rw [nth_put_of_ne _ _ same]
    exact apart.lost j hj fun _ => Ne.symm same

theorem lawful_takeBattery {k : Nat} {copy : BatteryCopy} {s : State} (apart : (shown s).Apart .battery k)
    (told : copy = (shown s).copy k) : (shown (takeBattery k copy s)).Lawful := by
  have recharged := shown_recomputeEnergy (modRide (fun r => { r with copies := put r.copies k copy }) s)
  have taken : (shown (recomputeEnergy
      (modRide (fun r => { r with copies := put r.copies k copy }) s))).Lawful := by
    rw [recharged]
    have powered := apart.powered nofun
    obtain ⟨line, rect, either, rides⟩ := apart.indicated
    refine ⟨⟨powered.count, powered.available⟩, fun j hj => apart.lost j hj nofun, fun j hj => ?_,
      Shown.charged_recharged _, ⟨line, rect, either, rides⟩⟩
    show nth (put s.ride.copies k copy) j = (shown s).copy j
    by_cases same : k = j
    · subst same
      rw [nth_put_self _ _ _ hj]
      exact told
    · rw [nth_put_of_ne _ _ same]
      exact apart.copies j hj fun _ => Ne.symm same
  unfold takeBattery
  dsimp only
  split
  · rw [shown_evaluatePlan]
    exact taken
  · exact taken

theorem Shown.Apart.repowered {v : Shown} {kind : NodeKind} {k : Nat} (h : v.Apart kind k) :
    v.repowered.Apart kind k :=
  ⟨fun _ => v.powered_repowered, h.lost, h.copies,
    ⟨h.charged.batteries, h.charged.eSum, h.charged.pCap, h.charged.energy⟩,
    ⟨h.indicated.line, h.indicated.rect, h.indicated.either, h.indicated.rides⟩⟩

/-- R39, R40: once the consumers of the kind are told of the entry's state, the law holds. -/
theorem lawful_tellConsumers {k : Nat} {kind : NodeKind} {x : Option NodeState} {s : State}
    (apart : (shown s).Apart kind k) (active : isActive x = (shown s).activeOf kind k) :
    (shown (tellConsumers k kind x s)).Lawful := by
  cases kind with
  | rectifier =>
    have recomputed := shown_recomputeAvailable s
    refine lawful_takeRectifier (by rw [recomputed]; exact apart.repowered)
      (by rw [recomputed]; exact Shown.powered_repowered _) ?_
    rw [recomputed, active]
    have flag (n : Nat) : (min 1 n == 1) = (n != 0) := by
      cases n with
      | zero => rfl
      | succ n => rw [Nat.min_eq_left (Nat.le_add_left 1 n)]; rfl
    have input : (inStateReading (nodeAt s k) == 1) = (reading (nodeAt s k) 0 0 != 0) := flag _
    rw [input]
    rfl
  | battery =>
    refine lawful_takeBattery apart ?_
    unfold batteryCopy
    rw [active]
    rfl
  | feed =>
    show (shown (runArbiter s)).Lawful
    rw [shown_runArbiter]
    exact apart.lawful nofun nofun
  | leak =>
    have quiet : shown (tellConsumers k .leak x s) = shown s :=
      shown_of_erase (by simp [tellConsumers, unshown])
    rw [quiet]
    exact apart.lawful nofun nofun

end Sys2Proof.Machine


namespace Sys2Proof.Machine

/-! ## The law of the figures, event by event -/

/-- What touches only the records, and blocks that show nothing, shows the same but for the records. -/
theorem shown_records {s t : State} (h : erase (.nodes :: unshown) t = erase (.nodes :: unshown) s) :
    shown t = { shown s with nodes := t.nodes } := by
  have touches := touches_of_erase h
  have tables : t.tables = s.tables := touches .tables (by decide)
  have lines : t.lines = s.lines := touches .lines (by decide)
  have cap : t.cap = s.cap := touches .cap (by decide)
  have ride : t.ride = s.ride := touches .ride (by decide)
  simp [shown, reserveCount, lossQuorum, reserveFraction, efficiency, setting, tables, lines, cap, ride]

theorem Shown.activeOf_of_unused {v : Shown} {k : Nat} (h : (nth v.configs k).inUse = false)
    (kind : NodeKind) : v.activeOf kind k = false := by
  simp [Shown.activeOf, h]

theorem Shown.activeOf_of_state {v : Shown} {k : Nat} (h : (nth v.nodes k).state ≠ .active)
    (kind : NodeKind) : v.activeOf kind k = false := by
  simp [Shown.activeOf, h]

theorem Shown.activeOf_of_kind {v : Shown} {k : Nat} {kind : NodeKind}
    (h : (nth v.configs k).kind ≠ kind) : v.activeOf kind k = false := by
  simp [Shown.activeOf, h]

theorem state_enterNodeState (x : NodeState) (r : NodeRun) : (enterNodeState x r).state = x := by
  cases x <;> rfl

theorem nth_of_le {α : Type} {n : Nat} [Inhabited α] (v : Vector α n) {k : Nat} (h : n ≤ k) :
    nth v k = default := by
  simp [nth, h]

/-- R39, R40: an entry enters a state other than ACTIVE, its table as it was but for the service field. -/
theorem lawful_changeNode {k : Nat} {x : NodeState} (cause : NodeCause) {s u : State}
    {configs : Vector NodeCfg 48} (law : (shown s).Lawful) (inactive : x ≠ .active)
    (from_s : shown u = { shown s with configs := configs })
    (same : ∀ j < 48, Shown.SameEntry (shown s) { shown s with configs := configs } j) :
    (shown (changeNode k x cause u)).Lawful := by
  obtain ⟨nodes, hnodes⟩ : ∃ nodes, put s.nodes k (enterNodeState x (nodeAt u k)) = nodes := ⟨_, rfl⟩
  have entered : shown (modNode k (enterNodeState x) u) =
      { shown s with configs := configs, nodes := nodes } := by
    have kept : u.nodes = s.nodes := congrArg Shown.nodes from_s
    calc shown (modNode k (enterNodeState x) u)
        = { shown u with nodes := put u.nodes k (enterNodeState x (nodeAt u k)) } := rfl
      _ = _ := by rw [from_s, kept, hnodes]
  have others (j : Nat) (hj : j < 48) (other : j ≠ k) : Shown.SameEntry (shown s)
      { shown s with configs := configs, nodes := nodes } j := by
    have node : nth nodes j = nth s.nodes j := by rw [← hnodes]; exact nth_put_of_ne _ _ other.symm
    obtain ⟨inUse, kind, rated, -, -⟩ := same j hj
    exact ⟨inUse, kind, rated, congrArg NodeRun.state node,
      fun code _ absent => congrArg (fun r => reading r code absent) node⟩
  have silent (kind : NodeKind) :
      Shown.activeOf { shown s with configs := configs, nodes := nodes } kind k = false := by
    by_cases hk : k < 48
    · refine Shown.activeOf_of_state ?_ kind
      show (nth nodes k).state ≠ .active
      rw [← hnodes, nth_put_self _ _ _ hk, state_enterNodeState]
      exact inactive
    · refine Shown.activeOf_of_unused ?_ kind
      show (nth configs k).inUse = false
      rw [nth_of_le _ (Nat.le_of_not_lt hk)]
      rfl
  have config : nodeCfg u k = nth configs k := congrArg (fun v : Shown => nth v.configs k) from_s
  have elsewhere {kind : NodeKind} (hk : k < 48) (other : (nodeCfg u k).kind ≠ kind) :
      (shown s).activeOf kind k = false := by
    refine Shown.activeOf_of_kind ?_
    rw [← (same k hk).kind]
    rwa [config] at other
  have apart : (shown (modNode k (enterNodeState x) u)).Apart (nodeCfg u k).kind k := by
    rw [entered]
    refine law.change configs nodes (fun j hj other => ?_) fun j hj other => ?_
    · by_cases here : j = k
      · subst here
        exact Shown.sameRectifier_of_inactive (elsewhere hj fun kind => other kind rfl) (silent _)
      · exact (others j hj here).rectifier
    · by_cases here : j = k
      · subst here
        rw [Shown.copy_of_inactive (silent _),
          Shown.copy_of_inactive (elsewhere hj fun kind => other kind rfl)]
      · exact (others j hj here).copy
  unfold changeNode raiseNodeChange
  dsimp only
  rw [shown_raiseFlag]
  refine lawful_tellConsumers apart ?_
  rw [entered, silent]
  simp [isActive, inactive]

theorem lawful_lose (k : Nat) {s : State} (law : (shown s).Lawful) : (shown (loseEntry s k)).Lawful := by
  unfold loseEntry
  dsimp only
  split
  · exact law
  · exact lawful_changeNode .disable law nofun rfl fun _ _ => Shown.sameEntry_of_same rfl rfl

theorem lawful_setService {k : Nat} {service : Service} {x : NodeState} {s u : State}
    (law : (shown s).Lawful) (quiet : shown u = shown (setService k service s)) (inactive : x ≠ .active) :
    (shown (changeNode k x .request u)).Lawful := by
  refine lawful_changeNode .request law inactive
    (configs := put s.tables.nodes k { nodeCfg s k with service := service }) quiet fun j hj => ?_
  by_cases here : k = j
  · subst here
    have config : nth (put s.tables.nodes k { nodeCfg s k with service := service }) k =
      { nodeCfg s k with service := service } := nth_put_self _ _ _ hj
    constructor
    case inUse => exact (congrArg NodeCfg.inUse config :)
    case kind => exact (congrArg NodeCfg.kind config :)
    case rated => exact (congrArg NodeCfg.rated config :)
    all_goals intros; rfl
  · exact Shown.sameEntry_of_same (nth_put_of_ne _ _ here) rfl

/-! ### Records whose readings stay -/

/-- Records of the same state and readings keep the law. -/
theorem lawful_of_records {s t : State} (law : (shown s).Lawful)
    (h : erase (.nodes :: unshown) t = erase (.nodes :: unshown) s)
    (same : ∀ j < 48, (nodeAt t j).state = (nodeAt s j).state ∧
      ∀ code < 24, ∀ absent, reading (nodeAt t j) code absent = reading (nodeAt s j) code absent) :
    (shown t).Lawful := by
  rw [shown_records h]
  exact law.keep _ _ fun j hj => ⟨rfl, rfl, rfl, (same j hj).1, (same j hj).2⟩

theorem lawful_miss (k : Nat) {s : State} (law : (shown s).Lawful) : (shown (countMiss k s)).Lawful := by
  have counted (n : Nat) : (shown (modNode k (fun r => { r with misses := n }) s)).Lawful := by
    refine lawful_of_records law (by simp) fun j _ => ?_
    rw [nodeAt_modNode]
    split <;> exact ⟨rfl, fun _ _ _ => rfl⟩
  unfold countMiss
  dsimp only
  split
  · exact law
  split
  · exact lawful_changeNode .miss (counted _) nofun rfl fun _ _ => Shown.sameEntry_of_same rfl rfl
  · exact counted _

theorem reading_ageSlots (r : NodeRun) {code : Nat} (hc : code < 24) (absent : Nat) :
    reading { r with slots := r.slots.map ageSlot } code absent = reading r code absent := by
  have slot : nth (r.slots.map ageSlot) code = ageSlot (nth r.slots code) := by simp [nth, hc]
  unfold reading
  rw [slot]
  unfold ageSlot
  split
  · rfl
  · rfl

theorem lawful_age (i : Nat) {s : State} (law : (shown s).Lawful) : (shown (ageItems i s)).Lawful := by
  refine lawful_of_records law (by simp) fun j hj => ?_
  rw [nodeAt_ageItems i s hj]
  split
  · exact ⟨rfl, fun code hc absent => reading_ageSlots _ hc absent⟩
  · exact ⟨rfl, fun _ _ _ => rfl⟩

end Sys2Proof.Machine


namespace Sys2Proof.Machine

/-! ### Replies (R26, R39, R40) -/

/-- R26: the items that a reply of frame kind `kind` brings to an entry of kind `c`. -/
def takenItems (c : NodeKind) (kind : Byte) (payload : List Byte) : List Item :=
  if kind == telemetryByte then itemsTaken c payload else []

theorem settled_eq (k : Nat) (kind : Byte) (payload : List Byte) (s : State) : settled k kind payload s =
    settleNode k (kind == telemetryByte)
      (if (nodeAt s k).state == .unseen || (nodeAt s k).state == .lost then .active else (nodeAt s k).state)
      ((takenItems (nodeCfg s k).kind kind payload).foldl (checkItem k)
        ((takenItems (nodeCfg s k).kind kind payload).foldl (storeItem k)
          (modNode k (fun r => { r with misses := 0 }) s))) := rfl

theorem announced_eq (k : Nat) (kind : Byte) (payload : List Byte) (s : State) :
    announced k kind payload s =
      let u := replyNews k (nodeAt s k) (takenItems (nodeCfg s k).kind kind payload)
        (settled k kind payload s)
      if (nodeAt u k).state == (nodeAt s k).state then u
      else raiseNodeChange k (some (nodeAt s k).state) (some (nodeAt u k).state) .reply u := rfl

/-- R27, R34: a slot that no item of the reply names is as it was. -/
theorem slot_settled {k : Nat} (kind : Byte) (payload : List Byte) (s : State) {code : Nat} (hc : code < 24)
    (untaken : ∀ x ∈ takenItems (nodeCfg s k).kind kind payload, x.code ≠ code) :
    nth (nodeAt (settled k kind payload s) k).slots code = nth (nodeAt s k).slots code := by
  have put_other {f : NodeRun → NodeRun} (hf : ∀ r, nth (f r).slots code = nth r.slots code) (u : State) :
      nth (nodeAt (modNode k f u) k).slots code = nth (nodeAt u k).slots code := by
    rw [nodeAt_modNode]
    split
    · exact hf _
    · rfl
  have stored {x : Item} (other : x.code ≠ code) (u : State) :
      nth (nodeAt (storeItem k u x) k).slots code = nth (nodeAt u k).slots code :=
    put_other (fun _ => by rw [slot_putSlot _ _ _ hc, if_neg other]) u
  have checked {x : Item} (other : x.code ≠ code) (u : State) :
      nth (nodeAt (checkItem k u x) k).slots code = nth (nodeAt u k).slots code := by
    rw [nodeAt_congr (checkItem_nodes k u x)]
    exact put_other (fun _ => by rw [slot_putSlot _ _ _ hc, if_neg other]) u
  have fold {f : State → Item → State} (l : List Item)
      (hf : ∀ x ∈ l, ∀ u, nth (nodeAt (f u x) k).slots code = nth (nodeAt u k).slots code) (u : State) :
      nth (nodeAt (l.foldl f u) k).slots code = nth (nodeAt u k).slots code := by
    induction l generalizing u with
    | nil => rfl
    | cons x rest ih => exact (ih (fun y hy => hf y (.tail _ hy)) _).trans (hf x (.head _) u)
  have settling (x : NodeState) (u : State) :
      nth (nodeAt (modNode k (fun r => { r with state := x }) u) k).slots code =
        nth (nodeAt u k).slots code := put_other (f := fun r => { r with state := x }) (fun _ => rfl) u
  rw [settled_eq]
  exact (settling _ _).trans ((fold _ (fun x hx => checked (untaken x hx)) _).trans
    ((fold _ (fun x hx => stored (untaken x hx)) _).trans
      (put_other (f := fun r => { r with misses := 0 }) (fun _ => rfl) s)))

theorem shown_settled (k : Nat) (kind : Byte) (payload : List Byte) (s : State) :
    shown (settled k kind payload s) = { shown s with nodes := (settled k kind payload s).nodes } :=
  shown_records (by simp [settled, unshown])

theorem Shown.sameRectifier_of_figures {v w : Shown} {k : Nat} (config : w.configs = v.configs)
    (state : (nth w.nodes k).state = (nth v.nodes k).state)
    (figures : (nth v.nodes k).state = .active →
      inStateReading (nth w.nodes k) = inStateReading (nth v.nodes k) ∧
        ratingReading (nth v.configs k).rated (nth w.nodes k) =
          ratingReading (nth v.configs k).rated (nth v.nodes k)) : SameRectifier v w k := by
  have active : w.activeOf .rectifier k = v.activeOf .rectifier k := by
    simp only [activeOf, config, state]
  by_cases h : (nth v.nodes k).state = .active
  · obtain ⟨input, rating⟩ := figures h
    have good : (reading (nth w.nodes k) 0 0 == 0) = (reading (nth v.nodes k) 0 0 == 0) := by
      rw [← min_one_beq_zero, ← min_one_beq_zero (reading (nth v.nodes k) 0 0)]
      exact congrArg (· == 0) input
    have given : reading (nth w.nodes k) 3 (nth v.configs k).rated =
        reading (nth v.nodes k) 3 (nth v.configs k).rated := rating
    constructor
    case contributes => simp only [contributes, active, good]
    case contribution => intro _; simp only [contribution, config, given]
    case lost => simp only [lost, active, bne, good]
  · have silent := activeOf_of_state h .rectifier
    exact sameRectifier_of_inactive silent (active.trans silent)

theorem Shown.copy_of_readings {v w : Shown} {k : Nat} (config : w.configs = v.configs)
    (state : (nth w.nodes k).state = (nth v.nodes k).state)
    (readings : (nth v.nodes k).state = .active →
      ∀ code, code = 6 ∨ code = 7 → reading (nth w.nodes k) code 0 = reading (nth v.nodes k) code 0) :
    w.copy k = v.copy k := by
  have active : w.activeOf .battery k = v.activeOf .battery k := by simp only [activeOf, config, state]
  by_cases h : (nth v.nodes k).state = .active
  · have readings := readings h
    simp only [copy, active, readings 6 (.inl rfl), readings 7 (.inr rfl)]
  · have silent := activeOf_of_state h .battery
    rw [copy_of_inactive silent, copy_of_inactive (active.trans silent)]

section

variable {k : Nat} {s u : State}

theorem sameEntry_of_others (others : OthersKeep k s u) {j : Nat} (other : j ≠ k) :
    Shown.SameEntry (shown s) { shown s with nodes := u.nodes } j :=
  Shown.sameEntry_of_same rfl (others j other)

/-- The law holds of a state whose record of entry `k` alone has changed, where the entry gives the figures
that it gave. -/
theorem lawful_of_record (law : (shown s).Lawful)
    (records : shown u = { shown s with nodes := u.nodes }) (others : OthersKeep k s u)
    (rectifier : (shown s).SameRectifier (shown u) k) (battery : (shown u).copy k = (shown s).copy k) :
    (shown u).Lawful := by
  rw [records] at rectifier battery ⊢
  refine (law.change _ _ (kind := .feed) (k := 0) (fun j _ _ => ?_) fun j _ _ => ?_).lawful (by decide)
    (by decide)
  · by_cases here : j = k
    · subst here; exact rectifier
    · exact (sameEntry_of_others others here).rectifier
  · by_cases here : j = k
    · subst here; exact battery
    · exact (sameEntry_of_others others here).copy

/-- The law stands apart where one record has changed. -/
theorem apart_of_record (law : (shown s).Lawful)
    (records : shown u = { shown s with nodes := u.nodes }) (others : OthersKeep k s u) :
    (shown u).Apart (nodeCfg s k).kind k := by
  have elsewhere {kind : NodeKind} (other : (nodeCfg s k).kind ≠ kind) (nodes : Vector NodeRun 48) :
      Shown.activeOf { shown s with nodes := nodes } kind k = false := Shown.activeOf_of_kind other
  rw [records]
  refine law.change _ _ (fun j _ other => ?_) fun j _ other => ?_
  · by_cases here : j = k
    · subst here
      have other := fun kind => other kind rfl
      exact Shown.sameRectifier_of_inactive (elsewhere other s.nodes) (elsewhere other u.nodes)
    · exact (sameEntry_of_others others here).rectifier
  · by_cases here : j = k
    · subst here
      have other := fun kind => other kind rfl
      exact (Shown.copy_of_inactive (elsewhere other u.nodes)).trans
        (Shown.copy_of_inactive (elsewhere other s.nodes)).symm
    · exact (sameEntry_of_others others here).copy

/-- R39 to R42: the news of an applied reply bring the figures up to its record. -/
theorem lawful_replyNews (law : (shown s).Lawful)
    (records : shown u = { shown s with nodes := u.nodes }) (others : OthersKeep k s u)
    (inUse : (nodeCfg s k).inUse = true) {taken : List Item}
    (untaken : ∀ code < 24, (∀ x ∈ taken, x.code ≠ code) →
      nth (nodeAt u k).slots code = nth (nodeAt s k).slots code) :
    (shown (replyNews k (nodeAt s k) taken u)).Lawful := by
  have config : nodeCfg u k = nodeCfg s k := congrArg (fun v : Shown => nth v.configs k) records
  have configs : (shown u).configs = (shown s).configs := (congrArg Shown.configs records :)
  have told (kind : NodeKind) (hk : (nodeCfg s k).kind = kind) :
      (shown (tellConsumers k kind (some (nodeAt u k).state) u)).Lawful := by
    subst hk
    refine lawful_tellConsumers (apart_of_record law records others) ?_
    show isActive (some (nodeAt u k).state) =
      ((nodeCfg u k).inUse && (nodeCfg u k).kind == (nodeCfg s k).kind && (nodeAt u k).state == .active)
    rw [config, inUse]
    simp [isActive]
  have silent {kind : NodeKind} (other : (nodeCfg s k).kind ≠ kind) :
      (shown s).activeOf kind k = false ∧ (shown u).activeOf kind k = false :=
    ⟨Shown.activeOf_of_kind other, Shown.activeOf_of_kind (by rw [configs]; exact other)⟩
  have noRectifier (other : (nodeCfg s k).kind ≠ .rectifier) : (shown s).SameRectifier (shown u) k :=
    Shown.sameRectifier_of_inactive (silent other).1 (silent other).2
  have noBattery (other : (nodeCfg s k).kind ≠ .battery) : (shown u).copy k = (shown s).copy k :=
    (Shown.copy_of_inactive (silent other).2).trans (Shown.copy_of_inactive (silent other).1).symm
  unfold replyNews
  dsimp only
  rw [config]
  cases kind : (nodeCfg s k).kind with
  | rectifier =>
    dsimp only
    split
    · exact told _ kind
    next same =>
      simp only [Bool.or_eq_true, Bool.and_eq_true, bne_iff_ne, beq_iff_eq, ne_eq, not_or, not_and,
        Decidable.not_not] at same
      obtain ⟨state, figures⟩ := same
      refine lawful_of_record law records others (Shown.sameRectifier_of_figures configs state ?_)
        (noBattery (by rw [kind]; decide))
      exact fun active => figures (state.trans active)
  | battery =>
    dsimp only
    split
    · exact told _ kind
    next same =>
      simp only [Bool.or_eq_true, Bool.and_eq_true, bne_iff_ne, beq_iff_eq, List.any_eq_true, ne_eq, not_or,
        not_and, Decidable.not_not] at same
      obtain ⟨state, figures⟩ := same
      refine lawful_of_record law records others (noRectifier (by rw [kind]; decide))
        (Shown.copy_of_readings configs state fun active code hc => ?_)
      have none : ∀ x ∈ taken, x.code ≠ code := by
        rintro x hx rfl
        exact figures (state.trans active) ⟨x, hx, hc⟩
      have slot := untaken code (by omega) none
      show reading (nodeAt u k) code 0 = reading (nodeAt s k) code 0
      unfold reading
      rw [slot]
  | feed =>
    dsimp only
    rw [shown_foldl (shown_zoneReport k)]
    split
    · exact told _ kind
    · exact (apart_of_record law records others).lawful (by rw [kind]; decide) (by rw [kind]; decide)
  | leak =>
    have quiet : shown (takeIndications (replyIndications u k taken) u) = shown u :=
      shown_of_erase (by simp [unshown])
    dsimp only
    rw [quiet]
    exact (apart_of_record law records others).lawful (by rw [kind]; decide) (by rw [kind]; decide)

end

theorem lawful_announced {k : Nat} (kind : Byte) (payload : List Byte) {stale : Bool} {s : State}
    (applies : Applies k stale s) (law : (shown s).Lawful) :
    (shown (announced k kind payload s)).Lawful := by
  obtain ⟨-, inUse, -⟩ := applies
  have told := lawful_replyNews law (shown_settled k kind payload s) (othersKeep_settled k kind payload s)
    inUse fun code hc => slot_settled kind payload s hc
  rw [announced_eq]
  dsimp only
  split
  · exact told
  · unfold raiseNodeChange
    rw [shown_raiseFlag]
    exact told

theorem lawful_makeReport (k : Nat) (taken : List Item) {s : State} (law : (shown s).Lawful) :
    (shown (makeReport k taken s)).Lawful := by
  refine lawful_of_records law (by simp [unshown]) fun j _ => ?_
  by_cases here : j = k
  · subst here
    obtain ⟨samples, state, -⟩ := makeReport_node j taken s
    refine ⟨state, fun code hc absent => ?_⟩
    obtain ⟨present, value, -, -⟩ := samples code hc
    simp only [reading, present, value]
  · rw [othersKeep_makeReport k taken s j here]
    exact ⟨rfl, fun _ _ _ => rfl⟩

theorem lawful_reply (k : Nat) (kind : Byte) (payload : List Byte) (poll stale : Bool) {s : State}
    (law : (shown s).Lawful) : (shown (inspectReply k kind payload poll stale s)).Lawful := by
  rcases applies_or_unapplied k stale s with applies | unapplied
  · have said := lawful_announced kind payload applies law
    rw [inspectReply_of_applies applies]
    split
    · exact lawful_makeReport _ _ said
    · exact said
  · rw [inspectReply_of_unapplied unapplied]
    exact law

end Sys2Proof.Machine


namespace Sys2Proof.Machine

/-! ### NODE writes (R22) -/

theorem state_writtenRun (c : NodeCfg) : (writtenRun c).state ≠ .active := by
  unfold writtenRun
  split
  · rw [state_enterNodeState]
    unfold writtenState
    split <;> decide
  · decide

theorem tables_nodes_tellConsumers (k : Nat) (kind : NodeKind) (x : Option NodeState) (s : State) :
    (tellConsumers k kind x s).tables = s.tables ∧ (tellConsumers k kind x s).nodes = s.nodes := by
  have touches := touches_of_erase (bs := [.port, .segs, .cap, .zc, .ride, .leak, .mail])
    (s := s) (t := tellConsumers k kind x s) (by simp)
  exact ⟨touches .tables (by decide), touches .nodes (by decide)⟩

theorem lawful_tellWritten {k : Nat} {old new : NodeCfg} {s : State} (law : (shown s).Lawful)
    (silent : ∀ kind, (shown s).activeOf kind k = false) : (shown (tellWritten k old new s)).Lawful := by
  have told (kind : NodeKind) {x : Option NodeState} (hx : isActive x = false) {t : State}
      (law : (shown t).Lawful) (tables : t.tables = s.tables) (nodes : t.nodes = s.nodes) :
      (shown (tellConsumers k kind x t)).Lawful := by
    refine lawful_tellConsumers (law.apart kind k) (hx.trans ?_)
    rw [← silent kind]
    show (_ : Bool) = _
    simp only [Shown.activeOf, shown, tables, nodes]
  have written : isActive (some (writtenState new)) = false := by
    unfold writtenState
    split <;> rfl
  have left (leaves : Bool) : (shown (if leaves then tellConsumers k old.kind none s else s)).Lawful ∧
      (if leaves then tellConsumers k old.kind none s else s).tables = s.tables ∧
      (if leaves then tellConsumers k old.kind none s else s).nodes = s.nodes := by
    cases leaves with
    | true => exact ⟨told old.kind rfl law rfl rfl, tables_nodes_tellConsumers k old.kind none s⟩
    | false => exact ⟨law, rfl, rfl⟩
  unfold tellWritten
  dsimp only
  generalize (old.inUse && !(new.inUse && new.kind == old.kind)) = leaves
  obtain ⟨kept, tables, nodes⟩ := left leaves
  generalize (if leaves then tellConsumers k old.kind none s else s) = u at kept tables nodes ⊢
  split
  · exact told _ written kept tables nodes
  · exact kept

theorem lawful_write {k : Nat} {c : NodeCfg} {s : State} (writable : nodeWritable s k c = true)
    (law : (shown s).Lawful) : (shown (takeNodeWrite k c s)).Lawful := by
  have before (kind : NodeKind) : (shown s).activeOf kind k = false := by
    have idle : (nodeCfg s k).inUse = false ∨ (nodeAt s k).state = .disabled := by
      simp only [nodeWritable, Bool.and_eq_true, Bool.or_eq_true, Bool.not_eq_true', beq_iff_eq] at writable
      obtain ⟨⟨⟨idle, -⟩, -⟩, -⟩ := writable
      exact idle
    rcases idle with unused | disabled
    · exact Shown.activeOf_of_unused (v := shown s) unused kind
    · refine Shown.activeOf_of_state (v := shown s) ?_ kind
      rw [show (nth (shown s).nodes k).state = .disabled from disabled]
      decide
  have after (kind : NodeKind) : Shown.activeOf { shown s with
      configs := put s.tables.nodes k c, nodes := put s.nodes k (writtenRun c) } kind k = false := by
    by_cases hk : k < 48
    · refine Shown.activeOf_of_state ?_ kind
      show (nth (put s.nodes k (writtenRun c)) k).state ≠ .active
      rw [nth_put_self _ _ _ hk]
      exact state_writtenRun c
    · refine Shown.activeOf_of_unused ?_ kind
      show (nth (put s.tables.nodes k c) k).inUse = false
      rw [nth_of_le _ (Nat.le_of_not_lt hk)]
      rfl
  have others {j : Nat} (here : j ≠ k) : Shown.SameEntry (shown s) { shown s with
      configs := put s.tables.nodes k c, nodes := put s.nodes k (writtenRun c) } j :=
    Shown.sameEntry_of_same (nth_put_of_ne _ _ here.symm) (nth_put_of_ne _ _ here.symm)
  have stored : Shown.Lawful { shown s with
      configs := put s.tables.nodes k c, nodes := put s.nodes k (writtenRun c) } := by
    refine (law.change _ _ (kind := .feed) (k := 0) (fun j _ _ => ?_) fun j _ _ => ?_).lawful (by decide)
      (by decide)
    · by_cases here : j = k
      · subst here; exact Shown.sameRectifier_of_inactive (before _) (after _)
      · exact (others here).rectifier
    · by_cases here : j = k
      · subst here; exact (Shown.copy_of_inactive (after _)).trans (Shown.copy_of_inactive (before _)).symm
      · exact (others here).copy
  unfold takeNodeWrite
  dsimp only
  simp only [shown_afterDeparture, shown_firstScanTest, shown_ite, ite_self, raiseNodeChange, shown_raiseFlag]
  have quiet (l : List Exchange) (old : NodeCfg) (t : State) : shown (l.foldl tellCancelled
      (markEntryWritten k (if old.inUse then removeExchanges old.segment k t else t))) = shown t := by
    rw [shown_foldl shown_tellCancelled]
    exact shown_of_erase (by simp [unshown])
  refine lawful_tellWritten ?_ fun kind => ?_
  · rw [quiet]
    exact stored
  · rw [quiet]
    exact after kind

/-! ### SETTINGS writes (R164) -/

section

variable {s t : State}

theorem lawful_reserve {n : Nat} (law : (shown s).Lawful) (h : shown t = { shown s with reserve := n }) :
    (shown (recomputeAvailable t)).Lawful := by
  rw [shown_recomputeAvailable, h]
  obtain ⟨-, lost, copies, charged, indicated⟩ := law
  exact ⟨Shown.powered_repowered _, lost, copies,
    ⟨charged.batteries, charged.eSum, charged.pCap, charged.energy⟩,
    ⟨indicated.line, indicated.rect, indicated.either, indicated.rides⟩⟩

theorem lawful_quorum {n : Nat} (law : (shown s).Lawful) (h : shown t = { shown s with quorum := n }) :
    (shown (evaluateIndication t)).Lawful := by
  obtain ⟨powered, lost, copies, charged, indicated⟩ := law
  apply lawful_evaluateIndication <;> rw [h]
  · exact ⟨powered.count, powered.available⟩
  · exact lost
  · exact copies
  · exact ⟨charged.batteries, charged.eSum, charged.pCap, charged.energy⟩
  · exact indicated.rides

theorem lawful_efficiency {m n : Nat} (law : (shown s).Lawful)
    (h : shown t = { shown s with fraction := m, efficiency := n }) :
    (shown (recomputeEnergy t)).Lawful := by
  rw [shown_recomputeEnergy, h]
  obtain ⟨powered, lost, copies, -, indicated⟩ := law
  exact ⟨⟨powered.count, powered.available⟩, lost, copies, Shown.charged_recharged _,
    ⟨indicated.line, indicated.rect, indicated.either, indicated.rides⟩⟩

end

theorem lawful_setting {k : Nat} (v : Nat) {s : State} (other : k ∉ enableSettings)
    (law : (shown s).Lawful) : (shown (writeSetting k v s)).Lawful := by
  obtain ⟨t, ht⟩ : ∃ t, { s with tables := { s.tables with settings := settingsAfter k v s } } = t :=
    ⟨_, rfl⟩
  have written : shown t = { shown s with
      reserve := nth (settingsAfter k v s) 13, quorum := nth (settingsAfter k v s) 21
      fraction := nth (settingsAfter k v s) 27, efficiency := nth (settingsAfter k v s) 28 } := by
    rw [← ht]; rfl
  have keep {j : Nat} (hj : j ∈ shownSettings) (apart : k ≠ j) :
      nth (settingsAfter k v s) j = nth s.tables.settings j := nth_settingsAfter v s hj apart
  rw [writeSetting_eq, ht]
  split
  next same => rw [← ht, shown_settingsAfter v s fun _ => same]; exact law
  by_cases reserve : k = 13
  · subst reserve
    rw [keep (j := 21) (by decide) (by decide), keep (j := 27) (by decide) (by decide),
      keep (j := 28) (by decide) (by decide)] at written
    exact lawful_reserve law written
  by_cases quorum : k = 21
  · subst quorum
    rw [keep (j := 13) (by decide) (by decide), keep (j := 27) (by decide) (by decide),
      keep (j := 28) (by decide) (by decide)] at written
    exact lawful_quorum law written
  by_cases efficiency : k = 27 ∨ k = 28
  · rw [keep (j := 13) (by decide) reserve, keep (j := 21) (by decide) quorum] at written
    rcases efficiency with rfl | rfl
    · exact lawful_efficiency law written
    · exact lawful_efficiency law written
  have unshown : k ∉ shownSettings := by simp_all [shownSettings]
  have stored : shown t = shown s := by
    rw [← ht]
    exact shown_settingsAfter v s fun shown => absurd shown unshown
  have quiet : shown (settingWritten k t) = shown t := by
    unfold settingWritten
    split
    case h_1 | h_2 | h_3 | h_4 => exact absurd (by decide) other
    case h_5 | h_8 => contradiction
    case h_9 | h_10 => exact absurd (by decide) unshown
    all_goals simp [driveAlert]
  rw [quiet, stored]
  exact law

end Sys2Proof.Machine


namespace Sys2Proof.Machine

/-! ### Lines (R111, R169 to R171) -/

/-- What is held for line `i`, or its record, has changed. -/
structure LineChange (i : Nat) (s t : State) : Prop where
  shown : Machine.shown t = { Machine.shown s with lineConfigs := t.tables.lines, lines := t.lines }
  others {j : Nat} : j ≠ i → lineCfg t j = lineCfg s j ∧ lineAt t j = lineAt s j

/-- R111: the line counts for the line part as it did. -/
def SameSense (j : Nat) (s t : State) : Prop :=
  (lineCfg t j).enable = (lineCfg s j).enable ∧
    ((lineCfg s j).enable = true →
      ((lineAt t j).accepted == some (lineCfg t j).active) =
        ((lineAt s j).accepted == some (lineCfg s j).active))

theorem lineChange_setLine (i : Nat) (r : LineRun) (s : State) : LineChange i s (setLine i r s) :=
  ⟨rfl, fun other => ⟨rfl, nth_put_of_ne _ _ other.symm⟩⟩

theorem Shown.line_congr {v w : Shown}
    (h : ∀ j < 2, (nth w.lineConfigs j).enable = (nth v.lineConfigs j).enable ∧
      ((nth v.lineConfigs j).enable = true → w.lineLost j = v.lineLost j)) : w.line = v.line := by
  have sense {j : Nat} (hj : j ∈ [0, 1]) : j < 2 := by
    simp only [List.mem_cons, List.not_mem_nil, or_false] at hj
    omega
  have enabled : [0, 1].filter (fun j => (nth w.lineConfigs j).enable) =
      [0, 1].filter fun j => (nth v.lineConfigs j).enable :=
    List.filter_congr fun j hj => (h j (sense hj)).1
  have lost : ([0, 1].filter fun j => (nth v.lineConfigs j).enable).all w.lineLost =
      ([0, 1].filter fun j => (nth v.lineConfigs j).enable).all v.lineLost := by
    rw [Bool.eq_iff_iff, List.all_eq_true, List.all_eq_true]
    refine forall₂_congr fun j hj => ?_
    obtain ⟨hj, on⟩ := List.mem_filter.mp hj
    rw [(h j (sense hj)).2 on]
  unfold line
  dsimp only
  rw [enabled, lost]

section

variable {i : Nat} {s t : State}

theorem shown_line_of_same (h : LineChange i s t) (same : i < 2 → SameSense i s t) :
    (shown t).line = (shown s).line := by
  refine Shown.line_congr fun j hj => ?_
  by_cases here : j = i
  · subst here; exact same hj
  · obtain ⟨config, run⟩ := h.others here
    exact ⟨congrArg LineCfg.enable config, fun _ => by
      show ((lineAt t j).accepted == some (lineCfg t j).active) = _
      rw [config, run]
      rfl⟩

/-- R111: a change of a line that counts as it did keeps the law. -/
theorem lawful_of_line (law : (shown s).Lawful) (h : LineChange i s t) (same : i < 2 → SameSense i s t) :
    (shown t).Lawful := by
  have line := shown_line_of_same h same
  rw [h.shown] at line ⊢
  obtain ⟨powered, lost, copies, charged, indicated⟩ := law
  exact ⟨⟨powered.count, powered.available⟩, lost, copies,
    ⟨charged.batteries, charged.eSum, charged.pCap, charged.energy⟩,
    ⟨indicated.line.trans line.symm, indicated.rect, indicated.either, indicated.rides⟩⟩

/-- R112: the indication is evaluated after a change of an AC-sense line. -/
theorem lawful_senseLine (law : (shown s).Lawful) (h : LineChange i s t) :
    (shown (evaluateIndication t)).Lawful := by
  obtain ⟨powered, lost, copies, charged, indicated⟩ := law
  apply lawful_evaluateIndication <;> rw [h.shown]
  · exact ⟨powered.count, powered.available⟩
  · exact lost
  · exact copies
  · exact ⟨charged.batteries, charged.eSum, charged.pCap, charged.energy⟩
  · exact indicated.rides

theorem lawful_deliverLevel (first : Bool) (level : Level) (law : (shown s).Lawful) (h : LineChange i s t) :
    (shown (deliverLevel i first level t)).Lawful := by
  unfold deliverLevel takeLevelNews levelNews
  dsimp only
  split
  · exact lawful_senseLine law h
  next other =>
    have kept := lawful_of_line law h fun sense => absurd sense other
    split
    · rw [shown_takeEpoLevel]
      exact kept
    · rw [shown_of_erase (t := takeLeakLevel (i - 3) _ t) (s := t) (by simp [unshown])]
      exact kept

theorem lawful_deliverEnable (on : Bool) (law : (shown s).Lawful) (h : LineChange i s t) :
    (shown (deliverEnable i on t)).Lawful := by
  unfold deliverEnable
  split
  · exact lawful_senseLine law h
  next other =>
    have kept := lawful_of_line law h fun sense => absurd sense other
    split
    · exact kept
    · rw [shown_of_erase (t := takeLeakEnable (i - 3) on t) (s := t) (by simp [unshown])]
      exact kept

end

theorem lawful_setLine {i : Nat} {r : LineRun} {s : State} (law : (shown s).Lawful)
    (accepted : r.accepted = (lineAt s i).accepted) : (shown (setLine i r s)).Lawful := by
  refine lawful_of_line law (lineChange_setLine i r s) fun hi => ⟨rfl, fun _ => ?_⟩
  show ((nth (put s.lines i r) i).accepted == some (lineCfg s i).active) = _
  rw [nth_put_self _ _ _ (by omega), accepted]

theorem lawful_sample (i : Nat) (drive : PinDrive) {s : State} (law : (shown s).Lawful) :
    (shown (sampleLine i drive s)).Lawful := by
  have drawn : shown (sampledLevel i drive s).2 = shown s := shown_of_erase (by simp [unshown])
  have judged (level : Level) {t : State} (law : (shown t).Lawful) :
      (shown (judgeSample i level t)).Lawful := by
    unfold judgeSample
    dsimp only
    split
    · exact lawful_setLine law rfl
    · split
      · exact lawful_deliverLevel _ _ law (lineChange_setLine i _ t)
      · exact lawful_setLine law rfl
  unfold sampleLine
  split
  next level t sampled =>
    rw [sampled] at drawn
    refine judged level (lawful_setLine ?_ rfl)
    rw [drawn]
    exact law

theorem lawful_line (i : Nat) (c : LineCfg) {s : State} (law : (shown s).Lawful) :
    (shown (writeLine i c s)).Lawful := by
  obtain ⟨t, ht⟩ : ∃ t, { s with tables := { s.tables with
      lines := put s.tables.lines i (clampLine i c) } } = t := ⟨_, rfl⟩
  have written : LineChange i s t := by
    subst ht
    exact ⟨rfl, fun other => ⟨nth_put_of_ne _ _ other.symm, rfl⟩⟩
  have lines : t.lines = s.lines := by rw [← ht]
  have cleared (r : LineRun) : LineChange i s (setLine i r t) := by
    refine ⟨?_, fun other => ?_⟩
    · show { shown t with lines := put t.lines i r } = _
      rw [written.shown]
      rfl
    · obtain ⟨config, run⟩ := written.others other
      exact ⟨config, (nth_put_of_ne _ _ other.symm).trans run⟩
  have enable (hi : i < 2) : (lineCfg t i).enable = (clampLine i c).enable := by
    rw [← ht]
    exact congrArg LineCfg.enable (nth_put_self _ _ _ (by omega))
  unfold writeLine
  dsimp only
  rw [ht]
  split
  next both =>
    obtain ⟨was, new⟩ := Bool.and_eq_true_iff.mp both
    split
    next none =>
      refine lawful_of_line law written fun hi => ⟨(enable hi).trans (new.trans was.symm), fun _ => ?_⟩
      have silent : (lineAt s i).accepted = Option.none := by
        rw [← none, lineAt, lineAt, lines]
      rw [none, silent]
      rfl
    · exact lawful_deliverLevel _ _ law written
  split
  · exact lawful_deliverEnable _ law (cleared _)
  split
  · exact lawful_deliverEnable _ law (cleared _)
  next off on =>
    refine lawful_of_line law written fun hi => ⟨(enable hi).trans ?_, fun enabled => absurd enabled off⟩
    rw [Bool.eq_false_of_not_eq_true on, Bool.eq_false_of_not_eq_true off]

/-! ### The timers of the Ride-Through Unit (R113, R115) -/

theorem Shown.Lawful.rideState {v : Shown} {x : RideState} (law : v.Lawful)
    (same : (x = .suspect ∨ x = .bridging) ↔ (v.state = .suspect ∨ v.state = .bridging)) :
    Lawful { v with state := x } := by
  obtain ⟨powered, lost, copies, charged, line, rect, either, rides⟩ := law
  exact ⟨⟨powered.count, powered.available⟩, lost, copies,
    ⟨charged.batteries, charged.eSum, charged.pCap, charged.energy⟩,
    ⟨line, rect, either, rides.trans same.symm⟩⟩

theorem lawful_confirm {s : State} (law : (shown s).Lawful) : (shown (confirmExpired s)).Lawful := by
  unfold confirmExpired
  split
  next suspect =>
    rw [shown_enterBridging]
    exact law.rideState ⟨fun _ => .inl (eq_of_beq suspect), fun _ => .inr rfl⟩
  · exact law

theorem lawful_settle {s : State} (law : (shown s).Lawful) : (shown (settleExpired s)).Lawful := by
  unfold settleExpired
  split
  next restoring =>
    rw [shown_returnToNormal]
    have state : (shown s).state = .restoring := eq_of_beq restoring
    refine law.rideState ?_
    rw [state]
    decide
  · exact law

/-! ### Resets (R45, R109) -/

/-- R45, R109: after a reset no entry is ACTIVE and no line has a level, and all figures are 0. -/
theorem lawful_blocksReset (autostart : Autostart) (groups : Vector GroupState 8) {s : State}
    (quorum : 1 ≤ setting s 21) : (shown (blocksReset ⟨autostart, Ride.initial, groups⟩ s)).Lawful := by
  obtain ⟨v, hv⟩ : ∃ v, shown (blocksReset ⟨autostart, Ride.initial, groups⟩ s) = v := ⟨_, rfl⟩
  have silent (kind : NodeKind) {j : Nat} (hj : j < 48) : v.activeOf kind j = false := by
    refine Shown.activeOf_of_state ?_ kind
    rw [← hv]
    show (nth (tabulate 48 fun e => writtenRun (nodeCfg s e)) j).state ≠ .active
    rw [nth_tabulate _ j hj]
    exact state_writtenRun _
  have contributing : v.contributing = [] := by
    refine List.filter_eq_nil_iff.mpr fun j hj => ?_
    simp [Shown.contributes, silent _ (List.mem_range.mp hj)]
  have copies : v.copies = Vector.replicate 48 ⟨false, 0, 0⟩ := by rw [← hv]; rfl
  have activeCopies : v.activeCopies = [] := by
    unfold Shown.activeCopies
    rw [copies]
    simp
  have lostInput : v.lostInput = Vector.replicate 48 false := by rw [← hv]; rfl
  have unsensed (j : Nat) (hj : j < 2) : v.lineLost j = false := by
    have run : nth v.lines j = lineReset s j := by
      rw [← hv]
      exact nth_tabulate _ j (by omega)
    unfold Shown.lineLost
    rw [run]
    rfl
  have line : v.line = false := by
    unfold Shown.line
    cases first : (nth v.lineConfigs 0).enable <;> cases second : (nth v.lineConfigs 1).enable <;>
      simp [List.filter, first, second, unsensed]
  have rect : v.rect = false := by
    have least : 1 ≤ v.quorum := by rw [← hv]; exact quorum
    have none : v.lostInput.toList.filter id = [] := by rw [lostInput]; rfl
    unfold Shown.rect
    rw [none]
    exact decide_eq_false (Nat.not_le.mpr least)
  rw [hv]
  subst hv
  constructor
  case powered =>
    constructor
    · rw [contributing]; rfl
    · rw [contributing]; rfl
  case lost =>
    intro j hj
    rw [lostInput, nth_replicate _ _ hj, Shown.lost, silent _ hj]
    rfl
  case copies =>
    intro j hj
    rw [copies, nth_replicate _ _ hj, Shown.copy_of_inactive (silent _ hj)]
  case charged =>
    constructor
    · rw [activeCopies]; rfl
    · rw [activeCopies]; rfl
    · rw [activeCopies]; rfl
    · show 0 = energyFigure _ _ 0
      simp [energyFigure, energyAvail]
  case indicated => exact ⟨line.symm, rect.symm, rfl, nofun, nofun⟩

/-- R160: what follows the reset of the blocks shows nothing. -/
theorem shown_restart (particulars : List Byte) (s : State) : shown (restart particulars s) = shown s :=
  shown_of_erase (by simp [restart, leakSettled, unshown])

theorem shown_raiseImage (x : ImageResult) (s : State) : shown (raiseImage x s) = shown s :=
  shown_of_erase (by simp [unshown])

theorem shown_tryAutostart (s : State) : shown (tryAutostart s) = shown s :=
  shown_of_erase (by simp [unshown])

theorem quorum_of_settingsFit {v : Vector Nat 41} (fit : SettingsFit v) : 1 ≤ nth v 21 := by
  have range : max 1 (min 48 (nth v 21)) = nth v 21 := fit.1 21 (by decide)
  omega

theorem lawful_coldReset (kind : ResetKind) {s : State} (settings : SettingsLaw s) :
    (shown (coldReset kind s)).Lawful := by
  unfold coldReset
  dsimp only
  rw [shown_tryAutostart, shown_ite, shown_raiseImage, ite_self, shown_restart]
  refine lawful_blocksReset _ _ ?_
  show 1 ≤ nth (if imageRestores s.image then s.image.tables else Tables.empty).settings 21
  split
  · exact quorum_of_settingsFit settings.2.1
  · decide

theorem lawful_warmReset {s : State} (settings : SettingsLaw s) : (shown (warmReset s)).Lawful := by
  unfold warmReset
  dsimp only
  rw [shown_ite, shown_raiseImage, ite_self, shown_restart]
  exact lawful_blocksReset .none (s.leak.groups.map groupKept) (quorum_of_settingsFit settings.1)

/-! ### The law over one step -/

theorem inspected_figures : Inspected fun s => (shown s).Lawful where
  same law h := h ▸ law
  reply k kind payload poll stale _ := lawful_reply k kind payload poll stale
  miss k _ := lawful_miss k
  age i _ := lawful_age i
  lose k _ := lawful_lose k
  disable {k s} law := lawful_setService (service := .disabled) law
    (shown_of_erase (t := (withdrawPoll k (setService k .disabled s)).1) (by simp [unshown])) (by decide)
  enable law := lawful_setService law rfl (by decide)
  write writable := lawful_write writable
  setting v _ := lawful_setting v
  line i c _ := lawful_line i c
  sample i drive _ := lawful_sample i drive
  confirm := lawful_confirm
  settle := lawful_settle

/-- Settles O15: each event of the Frame Inspector is followed by the news its consumers take, each write of
a table that the figures read by their evaluation, and a reset clears both; the rest of a step touches
nothing that the law reads. -/
theorem stepKeepsNodeFigures : Obligations.StepKeepsNodeFigures := by
  unfold Obligations.StepKeepsNodeFigures
  intro s t settings law h
  rw [figuresLaw_iff] at law ⊢
  exact inspected_figures.step law (fun kind _ => lawful_coldReset kind settings)
    (fun _ => lawful_warmReset settings) t h

end Sys2Proof.Machine


namespace Sys2Proof.Machine

/-! ## The NODE request (R18, R25, R31) -/

/-- The entry has taken a state, and its service field with it, by a NODE request that is not answered
yet. -/
structure MovesEntry (k : Nat) (x : NodeState) (service : Service) (s t : State) : Prop where
  responses : t.port.responses = s.port.responses
  nodes : t.nodes = (modNode k (enterNodeState x) s).nodes
  tables : t.tables = (setService k service s).tables
  flag : inFlagSet t.port.flags .nodeChange = true

theorem movesEntry_changeNode {k : Nat} {x : NodeState} {service : Service} {s u : State}
    (quiet : erase [.segs] u = erase [.segs] (setService k service s)) :
    MovesEntry k x service s (changeNode k x .request u) := by
  have touches := touches_of_erase quiet
  have port : u.port = s.port := touches .port (by decide)
  have nodes : u.nodes = s.nodes := touches .nodes (by decide)
  have tables : u.tables = (setService k service s).tables := touches .tables (by decide)
  constructor
  case responses => rw [((Works.refl u).changeNode k x .request).responses, port]
  case nodes => rw [changeNode_nodes]; simp [nodeAt, nodes]
  case tables => rw [tables_changeNode, tables]
  case flag => exact flag_raiseFlag _ _ _

theorem MovesEntry.firstScanTest {k : Nat} {x : NodeState} {service : Service} {s t : State}
    (h : MovesEntry k x service s t) (i : Nat) : MovesEntry k x service s (firstScanTest false i t) := by
  have touches := touches_of_erase (bs := [.segs, .mail]) (s := t) (t := Machine.firstScanTest false i t)
    (by simp)
  have port : (Machine.firstScanTest false i t).port = t.port := touches .port (by decide)
  exact ⟨by rw [port, h.responses], (touches .nodes (by decide)).trans h.nodes,
    (touches .tables (by decide)).trans h.tables, by rw [port, h.flag]⟩

theorem MovesEntry.afterDeparture {k : Nat} {x : NodeState} {service : Service} {s t : State}
    (h : MovesEntry k x service s t) (departed : Bool) :
    MovesEntry k x service s (afterDeparture departed t) := by
  have works := (Works.refl t).afterDeparture departed
  have nodes : (Machine.afterDeparture departed t).nodes = t.nodes :=
    touches_of_erase (bs := [.port, .segs, .cap, .zc, .mail]) (by simp) .nodes (by decide)
  exact ⟨works.responses.trans h.responses, nodes.trans h.nodes, works.tables.trans h.tables,
    works.flags _ h.flag⟩

theorem movesEntry_disableEntry (k : Nat) (s : State) :
    MovesEntry k .disabled .disabled s (disableEntry k s) :=
  ((movesEntry_changeNode (by simp)).firstScanTest _).afterDeparture _

theorem movesEntry_enableEntry (k : Nat) (s : State) :
    MovesEntry k .unseen .enabled s (enableEntry k s) :=
  (movesEntry_changeNode rfl).firstScanTest _

/-! ### The queued POLL is withdrawn (R18) -/

/-- No POLL for the entry stands in the queue. -/
def PollFree (k : Nat) (g : Segment) : Prop := g.queue.any (isPollFor k) = false

theorem pollFree_iff (k : Nat) (g : Segment) : PollFree k g ↔ ∀ e ∈ g.queue, isPollFor k e = false :=
  by simp [PollFree]

theorem PollFree.arbitrated {k : Nat} {g : Segment} (h : PollFree k g) (s : State) (i : Nat) :
    PollFree k (arbitrated s i g) := by
  unfold Machine.arbitrated
  split
  next queue =>
    unfold PollFree at h
    rw [queue, List.any_cons, Bool.or_eq_false_iff] at h
    exact h.2
  · exact h

theorem PollFree.joined {k : Nat} {g : Segment} (h : PollFree k g) (s : State) (i : Nat) {e : Exchange}
    (feed : IsFeed e) : PollFree k (joined s i e g) := by
  have other : isPollFor k e = false := by
    obtain ⟨target, output, on, rfl⟩ := feed
    simp [isPollFor, feedExchange]
  rw [pollFree_iff] at h
  unfold Machine.joined
  split
  · exact (pollFree_iff k g).mpr h
  · refine PollFree.arbitrated ((pollFree_iff k _).mpr ?_) s i
    have outcome := offerTo_outcome e g.queue
    generalize offerTo e g.queue = o at outcome
    cases outcome with
    | refused => exact h
    | stands => exact h
    | joins => simpa [other] using h
    | replaces output =>
      intro x hx
      rcases mem_joinTail.mp hx with rfl | hx
      · exact other
      · exact h x (List.mem_filter.mp hx).1

theorem PollFree.works {k i : Nat} {s t : State} (h : PollFree k (segAt s i)) (works : Works s t) :
    PollFree k (segAt t i) :=
  (works.segs i).keeps (fun _ _ feed free => free.joined s i feed) h

theorem PollFree.firstScanTest {k i : Nat} {s : State} (h : PollFree k (segAt s i)) (expiry : Bool)
    (j : Nat) : PollFree k (segAt (firstScanTest expiry j s) i) := by
  obtain ⟨x, segs⟩ := firstScanTest_segs expiry j s
  rw [segAt_congr segs, segAt_modSeg]
  split
  · exact h
  · exact h

/-- R18: the disabled entry has no POLL left in its segment's queue. -/
theorem pollFree_disableEntry {k : Nat} (hk : k < 48) (s : State) :
    PollFree k (segAt (disableEntry k s) (nodeCfg s k).segment) := by
  have config : nodeCfg (setService k .disabled s) k = { nodeCfg s k with service := .disabled } :=
    nth_put_self _ _ _ hk
  obtain ⟨i, hi⟩ : ∃ i, (nodeCfg s k).segment = i := ⟨_, rfl⟩
  have withdrawn : PollFree k (segAt (withdrawPoll k (setService k .disabled s)).1 i) := by
    unfold withdrawPoll
    dsimp only
    rw [config]
    dsimp only
    rw [hi, segAt_modSeg]
    split
    · unfold PollFree
      simp
    next past =>
      rw [segAt_of_le _ (by omega)]
      rfl
  unfold disableEntry
  rw [hi]
  exact ((withdrawn.works ((Works.refl _).changeNode k _ _)).firstScanTest _ _).works
    ((Works.refl _).afterDeparture _)

/-! ### The request served at once -/

/-- R149: a NODE request that is taken at once is answered in the place kept for it. -/
theorem exec_node (tag entry : Byte) {s : State} (ready : Ready s) (disable : Bool) :
    exec (if disable then .nodeDisable tag entry else .nodeEnable tag entry) s = .next (respond
      (answer tag 0x0D#8 (nodeRequest entry.toNat disable (keepPlace true s)).1 [])
      (nodeRequest entry.toNat disable (keepPlace true s)).2) := by
  have served : request tag (.node entry disable) s = serve tag (.node entry disable) s := by
    unfold request
    rw [if_neg (by simp [requestPayload]), if_pos (canTake_of_ready ready)]
  cases disable
  · show Host.Outcome.next (request tag (.node entry false) s) = _
    rw [served]
    rfl
  · show Host.Outcome.next (request tag (.node entry true) s) = _
    rw [served]
    rfl

theorem nodeRequest_of_range {k : Nat} (past : 47 < k) (disable : Bool) (s : State) :
    nodeRequest k disable s = (.range, s) := if_pos past

section

variable {k : Nat} {s : State} (within : k ≤ 47)
include within

theorem nodeRequest_of_unused (unused : (nodeCfg s k).inUse = false) (disable : Bool) :
    nodeRequest k disable s = (.noNode, s) := by
  simp [nodeRequest, Nat.not_lt.mpr within, unused]

variable (inUse : (nodeCfg s k).inUse = true)
include inUse

theorem nodeRequest_of_enabled (enabled : (nodeAt s k).state ≠ .disabled) :
    nodeRequest k true s = (.ok, disableEntry k s) ∧ nodeRequest k false s = (.ok, s) := by
  simp [nodeRequest, Nat.not_lt.mpr within, inUse, enabled]

theorem nodeRequest_of_disabled (disabled : (nodeAt s k).state = .disabled) :
    nodeRequest k true s = (.ok, s) ∧ nodeRequest k false s = (.ok, enableEntry k s) := by
  simp [nodeRequest, Nat.not_lt.mpr within, inUse, disabled]

end

/-- What a NODE request that moves its entry leaves, once it is answered. -/
theorem MovesEntry.answered {k : Nat} (hk : k < 48) {x : NodeState} {service : Service} {s t : State}
    (h : MovesEntry k x service (keepPlace true s) t) (r : Response) :
    (respond r t).port.responses = s.port.responses ++ [r] ∧
      nodeAt (respond r t) k = enterNodeState x (nodeAt s k) ∧
      (∀ j < 48, j ≠ k → nodeAt (respond r t) j = nodeAt s j) ∧
      (respond r t).tables = { s.tables with
        nodes := put s.tables.nodes k { nodeCfg s k with service := service } } ∧
      inFlagSet (respond r t).port.flags .nodeChange = true := by
  have node (j : Nat) : nodeAt (respond r t) j =
      if k = j ∧ j < 48 then enterNodeState x (nodeAt s j) else nodeAt s j := by
    rw [show nodeAt (respond r t) j = nodeAt t j from rfl, nodeAt_congr h.nodes, nodeAt_modNode]
    rfl
  refine ⟨?_, ?_, fun j _ other => ?_, h.tables, h.flag⟩
  · show t.port.responses ++ [r] = _
    rw [h.responses]
    rfl
  · rw [node, if_pos ⟨rfl, hk⟩]
  · rw [node, if_neg fun same => other same.1.symm]

/-- Settles O52: the request is served at once; a refusal, and a request that asks for the state the entry
has, is answered alone; the two others move the entry. -/
theorem nodeRequestMovesTheEntry : Obligations.NodeRequestMovesTheEntry := by
  unfold Obligations.NodeRequestMovesTheEntry
  intro tag entry s ready
  have disables := exec_node tag entry ready true
  have enables := exec_node tag entry ready false
  refine ⟨fun past => ?_, fun within unused => ?_, fun within inUse enabled => ?_,
    fun within inUse disabled => ?_⟩
  · rw [nodeRequest_of_range past] at disables enables
    exact ⟨enables, disables⟩
  · rw [nodeRequest_of_unused (s := keepPlace true s) within unused] at disables enables
    exact ⟨enables, disables⟩
  · obtain ⟨whenDisabling, whenEnabling⟩ :=
      nodeRequest_of_enabled (s := keepPlace true s) within inUse enabled
    rw [whenDisabling] at disables
    rw [whenEnabling] at enables
    obtain ⟨responses, node, others, tables, flag⟩ :=
      (movesEntry_disableEntry entry.toNat (keepPlace true s)).answered (by omega)
        (answer tag 0x0D#8 .ok [])
    refine ⟨enables, _, disables, touches_of_erase ?_, responses, node, others, tables, ?_, flag⟩
    · simp [respond, keepPlace, inspectBlocks]
    · exact pollFree_disableEntry (by omega) (keepPlace true s)
  · obtain ⟨whenDisabling, whenEnabling⟩ :=
      nodeRequest_of_disabled (s := keepPlace true s) within inUse disabled
    rw [whenDisabling] at disables
    rw [whenEnabling] at enables
    obtain ⟨responses, node, others, tables, flag⟩ :=
      (movesEntry_enableEntry entry.toNat (keepPlace true s)).answered (by omega)
        (answer tag 0x0D#8 .ok [])
    refine ⟨disables, _, enables, touches_of_erase ?_, responses, node, others, tables, flag⟩
    simp [respond, keepPlace, inspectBlocks]

end Sys2Proof.Machine


namespace Sys2Proof.Machine

/-! ## What the RMC hears (R37, R38, R154, R155)

With no notice enabled, a raised flag queues no report and counts none as lost, so that reports alone change
the report queue. `heard s` is the report queue and its count of lost reports, where no notice is enabled;
what the news of a reply set off keeps it. -/

/-- The report queue and the count of lost reports, where no notice is enabled. -/
def heard (s : State) : Option (List Frame × Nat) :=
  if noticeMask s = 0#24 then some (s.port.reports, s.port.lost) else none

theorem noticeMask_congr {s t : State} (h : t.tables = s.tables) : noticeMask t = noticeMask s := by
  simp [noticeMask, setting, h]

theorem heard_eq {s t : State} (tables : t.tables = s.tables)
    (h : noticeMask s = 0#24 → t.port.reports = s.port.reports ∧ t.port.lost = s.port.lost) :
    heard t = heard s := by
  unfold heard
  rw [noticeMask_congr tables]
  split
  next none => obtain ⟨reports, lost⟩ := h none; rw [reports, lost]
  · rfl

theorem heard_eq_iff {s t : State} (none : noticeMask s = 0#24) (tables : t.tables = s.tables) :
    heard t = heard s ↔ t.port.reports = s.port.reports ∧ t.port.lost = s.port.lost := by
  simp [heard, noticeMask_congr tables, none]

/-- The blocks that hold nothing of what is heard. -/
def unheard : List Block :=
  [.now, .free, .pending, .image, .loader, .segs, .nodes, .cap, .zc, .seq, .ride, .leak, .lines, .mail]

theorem heard_of_erase {s t : State} (h : erase unheard t = erase unheard s) : heard t = heard s := by
  have touches := touches_of_erase h
  have tables : t.tables = s.tables := touches .tables (by decide)
  have port : t.port = s.port := touches .port (by decide)
  exact heard_eq tables fun _ => by rw [port]; exact ⟨rfl, rfl⟩

@[simp] theorem heard_ite (c : Prop) [Decidable c] (s t : State) :
    heard (if c then s else t) = if c then heard s else heard t := apply_ite _ _ _ _

theorem heard_foldl {α : Type} {f : State → α → State} (h : ∀ s x, heard (f s x) = heard s)
    (l : List α) (s : State) : heard (l.foldl f s) = heard s := by
  induction l generalizing s with
  | nil => rfl
  | cons x rest ih => exact (ih _).trans (h s x)

/-! ### Updates and flags -/

@[simp] theorem heard_modCap (f : Capacity → Capacity) (s : State) : heard (modCap f s) = heard s := rfl

@[simp] theorem heard_modZc (f : ZoneCtl → ZoneCtl) (s : State) : heard (modZc f s) = heard s := rfl

@[simp] theorem heard_modZone (z : Nat) (f : ZoneRun → ZoneRun) (s : State) :
    heard (modZone z f s) = heard s := rfl

@[simp] theorem heard_modRide (f : Ride → Ride) (s : State) : heard (modRide f s) = heard s := rfl

@[simp] theorem heard_modLeak (f : Leak → Leak) (s : State) : heard (modLeak f s) = heard s := rfl

@[simp] theorem heard_modMail (f : Mail → Mail) (s : State) : heard (modMail f s) = heard s := rfl

@[simp] theorem heard_modPort (f : Port → Port) (s : State) (reports : (f s.port).reports = s.port.reports)
    (lost : (f s.port).lost = s.port.lost) : heard (modPort f s) = heard s :=
  heard_eq rfl fun _ => ⟨reports, lost⟩

@[simp] theorem heard_driveAlert (s : State) : heard (driveAlert s) = heard s := by simp [driveAlert]

/-- R155: with no notice enabled, a flag is raised without one. -/
@[simp] theorem heard_raiseFlag (f : EventFlag) (p : List Byte) (s : State) :
    heard (raiseFlag f p s) = heard s := by
  refine heard_eq ((Works.refl s).raiseFlag f p).tables fun none => ?_
  have silent : inFlagSet (noticeMask (setFlag f s)) f = false := by
    rw [show noticeMask (setFlag f s) = 0#24 from none]
    simp [inFlagSet]
  unfold raiseFlag
  dsimp only
  rw [if_neg (by rw [silent]; decide)]
  exact ⟨rfl, rfl⟩

/-! ### Joins and disables -/

@[simp] theorem heard_joinSegment (i : Nat) (e : Exchange) (s : State) :
    heard (joinSegment i e s).state = heard s := heard_of_erase (by simp [unheard])

@[simp] theorem heard_setDisablePending (z : Nat) (x : DisableOutcome) (s : State) :
    heard (setDisablePending z x s) = heard s := by
  simp [setDisablePending]

@[simp] theorem heard_queueDisable (z : Nat) (s : State) : heard (queueDisable z s).1 = heard s := by
  unfold queueDisable
  dsimp only
  split
  · split <;> simp
  · simp

/-! ### The Capacity Unit -/

@[simp] theorem heard_tellCapacityNews (before : Capacity) (s : State) :
    heard (tellCapacityNews before s) = heard s := by
  simp [tellCapacityNews]

@[simp] theorem heard_handOverShed (w : Walk) (s : State) : heard (handOverShed w s) = heard s := by
  simp [handOverShed]

@[simp] theorem heard_computeShed (s : State) : heard (computeShed s) = heard s := by
  simp [computeShed]

@[simp] theorem heard_enterDeficit (s : State) : heard (enterDeficit s) = heard s := by
  simp [enterDeficit]

@[simp] theorem heard_evaluateCapacity (s : State) : heard (evaluateCapacity s) = heard s := by
  unfold evaluateCapacity
  dsimp only
  split <;> simp [enterBalanced]

@[simp] theorem heard_recomputeCommitted (s : State) : heard (recomputeCommitted s) = heard s := by
  simp [recomputeCommitted]

@[simp] theorem heard_recomputeAvailable (s : State) : heard (recomputeAvailable s) = heard s := by
  simp [recomputeAvailable]

/-! ### The Zone Controller -/

@[simp] theorem heard_tellZoneChange (z : Nat) (old new : ZoneState) (s : State) :
    heard (tellZoneChange z old new s) = heard s := by
  simp [tellZoneChange, tellSequencer]

@[simp] theorem heard_arbiterRun (fuel : Nat) (s : State) : heard (arbiterRun fuel s) = heard s := by
  have granted (z : Nat) (s : State) : heard (grantZone z s) = heard s := by
    simp [grantZone, dequeueZone]
  induction fuel generalizing s with
  | zero => rfl
  | succ fuel ih =>
    unfold arbiterRun
    split
    · split
      · rfl
      · split
        · dsimp only
          split <;> simp [ih, granted]
        · rfl
    · rfl

@[simp] theorem heard_runArbiter (s : State) : heard (runArbiter s) = heard s := heard_arbiterRun _ s

@[simp] theorem heard_afterDeparture (departed : Bool) (s : State) :
    heard (afterDeparture departed s) = heard s := by
  simp [afterDeparture]

@[simp] theorem heard_evaluateReadmit (s : State) : heard (evaluateReadmit s) = heard s := by
  have drained (s : State) (z : Nat) : heard (drainZone s z) = heard s := by
    simp [drainZone, enqueueZone, leaveReadmit]
  unfold evaluateReadmit
  rw [heard_ite, heard_runArbiter, heard_foldl drained, ite_self]

@[simp] theorem heard_failAttempt (z : Nat) (x : AttemptCause) (s : State) :
    heard (failAttempt z x s) = heard s := by
  simp [failAttempt, enqueueZone]

@[simp] theorem heard_adoptZone (z reading : Nat) (s : State) :
    heard (adoptZone z reading s) = heard s := by
  have off (new : ZoneState) : heard (adoptOff z new s) = heard s := by simp [adoptOff]
  unfold adoptZone
  split <;> simp [off]

/-- R70, R73, R86: a zone takes the reading of its output. -/
@[simp] theorem heard_zoneReport (entry : Nat) (s : State) (news : Nat × Nat) :
    heard (zoneReport entry s news) = heard s := by
  unfold zoneReport
  split
  · rfl
  next z _ =>
    have good : heard (powerGood z s) = heard s := by simp [powerGood]
    have trip (reading : Nat) : heard (tripZone z reading s) = heard s := by simp [tripZone]
    dsimp only
    split
    · split
      · split <;> simp [good]
      · rfl
    · simp [trip]
    · simp
    all_goals rfl

/-! ### The Leak Monitor -/

@[simp] theorem heard_enterFault (c : Nat) (cause : FaultCause) (s : State) :
    heard (enterFault c cause s) = heard s := (heard_raiseFlag _ _ _).trans rfl

@[simp] theorem heard_indicateChannel (s : State) (news : Nat × Indication) :
    heard (indicateChannel s news) = heard s := by
  have set (c : Nat) (r : ChannelRun) : heard (setChannel c r s) = heard s := rfl
  have glitched (c : Nat) : heard (glitch c s) = heard s := by simp [glitch, set]
  unfold indicateChannel
  dsimp only
  split
  · split <;> simp [set, glitched]
  · rfl

@[simp] theorem heard_chooseBeacon (s : State) : heard (chooseBeacon s) = heard s := by
  simp [chooseBeacon, takePattern]

@[simp] theorem heard_evaluateChanged (before : State) (cause : GroupCause) (s : State) :
    heard (evaluateChanged before cause s) = heard s := by
  have noted (b : Bool) (s : State) : heard (modPort (fun p => { p with leakAlarm := b }) s) = heard s :=
    heard_modPort _ s rfl rfl
  have evaluated (s : State) (g : Nat) : heard (evaluateGroup cause s g) = heard s := by
    simp [evaluateGroup, evaluateFrom, changeGroup, noted]
  simp [evaluateChanged, evaluateGroups, heard_foldl evaluated]

@[simp] theorem heard_takeIndications (news : List (Nat × Indication)) (s : State) :
    heard (takeIndications news s) = heard s := by
  simp [takeIndications, heard_foldl]

@[simp] theorem heard_sourceLost (entry : Nat) (s : State) : heard (sourceLost entry s) = heard s := by
  have faulted (s : State) (c : Nat) : heard (faultChannel .source s c) = heard s := by simp [faultChannel]
  simp [sourceLost, heard_foldl faulted]

/-! ### The Ride-Through Unit -/

@[simp] theorem heard_raiseRideChange (old : RideState) (cause : RideCause) (s : State) :
    heard (raiseRideChange old cause s) = heard s := heard_raiseFlag _ _ _

@[simp] theorem heard_evaluatePlan (x : Occasion) (s : State) : heard (evaluatePlan x s) = heard s := by
  simp [evaluatePlan, raiseShort, handOverPlan]

@[simp] theorem heard_setBridging (b : Bool) (s : State) : heard (setBridging b s) = heard s := by
  simp [setBridging, leakTakeBridging]

@[simp] theorem heard_enterBridging (cause : RideCause) (s : State) :
    heard (enterBridging cause s) = heard s := by
  simp [enterBridging, countEpisode, tellZoneRide]

@[simp] theorem heard_returnToNormal (cause : RideCause) (s : State) :
    heard (returnToNormal cause s) = heard s := by
  simp [returnToNormal, tellNormal, tellZoneRide]

@[simp] theorem heard_evaluateIndication (s : State) : heard (evaluateIndication s) = heard s := by
  have rises (s : State) : heard (indicationRises s) = heard s := by
    unfold indicationRises
    split <;> simp [tellNormal, tellZoneRide]
  have falls (s : State) : heard (indicationFalls s) = heard s := by
    have left : heard (leaveBridging s) = heard s := by simp [leaveBridging, tellZoneRide]
    unfold indicationFalls
    split <;> simp [left]
  simp [evaluateIndication, rises, falls]

@[simp] theorem heard_takeBattery (entry : Nat) (copy : BatteryCopy) (s : State) :
    heard (takeBattery entry copy s) = heard s := by
  have recomputed (s : State) : heard (recomputeEnergy s) = heard s := by simp [recomputeEnergy]
  simp [takeBattery, recomputed]

/-! ### The Frame Inspector -/

@[simp] theorem heard_tellConsumers (k : Nat) (kind : NodeKind) (x : Option NodeState) (s : State) :
    heard (tellConsumers k kind x s) = heard s := by
  cases kind <;> simp [tellConsumers, takeRectifier]

@[simp] theorem heard_replyNews (k : Nat) (before : NodeRun) (taken : List Item) (s : State) :
    heard (replyNews k before taken s) = heard s := by
  unfold replyNews
  dsimp only
  split <;> simp [heard_foldl]

@[simp] theorem heard_settled (k : Nat) (kind : Byte) (payload : List Byte) (s : State) :
    heard (settled k kind payload s) = heard s := by
  have stored (s : State) (x : Item) : heard (storeItem k s x) = heard s := rfl
  have checked (s : State) (x : Item) : heard (checkItem k s x) = heard s := by
    unfold checkItem
    dsimp only
    split
    · rfl
    · exact (heard_raiseFlag _ _ _).trans rfl
  rw [settled_eq]
  exact (heard_foldl checked _ _).trans ((heard_foldl stored _ _).trans rfl)

@[simp] theorem heard_announced (k : Nat) (kind : Byte) (payload : List Byte) (s : State) :
    heard (announced k kind payload s) = heard s := by
  rw [announced_eq]
  simp [raiseNodeChange]

/-- R6, R10: the end of a POLL hands on nothing that is heard. -/
theorem heard_endGood {i : Nat} {c : Current} {f : Frame} {s : State} (kind : c.ex.kind = .poll) :
    heard (endGood i c f s) = heard (goodInspected i c f s) := by
  have told : heard (tellGood i c f (goodInspected i c f s)) = heard (goodInspected i c f s) := by
    unfold tellGood
    rw [kind]
    exact heard_of_erase (by simp [unheard])
  rw [endGood_eq]
  unfold returnToIdle
  dsimp only
  rw [heard_afterDeparture, ← told]
  exact heard_of_erase (by simp [unheard])

end Sys2Proof.Machine


namespace Sys2Proof.Machine

/-! ## Samples checked and reported (R34 to R38) -/

/-- The slot of item `code` of entry `k`. -/
def itemSlot (s : State) (k code : Nat) : Slot := nth (nodeAt s k).slots code

theorem itemSlot_congr {s t : State} (nodes : t.nodes = s.nodes) (k code : Nat) :
    itemSlot t k code = itemSlot s k code := by
  rw [itemSlot, nodeAt_congr nodes, itemSlot]

/-! ### One sample (R34 to R36) -/

/-- R34 to R36: what a check of the sample `v` against the limits `c` makes of the violation and the count of
a slot. -/
structure Checked (c : LimitCfg) (old new : Slot) (v : Nat) : Prop where
  disabled : c.enabled = false → new.violation = false ∧ new.confirm = 0
  outside : c.enabled = true → old.violation = false → (v < c.low ∨ c.high < v) →
    new.confirm = min c.confirm (old.confirm + 1) ∧ new.violation = decide (c.confirm ≤ old.confirm + 1)
  inside : c.enabled = true → old.violation = false → ¬(v < c.low ∨ c.high < v) →
    new.confirm = 0 ∧ new.violation = false
  violating : c.enabled = true → old.violation = true →
    if ¬(v < c.low ∨ c.high < v) ∧ c.low + c.hysteresis ≤ v ∧ v + c.hysteresis ≤ c.high
    then new.violation = false ∧ new.confirm = 0
    else new.violation = true ∧ new.confirm = old.confirm

theorem violates_iff (c : LimitCfg) (v : Nat) : violates c v = true ↔ v < c.low ∨ c.high < v := by
  simp [violates]

theorem inReleaseBand_iff (c : LimitCfg) (v : Nat) : inReleaseBand c v = true ↔
    c.low + c.hysteresis ≤ v ∧ v + c.hysteresis ≤ c.high := by
  simp [inReleaseBand]

theorem checked_checkSample (c : LimitCfg) (slot : Slot) (v : Nat) :
    Checked c slot (checkSample c slot v).1 v := by
  have full : c.confirm ≤ min c.confirm (slot.confirm + 1) ↔ c.confirm ≤ slot.confirm + 1 := by omega
  constructor
  case disabled =>
    intro off
    cases hv : slot.violation <;> simp [checkSample, off, hv]
  case outside =>
    intro on calm out
    have out := (violates_iff c v).mpr out
    by_cases confirmed : c.confirm ≤ slot.confirm + 1 <;>
      simp [checkSample, on, calm, out, full, confirmed]
  case inside =>
    intro on calm within
    have within : violates c v = false := by
      rwa [← violates_iff, Bool.not_eq_true] at within
    simp [checkSample, on, calm, within]
  case violating =>
    intro on violation
    simp only [← violates_iff, ← inReleaseBand_iff]
    cases out : violates c v <;> cases band : inReleaseBand c v <;>
      simp [checkSample, on, violation, out, band]

/-- R36: a check that gives no news leaves the violation. -/
theorem violation_of_no_news {c : LimitCfg} {slot : Slot} {v : Nat} (h : (checkSample c slot v).2 = none) :
    (checkSample c slot v).1.violation = slot.violation := by
  revert h
  simp only [checkSample]
  repeat' split
  all_goals simp_all

theorem reported_checkSample (c : LimitCfg) (slot : Slot) (v : Nat) :
    (checkSample c slot v).1.reported = slot.reported := by
  simp only [checkSample]
  repeat' split
  all_goals rfl

theorem Checked.congr {c : LimitCfg} {old old' new new' : Slot} {v : Nat} (h : Checked c old new v)
    (oldViolation : old'.violation = old.violation) (oldConfirm : old'.confirm = old.confirm)
    (violation : new'.violation = new.violation) (confirm : new'.confirm = new.confirm) :
    Checked c old' new' v := by
  obtain ⟨disabled, outside, inside, violating⟩ := h
  constructor <;> rw [violation, confirm]
  case disabled => exact disabled
  case outside => rw [oldViolation, oldConfirm]; exact outside
  case inside => rw [oldViolation]; exact inside
  case violating => rw [oldViolation, oldConfirm]; exact violating

/-! ### The items of a reply, one after the other -/

section

variable {k : Nat} (hk : k < 48)
include hk

theorem itemSlot_storeItem (s : State) (x : Item) {code : Nat} (hc : code < 24) :
    itemSlot (storeItem k s x) k code =
      if x.code = code then { itemSlot s k code with present := true, value := x.value, age := 0 }
      else itemSlot s k code := by
  rw [itemSlot, nodeAt_storeItem hk, slot_putSlot _ _ _ hc]
  split
  next same => rw [same]; rfl
  · rfl

theorem itemSlot_checkItem (s : State) (x : Item) {code : Nat} (hc : code < 24) :
    itemSlot (checkItem k s x) k code =
      if x.code = code then (checkSample (nth s.tables.limits code) (itemSlot s k code) x.value).1
      else itemSlot s k code := by
  rw [itemSlot_congr (checkItem_nodes k s x), itemSlot, nodeAt_modNode, if_pos ⟨rfl, hk⟩,
    slot_putSlot _ _ _ hc]
  split
  next same => rw [same]; rfl
  · rfl

theorem itemSlot_markReported (s : State) (x : Item) {code : Nat} (hc : code < 24) :
    itemSlot (markReported k s x) k code =
      if x.code = code then { itemSlot s k code with reported := some x.value }
      else itemSlot s k code := by
  rw [itemSlot, markReported, nodeAt_modNode, if_pos ⟨rfl, hk⟩, slot_putSlot _ _ _ hc]
  split
  next same => rw [same]; rfl
  · rfl

end

/-- What changes no slot of a record leaves the slots. -/
theorem itemSlot_modNode {k : Nat} {f : NodeRun → NodeRun} (hf : ∀ r, (f r).slots = r.slots) (s : State)
    (code : Nat) : itemSlot (modNode k f s) k code = itemSlot s k code := by
  rw [itemSlot, nodeAt_modNode]
  split
  · rw [hf]; rfl
  · rfl

theorem itemSlot_settleNode (k : Nat) (telemetry : Bool) (base : NodeState) (s : State) (code : Nat) :
    itemSlot (settleNode k telemetry base s) k code = itemSlot s k code :=
  itemSlot_modNode (f := fun r => { r with
    state := if telemetry then (if degradeCondition s k then .degraded else .active) else base })
    (fun _ => rfl) s code

/-- R36: LIMIT is raised for a violation entered or left. -/
theorem flag_checkItem {k : Nat} {s : State} {x : Item}
    (changed : (checkSample (nth s.tables.limits x.code) (itemSlot s k x.code) x.value).1.violation ≠
      (itemSlot s k x.code).violation) :
    inFlagSet (checkItem k s x).port.flags .limit = true := by
  unfold checkItem
  dsimp only
  split
  next silent => exact absurd (violation_of_no_news silent) changed
  · exact flag_raiseFlag _ _ _

section

variable {k : Nat} {f : State → Item → State}
  (other : ∀ u x code, code < 24 → x.code ≠ code → itemSlot (f u x) k code = itemSlot u k code)
include other

theorem itemSlot_foldl_of_untaken {l : List Item} {code : Nat} (hc : code < 24)
    (untaken : ∀ x ∈ l, x.code ≠ code) (s : State) : itemSlot (l.foldl f s) k code = itemSlot s k code := by
  induction l generalizing s with
  | nil => rfl
  | cons y rest ih =>
    exact (ih (fun x hx => untaken x (.tail _ hx)) _).trans (other s y code hc (untaken y (.head _)))

/-- An operation carried out for one item after the other, each with a code of its own, meets the slot of an
item as it was, and leaves it as that one operation does. -/
theorem foldl_reaches (works : ∀ u x, Works u (f u x)) {l : List Item} (codes : ∀ x ∈ l, x.code < 24)
    (distinct : l.Pairwise fun x y => x.code ≠ y.code) (s : State) {x : Item} (hx : x ∈ l) :
    ∃ u, Works s u ∧ itemSlot u k x.code = itemSlot s k x.code ∧ Works (f u x) (l.foldl f s) ∧
      itemSlot (l.foldl f s) k x.code = itemSlot (f u x) k x.code := by
  induction l generalizing s with
  | nil => exact absurd hx List.not_mem_nil
  | cons y rest ih =>
    obtain ⟨first, distinct⟩ := List.pairwise_cons.mp distinct
    have code := codes x hx
    rcases List.mem_cons.mp hx with rfl | later
    · exact ⟨s, .refl s, rfl, (Works.refl _).foldl works rest,
        itemSlot_foldl_of_untaken other code (fun z hz => (first z hz).symm) _⟩
    · obtain ⟨u, before, same, after, left⟩ :=
        ih (fun z hz => codes z (.tail _ hz)) distinct (f s y) later
      exact ⟨u, (works s y).trans before, same.trans (other s y _ code (first x later)), after, left⟩

end

section

variable {k : Nat} (hk : k < 48) {l : List Item} (codes : ∀ x ∈ l, x.code < 24)
  (distinct : l.Pairwise fun x y => x.code ≠ y.code) (s : State) {x : Item} (hx : x ∈ l)
include hk codes distinct hx

theorem itemSlot_storeItems : itemSlot (l.foldl (storeItem k) s) k x.code =
    { itemSlot s k x.code with present := true, value := x.value, age := 0 } := by
  obtain ⟨u, -, before, -, stored⟩ := foldl_reaches
    (fun u y code hc other => by rw [itemSlot_storeItem hk u y hc, if_neg other])
    (fun u y => (Works.refl u).storeItem k y) codes distinct s hx
  rw [stored, itemSlot_storeItem hk u x (codes x hx), if_pos rfl, before]

theorem itemSlot_checkItems : itemSlot (l.foldl (checkItem k) s) k x.code =
      (checkSample (nth s.tables.limits x.code) (itemSlot s k x.code) x.value).1 ∧
    ((itemSlot (l.foldl (checkItem k) s) k x.code).violation ≠ (itemSlot s k x.code).violation →
      inFlagSet (l.foldl (checkItem k) s).port.flags .limit = true) := by
  obtain ⟨u, works, before, checking, checked⟩ := foldl_reaches
    (fun u y code hc other => by rw [itemSlot_checkItem hk u y hc, if_neg other])
    (fun u y => (Works.refl u).checkItem k y) codes distinct s hx
  have flag := flag_checkItem (k := k) (s := u) (x := x)
  rw [itemSlot_checkItem hk u x (codes x hx), if_pos rfl] at checked
  rw [before, works.tables] at checked flag
  rw [checked]
  exact ⟨rfl, fun changed => checking.flags _ (flag changed)⟩

end

theorem takenItems_telemetry (c : NodeKind) (payload : List Byte) :
    takenItems c telemetryByte payload = itemsTaken c payload := rfl

/-- R27, R34 to R36: an item taken is stored and checked. -/
theorem itemSlot_settled {k : Nat} (hk : k < 48) (payload : List Byte) (s : State) {x : Item}
    (hx : x ∈ itemsTaken (nodeCfg s k).kind payload) :
    let t := settled k telemetryByte payload s
    Checked (nth s.tables.limits x.code) (itemSlot s k x.code) (itemSlot t k x.code) x.value ∧
      (itemSlot t k x.code).reported = (itemSlot s k x.code).reported ∧
      ((itemSlot t k x.code).violation ≠ (itemSlot s k x.code).violation →
        inFlagSet t.port.flags .limit = true) := by
  have codes (y : Item) (hy : y ∈ itemsTaken (nodeCfg s k).kind payload) := code_lt_of_mem_itemsTaken hy
  have distinct : (itemsTaken (nodeCfg s k).kind payload).Pairwise fun x y => x.code ≠ y.code :=
    pairwise_lastOfEach _
  obtain ⟨u, hu⟩ : ∃ u, (itemsTaken (nodeCfg s k).kind payload).foldl (storeItem k)
    (modNode k (fun r => { r with misses := 0 }) s) = u := ⟨_, rfl⟩
  have stored : itemSlot u k x.code =
      { itemSlot s k x.code with present := true, value := x.value, age := 0 } := by
    rw [← hu, itemSlot_storeItems hk codes distinct _ hx,
      itemSlot_modNode (f := fun r => { r with misses := 0 }) fun _ => rfl]
  have tables : u.tables = s.tables := by
    rw [← hu]
    exact (((Works.refl s).modNode k _).foldl (fun v y => (Works.refl v).storeItem k y) _).tables
  obtain ⟨checked, flag⟩ := itemSlot_checkItems hk codes distinct u hx
  have check := checked_checkSample (nth s.tables.limits x.code) (itemSlot u k x.code) x.value
  dsimp only
  rw [settled_eq, takenItems_telemetry, hu, itemSlot_settleNode, checked, tables, stored]
  rw [checked, tables, stored] at flag
  rw [stored] at check
  exact ⟨check.congr rfl rfl rfl rfl, reported_checkSample _ _ _, flag⟩

end Sys2Proof.Machine


namespace Sys2Proof.Machine

/-! ### The report (R37, R38) -/

/-- R37: the items of a report, where one is made. -/
def chosenItems (s : State) (k : Nat) (taken : List Item) : List Item :=
  taken.filter fun x => (nodeCfg s k).reportMode == .every ||
    (itemSlot s k x.code).reported.all fun a =>
      decide ((nth s.tables.limits x.code).deadband < max (x.value - a) (a - x.value))

/-- R37: no report is made of the items taken. -/
def MakesNone (s : State) (k : Nat) (taken : List Item) : Prop :=
  (nodeCfg s k).reportMode = .off ∨ ((nodeCfg s k).reportMode = .change ∧ chosenItems s k taken = [])

theorem reportsChange_eq (s : State) (k : Nat) (x : Item) : reportsChange s k x =
    (itemSlot s k x.code).reported.all fun a =>
      decide ((nth s.tables.limits x.code).deadband < max (x.value - a) (a - x.value)) := by
  unfold reportsChange
  rw [show nth (nodeAt s k).slots x.code = itemSlot s k x.code from rfl]
  cases (itemSlot s k x.code).reported <;> rfl

theorem reportItems_of_none {s : State} {k : Nat} {taken : List Item} (h : MakesNone s k taken) :
    reportItems s k taken = none := by
  unfold reportItems
  rcases h with off | ⟨change, none⟩
  · rw [off]
  · have chosen : taken.filter (reportsChange s k) = [] := by
      rw [← none, chosenItems, change]
      exact List.filter_congr fun x _ => reportsChange_eq s k x
    rw [change]
    dsimp only
    rw [chosen]
    rfl

theorem reportItems_of_some {s : State} {k : Nat} {taken : List Item} (h : ¬MakesNone s k taken) :
    reportItems s k taken = some (chosenItems s k taken) := by
  unfold MakesNone at h
  unfold reportItems
  cases mode : (nodeCfg s k).reportMode with
  | off => exact absurd (.inl mode) h
  | every => simp [chosenItems, mode]
  | change =>
    have chosen : taken.filter (reportsChange s k) = chosenItems s k taken := by
      rw [chosenItems, mode]
      exact List.filter_congr fun x _ => reportsChange_eq s k x
    have some : chosenItems s k taken ≠ [] := fun none => h (.inr ⟨mode, none⟩)
    dsimp only
    rw [chosen, if_neg (by simpa using some)]

/-- R38: with no notice enabled, a lost report is counted, and NOTICE_LOST is raised. -/
theorem countLost_of_silent {s : State} (silent : noticeMask s = 0#24) :
    countLost s = setFlag .noticeLost (modPort (fun p => { p with lost := sat16 p.lost }) s) := by
  have unset : ¬inFlagSet (noticeMask s) .noticeLost = true := by
    rw [silent]
    simp [inFlagSet]
  exact if_neg unset

theorem marked_port (k : Nat) (items : List Item) (s : State) :
    (items.foldl (markReported k) s).port = s.port := by
  induction items generalizing s with
  | nil => rfl
  | cons x rest ih => exact ih _

section

variable {k : Nat} (hk : k < 48)
include hk

theorem itemSlot_marked {l : List Item} (codes : ∀ x ∈ l, x.code < 24)
    (distinct : l.Pairwise fun x y => x.code ≠ y.code) (s : State) {x : Item} (hx : x ∈ l) :
    itemSlot (l.foldl (markReported k) s) k x.code =
      { itemSlot s k x.code with reported := some x.value } := by
  obtain ⟨u, -, before, -, marked⟩ := foldl_reaches (f := markReported k)
    (fun u y code hc other => by rw [itemSlot_markReported hk u y hc, if_neg other])
    (fun u y => (Works.refl u).modNode k _) codes distinct s hx
  rw [marked, itemSlot_markReported hk u x (codes x hx), if_pos rfl, before]

theorem itemSlot_marked_of_untaken {l : List Item} {code : Nat} (hc : code < 24)
    (untaken : ∀ x ∈ l, x.code ≠ code) (s : State) :
    itemSlot (l.foldl (markReported k) s) k code = itemSlot s k code :=
  itemSlot_foldl_of_untaken
    (fun u y code hc other => by rw [itemSlot_markReported hk u y hc, if_neg other]) hc untaken s

end

/-- R37, R38: the report of the items taken from `s`, which leaves `t`. -/
structure Reported (k : Nat) (taken : List Item) (s t : State) : Prop where
  none : MakesNone s k taken → t.port.reports = s.port.reports ∧ t.port.lost = s.port.lost ∧
    ∀ x ∈ taken, (itemSlot t k x.code).reported = (itemSlot s k x.code).reported
  made : ¬MakesNone s k taken → s.port.reports.length < 16 →
    t.port.reports = s.port.reports ++ [⟨rmcByte, supervisorByte, 0x22#8, 0x00#8,
      be1 k ++ be1 (nodeCfg s k).segment ++ be1 (nodeCfg s k).address ++ be1 (nodeCfg s k).kind.ctorIdx ++
        be1 (nodeAt t k).state.ctorIdx ++ be1 (chosenItems s k taken).length ++
        (chosenItems s k taken).flatMap itemBytes⟩] ∧
    t.port.lost = s.port.lost ∧
    ∀ x ∈ taken, (itemSlot t k x.code).reported =
      if x ∈ chosenItems s k taken then some x.value else (itemSlot s k x.code).reported
  dropped : ¬MakesNone s k taken → ¬s.port.reports.length < 16 →
    t.port.reports = s.port.reports ∧ t.port.lost = min 65535 (s.port.lost + 1) ∧
    inFlagSet t.port.flags .noticeLost = true ∧
    ∀ x ∈ taken, (itemSlot t k x.code).reported = (itemSlot s k x.code).reported

/-- R37, R38: with no notice enabled, a report is made, dropped or passed over. -/
theorem reported_makeReport {k : Nat} (hk : k < 48) {taken : List Item} (codes : ∀ x ∈ taken, x.code < 24)
    (distinct : taken.Pairwise fun x y => x.code ≠ y.code) {s : State} (silent : noticeMask s = 0#24) :
    Reported k taken s (makeReport k taken s) := by
  obtain ⟨-, state, -⟩ := makeReport_node k taken s
  constructor
  case none =>
    intro none
    have eq : makeReport k taken s = s := by
      unfold makeReport
      rw [reportItems_of_none none]
    rw [eq]
    exact ⟨rfl, rfl, fun _ _ => rfl⟩
  case made =>
    intro some room
    obtain ⟨u, hu⟩ : ∃ u, modPort (fun p => { p with
      reports := p.reports ++ [reportFrame s k (chosenItems s k taken)] }) s = u := ⟨_, rfl⟩
    have eq : makeReport k taken s = (chosenItems s k taken).foldl (markReported k) u := by
      unfold makeReport
      rw [reportItems_of_some some]
      simp only [queueReport, reportRoom, room, decide_true, if_true, hu]
    rw [state, eq, marked_port, ← hu]
    refine ⟨rfl, rfl, fun x hx => ?_⟩
    have chosen {y : Item} (hy : y ∈ chosenItems s k taken) : y ∈ taken := (List.mem_filter.mp hy).1
    split
    next here =>
      rw [itemSlot_marked hk (fun y hy => codes y (chosen hy)) (distinct.filter _) _ here]
    next gone =>
      rw [itemSlot_marked_of_untaken hk (codes x hx) fun y hy => ?_]
      · rfl
      · have : Std.Symm fun x y : Item => x.code ≠ y.code := ⟨fun _ _ => Ne.symm⟩
        exact distinct.forall (chosen hy) hx fun same => gone (same ▸ hy)
  case dropped =>
    intro some full
    have eq : makeReport k taken s = driveAlert (countLost s) := by
      unfold makeReport
      rw [reportItems_of_some some]
      simp only [queueReport, reportRoom, full, decide_false, Bool.false_eq_true, if_false]
    rw [eq, countLost_of_silent silent]
    exact ⟨rfl, rfl, flag_setFlag .noticeLost _, fun _ _ => rfl⟩

/-- What is reported reads of the state before it the tables, the reported values and the report queue, and
of the state after it the record of the entry and the port. -/
theorem Reported.congr {k : Nat} {taken : List Item} {s s' t t' : State} (h : Reported k taken s t)
    (tables : s'.tables = s.tables)
    (values : ∀ x ∈ taken, (itemSlot s' k x.code).reported = (itemSlot s k x.code).reported)
    (before : s'.port.reports = s.port.reports ∧ s'.port.lost = s.port.lost) (nodes : t'.nodes = t.nodes)
    (after : t'.port.reports = t.port.reports ∧ t'.port.lost = t.port.lost)
    (flags : ∀ f, inFlagSet t.port.flags f = true → inFlagSet t'.port.flags f = true) :
    Reported k taken s' t' := by
  have config := nodeCfg_congr (congrArg Tables.nodes tables) k
  have chosen : chosenItems s' k taken = chosenItems s k taken :=
    List.filter_congr fun x hx => by rw [config, values x hx, tables]
  have makes : MakesNone s' k taken ↔ MakesNone s k taken := by
    simp only [MakesNone, config, chosen]
  have slot (code : Nat) : itemSlot t' k code = itemSlot t k code := itemSlot_congr nodes k code
  obtain ⟨reports, lost⟩ := before
  obtain ⟨reportsAfter, lostAfter⟩ := after
  constructor
  case none =>
    intro none
    obtain ⟨same, count, kept⟩ := h.none (makes.mp none)
    rw [reportsAfter, lostAfter, reports, lost]
    exact ⟨same, count, fun x hx => by rw [slot, values x hx, kept x hx]⟩
  case made =>
    intro some room
    rw [reports] at room
    obtain ⟨made, count, kept⟩ := h.made (fun none => some (makes.mpr none)) room
    rw [reportsAfter, lostAfter, reports, lost, config, chosen, nodeAt_congr nodes]
    exact ⟨made, count, fun x hx => by rw [slot, values x hx, kept x hx]⟩
  case dropped =>
    intro some full
    rw [reports] at full
    obtain ⟨same, count, flag, kept⟩ := h.dropped (fun none => some (makes.mpr none)) full
    rw [reportsAfter, lostAfter, reports, lost]
    exact ⟨same, count, flags _ flag, fun x hx => by rw [slot, values x hx, kept x hx]⟩

/-- R37: a report changes nothing of a slot but the reported value. -/
theorem itemSlot_makeReport (k : Nat) (taken : List Item) (s : State) {code : Nat} (hc : code < 24) :
    (itemSlot (makeReport k taken s) k code).violation = (itemSlot s k code).violation ∧
      (itemSlot (makeReport k taken s) k code).confirm = (itemSlot s k code).confirm := by
  obtain ⟨items, nodes⟩ := makeReport_nodes k taken s
  rw [itemSlot_congr nodes]
  clear nodes
  induction items generalizing s with
  | nil => exact ⟨rfl, rfl⟩
  | cons x rest ih =>
    have marked : (itemSlot (markReported k s x) k code).violation = (itemSlot s k code).violation ∧
        (itemSlot (markReported k s x) k code).confirm = (itemSlot s k code).confirm := by
      rw [itemSlot, markReported, nodeAt_modNode]
      split
      · rw [slot_putSlot _ _ _ hc]
        split
        next same => rw [same]; exact ⟨rfl, rfl⟩
        · exact ⟨rfl, rfl⟩
      · exact ⟨rfl, rfl⟩
    obtain ⟨violation, confirm⟩ := marked
    obtain ⟨violations, confirms⟩ := ih (markReported k s x)
    exact ⟨violations.trans violation, confirms.trans confirm⟩

theorem mem_taken_of_reportItems {s : State} {k : Nat} {taken items : List Item}
    (h : reportItems s k taken = some items) {x : Item} (hx : x ∈ items) : x ∈ taken := by
  by_cases none : MakesNone s k taken
  · rw [reportItems_of_none none] at h
    cases h
  · rw [reportItems_of_some none] at h
    obtain rfl := Option.some.inj h
    exact (List.mem_filter.mp hx).1

theorem itemSlot_makeReport_of_untaken {k : Nat} (hk : k < 48) {taken : List Item} {code : Nat}
    (hc : code < 24) (untaken : ∀ x ∈ taken, x.code ≠ code) (s : State) :
    itemSlot (makeReport k taken s) k code = itemSlot s k code := by
  unfold makeReport
  split
  · rfl
  next items chosen =>
    have queued : (queueReport (reportFrame s k items) s).1.nodes = s.nodes :=
      touches_of_erase (bs := [.port]) (by simp) .nodes (by decide)
    split <;> rename_i u hu <;> rw [hu] at queued
    · rw [itemSlot_marked_of_untaken hk hc fun x hx => untaken x (mem_taken_of_reportItems chosen hx)]
      exact itemSlot_congr queued k code
    · exact itemSlot_congr queued k code

/-! ### The end of a POLL -/

theorem works_announced (k : Nat) (kind : Byte) (payload : List Byte) (s : State) :
    Works (settled k kind payload s) (announced k kind payload s) := by
  rw [announced_eq]
  exact .ite ((Works.refl _).replyNews _ _ _) (((Works.refl _).replyNews _ _ _).raiseFlag _ _)

section

variable {i : Nat} {c : Current} {f : Frame} {s : State}

theorem flags_endGood (hi : i < 4) (x : EventFlag)
    (set : inFlagSet (goodInspected i c f s).port.flags x = true) :
    inFlagSet (endGood i c f s).port.flags x = true := by
  rw [endGood_eq]
  exact (works_returnToIdle hi _).flags _ ((handsOn_tellGood hi c f _).flags _ set)

theorem tables_endGood (hi : i < 4) :
    (endGood i c f s).tables = (goodInspected i c f s).tables := by
  rw [endGood_eq]
  exact (works_returnToIdle hi _).tables.trans (handsOn_tellGood hi c f _).tables

/-- The TELEMETRY of a POLL, fresh, for an entry that takes it. -/
structure PollReply (c : Current) (f : Frame) (s : State) : Prop where
  kind : c.ex.kind = .poll
  telemetry : f.kind = telemetryByte
  fresh : c.stale = false
  target : c.ex.target < 48
  inUse : (nodeCfg s c.ex.target).inUse = true
  enabled : (nodeAt s c.ex.target).state ≠ .disabled

variable (h : PollReply c f s)
include h

/-- R26: the reply is announced, and its items are reported. -/
theorem PollReply.inspected : goodInspected i c f s =
    makeReport c.ex.target (itemsTaken (nodeCfg s c.ex.target).kind f.payload)
      (announced c.ex.target telemetryByte f.payload (goodCounted i s)) := by
  rw [goodInspected, h.telemetry, h.fresh, h.kind]
  exact inspectReply_of_applies (s := goodCounted i s) (kind := telemetryByte) (poll := true)
    ⟨rfl, h.inUse, h.enabled⟩

/-- R27, R34: the slots of the items that are not taken stay. -/
theorem PollReply.untaken {code : Nat} (hc : code < 24)
    (untaken : ∀ x ∈ itemsTaken (nodeCfg s c.ex.target).kind f.payload, x.code ≠ code) :
    itemSlot (endGood i c f s) c.ex.target code = itemSlot s c.ex.target code := by
  rw [itemSlot_congr endGood_nodes, h.inspected, itemSlot_makeReport_of_untaken h.target hc untaken,
    itemSlot_congr (announced_nodes _ _ _ _)]
  exact slot_settled telemetryByte f.payload (goodCounted i s) hc untaken

/-- R34 to R36: each item taken is checked. -/
theorem PollReply.checked (hi : i < 4) {x : Item}
    (hx : x ∈ itemsTaken (nodeCfg s c.ex.target).kind f.payload) :
    Checked (nth s.tables.limits x.code) (itemSlot s c.ex.target x.code)
        (itemSlot (endGood i c f s) c.ex.target x.code) x.value ∧
      ((itemSlot (endGood i c f s) c.ex.target x.code).violation ≠
          (itemSlot s c.ex.target x.code).violation →
        inFlagSet (endGood i c f s).port.flags .limit = true) := by
  obtain ⟨checked, -, flag⟩ := itemSlot_settled h.target f.payload (goodCounted i s) hx
  obtain ⟨violation, confirm⟩ := itemSlot_makeReport c.ex.target
    (itemsTaken (nodeCfg s c.ex.target).kind f.payload)
    (announced c.ex.target telemetryByte f.payload (goodCounted i s)) (code_lt_of_mem_itemsTaken hx)
  rw [← h.inspected, itemSlot_congr (announced_nodes _ _ _ _), ← itemSlot_congr endGood_nodes]
    at violation confirm
  refine ⟨checked.congr rfl rfl violation confirm, fun changed => flags_endGood hi _ ?_⟩
  rw [h.inspected]
  refine ((Works.refl _).makeReport _ _).flags _ ((works_announced _ _ _ _).flags _ (flag ?_))
  rw [← violation]
  exact changed

/-- R37, R38: with no notice enabled, the items taken are reported by the mode of the entry. -/
theorem PollReply.reported (hi : i < 4) (silent : noticeMask s = 0#24) : Reported c.ex.target
    (itemsTaken (nodeCfg s c.ex.target).kind f.payload) s (endGood i c f s) := by
  obtain ⟨u, hu⟩ : ∃ u, announced c.ex.target telemetryByte f.payload (goodCounted i s) = u := ⟨_, rfl⟩
  have tables : u.tables = s.tables := by
    rw [← hu]
    exact ((works_settled _ _ _ _).trans (works_announced _ _ _ _)).tables
  have before := heard_announced c.ex.target telemetryByte f.payload (goodCounted i s)
  rw [hu, heard_eq_iff (s := goodCounted i s) silent tables] at before
  have silent : noticeMask u = 0#24 := (noticeMask_congr tables).trans silent
  have inspected := h.inspected (i := i)
  rw [hu] at inspected
  have after := heard_endGood (i := i) (f := f) (s := s) h.kind
  have unchanged : (goodInspected i c f s).tables = u.tables := by
    rw [inspected]
    exact ((Works.refl u).makeReport _ _).tables
  rw [heard_eq_iff ((noticeMask_congr unchanged).trans silent) (tables_endGood hi)] at after
  have made := reported_makeReport h.target
    (taken := itemsTaken (nodeCfg s c.ex.target).kind f.payload)
    (fun _ hx => code_lt_of_mem_itemsTaken hx) (pairwise_lastOfEach _) silent
  rw [← inspected] at made
  obtain ⟨reports, lost⟩ := before
  refine made.congr tables.symm (fun x hx => ?_) ⟨reports.symm, lost.symm⟩ endGood_nodes after
    (flags_endGood hi)
  obtain ⟨-, kept, -⟩ := itemSlot_settled h.target f.payload (goodCounted i s) hx
  rw [← hu, itemSlot_congr (announced_nodes _ _ _ _)]
  exact kept.symm

end

/-- Settles O59: the items taken are stored and checked one by one; what follows leaves their violations and
counts, and reports them by the mode of the entry. -/
theorem replyIsCheckedAndReported : Obligations.ReplyIsCheckedAndReported := by
  unfold Obligations.ReplyIsCheckedAndReported
  intro i s c bytes f current phase good kind fresh target inUse enabled
  have expected := expectsReply_of_good good
  rw [kind] at expected
  have reply : PollReply c f s := ⟨kind, eq_of_beq expected, fresh, target, inUse, enabled⟩
  refine ⟨_, exec_replyComplete_of_good current phase good, ?_, fun code hc untaken =>
    reply.untaken hc untaken, fun x hx new hnew => ?_, fun silent => ?_⟩
  · refine touches_of_erase (erase_endGood _ _ _ _ ?_ ?_ ?_ ?_ ?_ ?_ ?_ ?_)
    all_goals decide
  · subst hnew
    obtain ⟨⟨disabled, outside, inside, violating⟩, flag⟩ := reply.checked i.isLt hx
    exact ⟨disabled, outside, inside, violating, flag⟩
  · obtain ⟨none, made, dropped⟩ := reply.reported i.isLt silent
    split
    next passed => exact none passed
    next some =>
      split
      next room => exact made some room
      next full => exact dropped some full

end Sys2Proof.Machine


namespace Sys2Proof.Machine

/-! ## Available power (R46, R47) -/

/-- R48: what a recomputation makes of the count and of available power. -/
theorem figures_recomputeAvailable (s : State) :
    (recomputeAvailable s).cap.count = (contributors s).length ∧
      (recomputeAvailable s).cap.available =
        availableOf (reserveCount s) ((contributors s).map (contribution s)) := by
  have same : contributors s = (shown s).contributing :=
    List.filter_congr fun k _ => isContributing_eq s k
  have h := shown_recomputeAvailable s
  rw [same]
  exact ⟨congrArg Shown.count h, congrArg Shown.available h⟩

/-- R23: an absent slot reads 0 here, so a reading of 0 says nothing of an absent one. -/
theorem reading_eq_zero_iff (r : NodeRun) (code : Nat) :
    reading r code 0 = 0 ↔ ((nth r.slots code).present = true → (nth r.slots code).value = 0) := by
  unfold reading
  dsimp only
  split
  next present => simp [present]
  next absent => simp [absent]

theorem mem_contributors {s : State} {k : Nat} : k ∈ contributors s ↔
    k < 48 ∧ (nodeCfg s k).inUse = true ∧ (nodeCfg s k).kind = .rectifier ∧
      (nodeAt s k).state = .active ∧ reading (nodeAt s k) 0 0 = 0 := by
  have input : (inStateReading (nodeAt s k) == 0) = (reading (nodeAt s k) 0 0 == 0) := min_one_beq_zero _
  simp [contributors, allEntries, isContributing, input, and_assoc]

/-- R46: a contribution is held to the rated power by the RATING reading, where one is present. -/
theorem contribution_eq (s : State) (k : Nat) : contribution s k =
    if (nth (nodeAt s k).slots 3).present = true
    then min (nodeCfg s k).rated (nth (nodeAt s k).slots 3).value else (nodeCfg s k).rated := by
  unfold contribution ratingReading reading
  dsimp only
  split
  · rfl
  · exact Nat.min_self _

/-- Settles O39: the contributors are the entries asked for, and the recomputation reads their figures. -/
theorem contributingRectifiersAreCounted : Obligations.ContributingRectifiersAreCounted := by
  unfold Obligations.ContributingRectifiersAreCounted
  intro s
  obtain ⟨count, available⟩ := figures_recomputeAvailable s
  refine ⟨contributors s, List.nodup_range.filter _, fun k => ?_, count, ?_⟩
  · rw [mem_contributors, reading_eq_zero_iff]
  · rw [available]
    exact congrArg _ (List.map_congr_left fun k _ => contribution_eq s k)

/-! ## The reserve (R47) -/

theorem sortDown_perm (l : List Nat) : (sortDown l).Perm l := by
  induction l with
  | nil => rfl
  | cons x rest ih => exact (perm_insert _ x _).trans (ih.cons x)

theorem sortDown_pairwise (l : List Nat) : (sortDown l).Pairwise (fun a b => b ≤ a) := by
  induction l with
  | nil => exact .nil
  | cons x rest ih =>
    exact pairwise_insert (R := fun a b => b ≤ a) _ x (fun _ _ _ hab hbc => Nat.le_trans hbc hab) _
      (fun _ _ above => of_decide_eq_true above)
      (fun _ _ below => Nat.le_of_not_le (of_decide_eq_false below)) ih

/-- Two lists of which the first lies above the second are parted by a number. -/
theorem exists_parting {top low : List Nat} (above : ∀ x ∈ top, ∀ y ∈ low, y ≤ x) :
    ∃ m, (∀ x ∈ top, m ≤ x) ∧ ∀ y ∈ low, y ≤ m := by
  induction low with
  | nil => exact ⟨0, fun _ _ => Nat.zero_le _, nofun⟩
  | cons y low ih =>
    obtain ⟨m, under, bounded⟩ := ih fun x hx z hz => above x hx z (.tail _ hz)
    refine ⟨max m y, fun x hx => Nat.max_le.mpr ⟨under x hx, above x hx y (.head _)⟩, fun z hz => ?_⟩
    rcases List.mem_cons.mp hz with rfl | hz
    · exact Nat.le_max_right _ _
    · exact Nat.le_trans (bounded z hz) (Nat.le_max_left _ _)

/-- A part that lies above the rest has the largest sum of all parts of its length: counted from the number
that parts the two, no other part holds more. -/
theorem sum_le_of_above {top low big rest : List Nat} (perm : (top ++ low).Perm (big ++ rest))
    (length : big.length = top.length) (above : ∀ x ∈ top, ∀ y ∈ low, y ≤ x) : big.sum ≤ top.sum := by
  obtain ⟨m, under, bounded⟩ := exists_parting above
  have cancelled : (low.map (· - m)).sum = 0 := by
    refine List.sum_eq_zero fun n hn => ?_
    obtain ⟨y, hy, rfl⟩ := List.mem_map.mp hn
    exact Nat.sub_eq_zero_of_le (bounded y hy)
  have total := (perm.map (· - m)).sum_eq
  simp only [List.map_append, List.sum_append, cancelled] at total
  have split_sum (l : List Nat) : (l.map fun x => m + (x - m)).sum = l.length * m + (l.map (· - m)).sum := by
    rw [List.sum_map_add, List.map_const', List.sum_replicate, smul_eq_mul]
  have held : (top.map fun x => m + (x - m)) = top := by
    refine (List.map_congr_left fun x hx => ?_).trans (List.map_id top)
    exact Nat.add_sub_cancel' (under x hx)
  calc big.sum = (big.map id).sum := by rw [List.map_id]
    _ ≤ (big.map fun x => m + (x - m)).sum := List.sum_le_sum fun x _ => le_add_tsub
    _ = big.length * m + (big.map (· - m)).sum := split_sum big
    _ ≤ top.length * m + (top.map (· - m)).sum := by rw [length]; omega
    _ = top.sum := by rw [← split_sum, held]

/-- R47: the loss of the `k` largest leaves available power, and the loss of any other `k` leaves more. -/
theorem availableOf_spec {k : Nat} {given big rest : List Nat} (perm : given.Perm (big ++ rest))
    (length : big.length = k) (more : k < given.length) :
    ((∀ x ∈ big, ∀ y ∈ rest, y ≤ x) → availableOf k given + big.sum = given.sum) ∧
      availableOf k given ≤ rest.sum := by
  have sorted := sortDown_perm given
  have parts : ((sortDown given).take k ++ (sortDown given).drop k).Perm (big ++ rest) := by
    rw [List.take_append_drop]
    exact sorted.trans perm
  have above : ∀ x ∈ (sortDown given).take k, ∀ y ∈ (sortDown given).drop k, y ≤ x := by
    have pairs := sortDown_pairwise given
    rw [← List.take_append_drop k (sortDown given)] at pairs
    exact (List.pairwise_append.mp pairs).2.2
  have taken : ((sortDown given).take k).length = k :=
    List.length_take_of_le (by rw [sorted.length_eq]; omega)
  have largest := sum_le_of_above parts (length.trans taken.symm) above
  have total : given.sum = big.sum + rest.sum := by rw [perm.sum_eq, List.sum_append]
  have held : ((sortDown given).take k).sum ≤ given.sum := by
    rw [← sorted.sum_eq]
    exact (List.take_sublist k _).sum_le_sum fun _ _ => Nat.zero_le _
  rw [availableOf, if_neg (by omega)]
  refine ⟨fun dominates => ?_, by omega⟩
  have smallest := sum_le_of_above parts.symm (taken.trans length.symm) dominates
  omega

/-- Settles O40: R47's definition, and what the loss of any part of the contributions leaves. -/
theorem availablePowerHoldsTheReserve : Obligations.AvailablePowerHoldsTheReserve := by
  unfold Obligations.AvailablePowerHoldsTheReserve
  refine ⟨⟨by decide, fun s fit => ?_⟩, fun s => ?_⟩
  · have held : fitSetting 13 (reserveCount s) = reserveCount s := fit.1 13 (by decide)
    have range : fitSetting 13 (reserveCount s) = max 0 (min 3 (reserveCount s)) := rfl
    omega
  · obtain ⟨-, available⟩ := figures_recomputeAvailable s
    dsimp only
    rw [available]
    generalize (contributors s).map (contribution s) = given
    refine ⟨fun few => if_pos few, fun more => ⟨⟨given.take (reserveCount s), given.drop (reserveCount s),
      by rw [List.take_append_drop], List.length_take_of_le (Nat.le_of_lt more)⟩,
      fun big rest perm length => availableOf_spec perm length more⟩, fun zero => ?_⟩
    rw [zero, availableOf]
    split
    next empty => simp [List.length_eq_zero_iff.mp (Nat.le_zero.mp empty)]
    · rw [List.take_zero, List.sum_nil, Nat.sub_zero]

end Sys2Proof.Machine


namespace Sys2Proof.Machine

/-! ## The Capacity Unit's sheds (R53, R54, R74) -/

theorem raiseFlag_cap (f : EventFlag) (p : List Byte) (s : State) : (raiseFlag f p s).cap = s.cap :=
  touches_of_erase (bs := [.port]) (by simp) .cap (by decide)

theorem raiseFlag_mail (f : EventFlag) (p : List Byte) (s : State) : (raiseFlag f p s).mail = s.mail :=
  touches_of_erase (bs := [.port]) (by simp) .mail (by decide)

/-- R53: the walk takes the shortest run of the order that brings the remainder down to the target. -/
theorem walksTo_walkOrder (load : Nat → Nat) (target : Nat) (order : List Nat) (start : Nat) :
    WalksTo order load start target (walkOrder load target order start).zones
      (walkOrder load target order start).remainder := by
  induction order generalizing start with
  | nil => exact ⟨0, Nat.le_refl _, rfl, rfl, .inr rfl, nofun⟩
  | cons z rest ih =>
    unfold walkOrder
    split
    next enough => exact ⟨0, Nat.zero_le _, rfl, rfl, .inl enough, nofun⟩
    next above =>
      obtain ⟨n, bound, zones, remainder, reached, shortest⟩ := ih (start - load z)
      refine ⟨n + 1, Nat.succ_le_succ bound, congrArg (z :: ·) zones, ?_,
        reached.imp id (congrArg (· + 1)), fun m hm => ?_⟩
      · rw [List.take_succ_cons, List.map_cons, List.sum_cons, ← Nat.sub_sub]
        exact remainder
      · cases m with
        | zero => exact Nat.lt_of_not_le above
        | succ m =>
          rw [List.take_succ_cons, List.map_cons, List.sum_cons, ← Nat.sub_sub]
          exact shortest m (Nat.lt_of_succ_lt_succ hm)

/-- R53: the record of a shed computed from the figures and the zones as they stand. -/
def shedRecord (s : State) : CapShed :=
  let w := walkOrder (allotment s) s.cap.available (shedOrder s) s.cap.committed
  ⟨s.cap.available, s.cap.committed, w.remainder, w.zones, decide (s.cap.available < w.remainder)⟩

/-- R74: the record is that of the walk of the shed order. -/
theorem walksTo_shedRecord (s : State) : WalksTo (shedSequence s) (allotment s) s.cap.committed
    s.cap.available (shedRecord s).zones (shedRecord s).remainder := by
  rw [shedSequence_eq_shedOrder]
  exact walksTo_walkOrder _ _ _ _

/-- R49: an allotment reads the zone's state and its entry in the table. -/
theorem allotment_congr {s t : State} {z : Nat} (config : zoneCfg t z = zoneCfg s z)
    (state : (zoneAt t z).state = (zoneAt s z).state) : allotment t z = allotment s z := by
  unfold allotment
  rw [config, state]

/-- The record reads the figures, the zones and their table. -/
theorem shedRecord_congr {s t : State} (available : t.cap.available = s.cap.available)
    (committed : t.cap.committed = s.cap.committed) (tables : t.tables = s.tables) (zc : t.zc = s.zc) :
    shedRecord t = shedRecord s := by
  have config : zoneCfg t = zoneCfg s := by
    funext z
    rw [zoneCfg, tables, zoneCfg]
  have zones : zoneAt t = zoneAt s := funext (zoneAt_congr zc)
  have inState : zoneIs t = zoneIs s := by
    funext x z
    rw [zoneIs, zones, zoneIs]
  have allotments : allotment t = allotment s :=
    funext fun z => allotment_congr (congrFun config z) (by rw [zones])
  have order : shedOrder t = shedOrder s := by
    simp only [shedOrder, inrushZones, onOfTier, config, inState]
  simp only [shedRecord, available, committed, allotments, order]

/-- R54: the Capacity Unit once a shed computed as `r` has been handed over. -/
def shedTaken (r : CapShed) (c : Capacity) : Capacity :=
  { c with
    outstanding := c.outstanding || !r.zones.isEmpty
    short := c.short || r.exhausted
    lastShed := some r
    sheds := if r.zones.isEmpty then c.sheds else sat16 c.sheds }

/-- R53 to R55: what the computing of a shed leaves. -/
structure Sheds (s t : State) : Prop where
  cap : t.cap = shedTaken (shedRecord s) s.cap
  handed : (shedRecord s).zones ≠ [] →
    t.mail = { s.mail with capShed := s.mail.capShed ++ [(shedRecord s).zones] } ∧
      inFlagSet t.port.flags .deficit = true
  kept : (shedRecord s).zones = [] → t.mail = s.mail
  short : (shedRecord s).exhausted = true → s.cap.short = false →
    inFlagSet t.port.flags .capacityShort = true

theorem handOverShed_empty {w : Walk} (empty : w.zones = []) (s : State) : handOverShed w s = s := by
  rw [handOverShed, empty]
  rfl

theorem handOverShed_some {w : Walk} (some : w.zones ≠ []) (s : State) :
    (handOverShed w s).cap = { s.cap with outstanding := true, sheds := sat16 s.cap.sheds } ∧
      (handOverShed w s).mail = { s.mail with capShed := s.mail.capShed ++ [w.zones] } ∧
      inFlagSet (handOverShed w s).port.flags .deficit = true := by
  have handed : w.zones.isEmpty = false := by simpa using some
  rw [handOverShed, if_neg (by simp [handed])]
  exact ⟨raiseFlag_cap _ _ _, raiseFlag_mail _ _ _, flag_raiseFlag _ _ _⟩

/-- R54: a shed is recorded, and handed over where it is not empty. -/
theorem sheds_handOver (s : State) {t : State} {w : Walk}
    (ht : t = handOverShed w (modCap (fun c => { c with lastShed := some (shedRecord s) }) s))
    (zones : w.zones = (shedRecord s).zones) :
    t.cap = { shedTaken (shedRecord s) s.cap with short := s.cap.short } ∧
      ((shedRecord s).zones ≠ [] →
        t.mail = { s.mail with capShed := s.mail.capShed ++ [(shedRecord s).zones] } ∧
          inFlagSet t.port.flags .deficit = true) ∧
      ((shedRecord s).zones = [] → t.mail = s.mail) := by
  subst ht
  by_cases empty : (shedRecord s).zones = []
  · rw [handOverShed_empty (zones.trans empty)]
    exact ⟨by simp [shedTaken, empty], fun some => absurd empty some, fun _ => rfl⟩
  · obtain ⟨cap, mail, flag⟩ := handOverShed_some (w := w) (by rwa [zones])
      (modCap (fun c => { c with lastShed := some (shedRecord s) }) s)
    refine ⟨?_, fun _ => ⟨by rw [mail, zones]; rfl, flag⟩, fun h => absurd h empty⟩
    rw [cap]
    simp [shedTaken, empty]

theorem sheds_computeShed (s : State) : Sheds s (computeShed s) := by
  obtain ⟨t, ht⟩ : ∃ t, t = handOverShed
    (walkOrder (allotment s) s.cap.available (shedOrder s) s.cap.committed)
    (modCap (fun c => { c with lastShed := some (shedRecord s) }) s) := ⟨_, rfl⟩
  obtain ⟨cap, handed, kept⟩ := sheds_handOver s ht rfl
  have computed : computeShed s =
      if (shedRecord s).exhausted && !t.cap.short then
        raiseFlag .capacityShort
          (be4 t.cap.available ++ be4 t.cap.committed ++ be4 (shedRecord s).remainder)
          (modCap (fun c => { c with short := true }) t)
      else t := by
    subst ht
    rfl
  have was : t.cap.short = s.cap.short := by rw [cap]
  rw [computed, was]
  split
  next raised =>
    simp only [Bool.and_eq_true, Bool.not_eq_true'] at raised
    obtain ⟨exhausted, long⟩ := raised
    have flags := ((Works.refl t).modCap fun c => { c with short := true }).raiseFlag .capacityShort
      (be4 t.cap.available ++ be4 t.cap.committed ++ be4 (shedRecord s).remainder)
    refine ⟨?_, fun some => ⟨?_, flags.flags _ (handed some).2⟩, fun none => ?_,
      fun _ _ => flag_raiseFlag _ _ _⟩
    · rw [raiseFlag_cap, modCap_cap, cap]
      simp [shedTaken, exhausted]
    · rw [raiseFlag_mail, modCap_mail, (handed some).1]
    · rw [raiseFlag_mail, modCap_mail, kept none]
  next quiet =>
    refine ⟨?_, handed, kept, fun exhausted long => absurd (by simp [exhausted, long]) quiet⟩
    rw [cap]
    cases exhausted : (shedRecord s).exhausted <;> cases short : s.cap.short <;>
      simp_all [shedTaken]

/-! ## Entry into DEFICIT, and the news (R50, R52, R56) -/

/-- R50, R52: DEFICIT is entered and its grace period started; the shed of a grace time of 0 is still to be
computed. -/
def deficitBegun (s : State) : State :=
  let grace := graceTime s
  let s := modCap (fun c => { c with
      state := .deficit
      deficits := sat16 c.deficits
      grace := if grace = 0 then .expired else .running
      graceTimer := if grace = 0 then .stopped else startTimer s grace }) s
  raiseFlag .deficit (deficitEntered s.cap.available s.cap.committed grace) s

theorem enterDeficit_eq (s : State) : enterDeficit s =
    if graceTime s = 0 && !(deficitBegun s).cap.outstanding then computeShed (deficitBegun s)
    else deficitBegun s := rfl

theorem deficitBegun_cap (s : State) : (deficitBegun s).cap = { s.cap with
    state := .deficit
    deficits := sat16 s.cap.deficits
    grace := if graceTime s = 0 then .expired else .running
    graceTimer := if graceTime s = 0 then .stopped else startTimer s (graceTime s) } :=
  raiseFlag_cap _ _ _

/-- R56: the news changes deliveries alone, and of them those to the Zone Controller and the Sequencer. -/
theorem tellCapacityNews_keeps (before : Capacity) (s : State) :
    (tellCapacityNews before s).cap = s.cap ∧ (tellCapacityNews before s).port = s.port ∧
      (tellCapacityNews before s).mail.rideToCap = s.mail.rideToCap ∧
      (tellCapacityNews before s).mail.capShedDone = s.mail.capShedDone := by
  unfold tellCapacityNews
  dsimp only
  split <;> exact ⟨rfl, rfl, rfl, rfl⟩

/-- R54: a shed is sent on its own path. -/
theorem Sheds.deliveries {s t : State} (h : Sheds s t) :
    t.mail.rideToCap = s.mail.rideToCap ∧ t.mail.capShedDone = s.mail.capShedDone := by
  by_cases empty : (shedRecord s).zones = []
  · rw [h.kept empty]
    exact ⟨rfl, rfl⟩
  · rw [(h.handed empty).1]
    exact ⟨rfl, rfl⟩

end Sys2Proof.Machine


namespace Sys2Proof.Machine

/-! ## The events of the Capacity Unit (R51, R52, R54) -/

/-- R50 to R52: what an entry into DEFICIT leaves. -/
structure EntersDeficit (s t : State) : Prop where
  state : t.cap.state = .deficit
  available : t.cap.available = s.cap.available
  committed : t.cap.committed = s.cap.committed
  count : t.cap.count = s.cap.count
  deficits : t.cap.deficits = sat16 s.cap.deficits
  grace : t.cap.grace = if graceTime s = 0 then .expired else .running
  graceTimer : t.cap.graceTimer = if graceTime s = 0 then .stopped else startTimer s (graceTime s)
  lastShed : graceTime s ≠ 0 → t.cap.lastShed = s.cap.lastShed
  flag : inFlagSet t.port.flags .deficit = true
  rideToCap : t.mail.rideToCap = s.mail.rideToCap

theorem entersDeficit_begun (s : State) : EntersDeficit s (deficitBegun s) := by
  have cap := deficitBegun_cap s
  have mail : (deficitBegun s).mail = s.mail := raiseFlag_mail _ _ _
  exact ⟨by rw [cap], by rw [cap], by rw [cap], by rw [cap], by rw [cap], by rw [cap], by rw [cap],
    fun _ => by rw [cap], flag_raiseFlag _ _ _, by rw [mail]⟩

/-- R52: a grace time of 0 has the shed computed at the entry. -/
theorem EntersDeficit.shed {s t : State} (h : EntersDeficit s t) (none : graceTime s = 0) :
    EntersDeficit s (computeShed t) := by
  have sheds := sheds_computeShed t
  have cap := sheds.cap
  refine ⟨?_, ?_, ?_, ?_, ?_, ?_, ?_, fun some => absurd none some,
    ((Works.refl t).computeShed).flags _ h.flag, sheds.deliveries.1.trans h.rideToCap⟩
  · rw [cap]; exact h.state
  · rw [cap]; exact h.available
  · rw [cap]; exact h.committed
  · rw [cap]; exact h.count
  · rw [cap]; exact h.deficits
  · rw [cap]; exact h.grace
  · rw [cap]; exact h.graceTimer

theorem entersDeficit (s : State) : EntersDeficit s (enterDeficit s) := by
  rw [enterDeficit_eq]
  split
  next due =>
    simp only [Bool.and_eq_true, decide_eq_true_eq] at due
    exact (entersDeficit_begun s).shed due.1
  next => exact entersDeficit_begun s

/-- R56: the news of an entry into DEFICIT leaves it as it is. -/
theorem EntersDeficit.told {s t : State} (h : EntersDeficit s t) (before : Capacity) :
    EntersDeficit s (tellCapacityNews before t) := by
  obtain ⟨cap, port, ride, -⟩ := tellCapacityNews_keeps before t
  constructor
  case flag => rw [port]; exact h.flag
  case rideToCap => rw [ride]; exact h.rideToCap
  all_goals rw [cap]
  case state => exact h.state
  case available => exact h.available
  case committed => exact h.committed
  case count => exact h.count
  case deficits => exact h.deficits
  case grace => exact h.grace
  case graceTimer => exact h.graceTimer
  case lastShed => exact h.lastShed

/-- R51: the unit after it has been told that the Ride-Through Unit left NORMAL. -/
def suspended (c : Capacity) : Capacity :=
  { c with state := .suspended, grace := .none, graceTimer := .stopped, short := false }

/-- R50: the unit after an entry into BALANCED. -/
def balanced (c : Capacity) : Capacity :=
  { c with state := .balanced, grace := .none, graceTimer := .stopped, short := false }

theorem suspendCapacity_leaves (s : State) : (suspendCapacity s).cap = suspended s.cap ∧
    (suspendCapacity s).port = s.port ∧ (suspendCapacity s).mail.rideToCap = s.mail.rideToCap := by
  obtain ⟨cap, port, ride, -⟩ := tellCapacityNews_keeps s.cap (modCap suspended s)
  exact ⟨cap, port, ride⟩

/-- R51: the figures are evaluated as from BALANCED. -/
theorem resumeCapacity_eq (s : State) : resumeCapacity s = tellCapacityNews s.cap
    (if s.cap.available < s.cap.committed then enterDeficit (enterBalanced s) else enterBalanced s) := rfl

/-- R52: the unit stands at the expiry of its grace timer, its shed not yet computed. -/
def graceOver (s : State) : State :=
  modCap (fun c => { c with grace := .expired, graceTimer := .stopped }) s

theorem graceExpired_eq (s : State) :
    graceExpired s = if s.cap.outstanding then graceOver s else computeShed (graceOver s) := rfl

/-- R54: the mark of an outstanding shed is cleared. -/
def shedAnswered (s : State) : State := modCap (fun c => { c with outstanding := false }) s

/-- R55: a deficit whose grace has expired is evaluated once more. -/
theorem capacityShedDone_of_expired {s : State} (state : s.cap.state = .deficit)
    (grace : s.cap.grace = .expired) : capacityShedDone s = tellCapacityNews (shedAnswered s).cap
      (if s.cap.committed ≤ s.cap.available then enterBalanced (shedAnswered s)
        else computeShed (shedAnswered s)) := by
  simp [capacityShedDone, evaluateCapacity, shedAnswered, state, grace]

theorem capacityShedDone_of_other {s : State}
    (other : s.cap.state ≠ .deficit ∨ s.cap.grace ≠ .expired) : capacityShedDone s = shedAnswered s := by
  have not : (s.cap.state == .deficit && s.cap.grace == .expired) = false := by
    rcases other with state | grace
    · simp [state]
    · simp [grace]
  exact if_neg (by simp [not])

/-! ## The commands of the Capacity Unit -/

theorem exec_capacityRideNotice {s : State} {normal : Bool} {rest : List Bool}
    (mail : s.mail.rideToCap = normal :: rest) : exec .capacityRideNotice s =
      .next (if normal then resumeCapacity (modMail (fun m => { m with rideToCap := rest }) s)
        else suspendCapacity (modMail (fun m => { m with rideToCap := rest }) s)) := by
  show execCapacityRideNotice s = _
  rw [execCapacityRideNotice, mail]
  rfl

/-- R51: the return to NORMAL, with figures that balance. -/
theorem resumeCapacity_of_balanced {s : State} (enough : s.cap.committed ≤ s.cap.available) :
    (resumeCapacity s).cap = balanced s.cap ∧ (resumeCapacity s).port = s.port ∧
      (resumeCapacity s).mail.rideToCap = s.mail.rideToCap := by
  rw [resumeCapacity_eq, if_neg (Nat.not_lt.mpr enough)]
  obtain ⟨cap, port, ride, -⟩ := tellCapacityNews_keeps s.cap (enterBalanced s)
  exact ⟨cap, port, ride⟩

/-- R51: the return to NORMAL, with figures that do not balance. -/
theorem resumeCapacity_of_short {s : State} (short : s.cap.available < s.cap.committed) :
    EntersDeficit (enterBalanced s) (resumeCapacity s) := by
  rw [resumeCapacity_eq, if_pos short]
  exact (entersDeficit _).told _

theorem exec_graceTimerExpiry_of_stopped {s : State} (timer : s.cap.graceTimer = .stopped) :
    exec .graceTimerExpiry s = .next s := by
  show execGraceTimerExpiry s = _
  rw [execGraceTimerExpiry, timer]
  rfl

theorem exec_graceTimerExpiry_of_running {s : State} {d : Nat} (timer : s.cap.graceTimer = .running d) :
    exec .graceTimerExpiry s = .next (graceExpired { s with now := max s.now d }) := by
  show execGraceTimerExpiry s = _
  rw [execGraceTimerExpiry, timer]
  rfl

theorem exec_capacityShedCompletion {s : State} {d : ShedDone} {rest : List ShedDone}
    (mail : s.mail.capShedDone = d :: rest) : exec .capacityShedCompletion s =
      .next (capacityShedDone (modMail (fun m => { m with capShedDone := rest }) s)) := by
  show execCapacityShedCompletion s = _
  rw [execCapacityShedCompletion, mail]
  rfl

theorem exec_planShedCompletion {s : State} {d : ShedDone} {rest : List ShedDone}
    (mail : s.mail.planShedDone = d :: rest) : exec .planShedCompletion s =
      .next (planShedDone d (modMail (fun m => { m with planShedDone := rest }) s)) := by
  show execPlanShedCompletion s = _
  rw [execPlanShedCompletion, mail]
  rfl

/-- R54: a shed leaves a mark just where it names a zone. -/
theorem outstanding_shedTaken {r : CapShed} {c : Capacity} (free : c.outstanding = false) :
    (shedTaken r c).outstanding = true ↔ r.zones ≠ [] := by
  simp [shedTaken, free]

/-- R55: the evaluation that follows a completion, in a deficit whose grace has expired. -/
theorem shedDone_of_expired {s : State} (state : s.cap.state = .deficit) (grace : s.cap.grace = .expired) :
    let t := capacityShedDone s
    t.mail.capShedDone = s.mail.capShedDone ∧ t.cap.available = s.cap.available ∧
      t.cap.committed = s.cap.committed ∧
      (s.cap.committed ≤ s.cap.available →
        t.cap.state = .balanced ∧ t.cap.grace = .none ∧ t.cap.outstanding = false) ∧
      (s.cap.available < s.cap.committed → t.cap.state = .deficit ∧
        ∃ r, t.cap.lastShed = some r ∧
          WalksTo (shedSequence s) (allotment s) s.cap.committed s.cap.available r.zones r.remainder ∧
          (t.cap.outstanding = true ↔ r.zones ≠ [])) := by
  dsimp only
  rw [capacityShedDone_of_expired state grace]
  split
  next enough =>
    obtain ⟨cap, -, -, done⟩ :=
      tellCapacityNews_keeps (shedAnswered s).cap (enterBalanced (shedAnswered s))
    rw [cap, done]
    exact ⟨rfl, rfl, rfl, fun _ => ⟨rfl, rfl, rfl⟩, fun short => absurd enough (Nat.not_le.mpr short)⟩
  next short =>
    obtain ⟨cap, -, -, done⟩ :=
      tellCapacityNews_keeps (shedAnswered s).cap (computeShed (shedAnswered s))
    have sheds := sheds_computeShed (shedAnswered s)
    rw [cap, done, sheds.cap, sheds.deliveries.2]
    exact ⟨rfl, rfl, rfl, fun enough => absurd enough short, fun _ => ⟨state, _, rfl,
      walksTo_shedRecord (shedAnswered s), outstanding_shedTaken rfl⟩⟩

/-- Settles O41, command by command: the notices evaluate the figures (R51), the grace expiry and a completion
compute the shed (R52 to R55), and a plan shed's completion clears its zones alone (R124). -/
theorem capacityIsSuspendedAndSheds : Obligations.CapacityIsSuspendedAndSheds := by
  unfold Obligations.CapacityIsSuspendedAndSheds
  refine ⟨fun s normal rest mail => ?_, fun s d => ⟨fun timer => exec_graceTimerExpiry_of_stopped timer,
    fun timer => ?_⟩, fun s d rest mail => ⟨fun other => ?_, fun state grace => ?_⟩,
    fun s d rest mail => exec_planShedCompletion mail⟩
  case refine_1 =>
    refine ⟨_, exec_capacityRideNotice mail, touches_of_erase (by simp), ?_⟩
    cases normal with
    | false =>
      obtain ⟨cap, port, ride⟩ :=
        suspendCapacity_leaves (modMail (fun m => { m with rideToCap := rest }) s)
      rw [if_neg Bool.false_ne_true, cap, port, ride]
      exact ⟨rfl, rfl, rfl, rfl, fun _ => ⟨rfl, rfl⟩, nofun, nofun⟩
    | true =>
      rw [if_pos rfl]
      rcases Nat.lt_or_ge s.cap.available s.cap.committed with short | enough
      · have entered := resumeCapacity_of_short
          (s := modMail (fun m => { m with rideToCap := rest }) s) short
        exact ⟨entered.rideToCap, entered.available, entered.committed, entered.count, nofun,
          fun _ enough => absurd short (Nat.not_lt.mpr enough),
          fun _ _ => ⟨entered.state, entered.deficits, entered.flag,
            fun some => ⟨entered.grace.trans (if_neg some), entered.graceTimer.trans (if_neg some),
              entered.lastShed some⟩,
            fun none => ⟨entered.grace.trans (if_pos none), entered.graceTimer.trans (if_pos none)⟩⟩⟩
      · obtain ⟨cap, port, ride⟩ := resumeCapacity_of_balanced
          (s := modMail (fun m => { m with rideToCap := rest }) s) enough
        rw [cap, port, ride]
        exact ⟨rfl, rfl, rfl, rfl, nofun, fun _ _ => ⟨rfl, rfl⟩,
          fun _ short => absurd enough (Nat.not_le.mpr short)⟩
  case refine_2 =>
    refine ⟨_, exec_graceTimerExpiry_of_running timer, touches_of_erase (by simp), ?_⟩
    rw [graceExpired_eq]
    split
    next outstanding =>
      exact ⟨rfl, rfl, rfl, rfl, rfl, rfl, fun _ => ⟨rfl, rfl, rfl, outstanding⟩,
        fun free => absurd outstanding (by simp [free])⟩
    next free =>
      have sheds := sheds_computeShed (graceOver { s with now := max s.now d })
      obtain ⟨cap, handed, kept, short⟩ := sheds
      have now := ((Works.refl (graceOver { s with now := max s.now d })).computeShed).now
      rw [cap, now]
      refine ⟨rfl, rfl, rfl, rfl, rfl, rfl, fun outstanding => absurd outstanding free, fun free =>
        ⟨_, rfl, rfl, rfl, walksTo_shedRecord (graceOver s), rfl, fun some => ⟨?_, ?_, handed some⟩,
          fun none => ⟨?_, kept none⟩, fun exhausted => ⟨?_, short exhausted⟩⟩⟩
      · exact (outstanding_shedTaken free).mpr some
      · simp only [shedTaken, List.isEmpty_iff, if_neg some]
        rfl
      · exact Bool.eq_false_iff.mpr fun marked => (outstanding_shedTaken free).mp marked none
      · simp only [shedTaken, exhausted, Bool.or_true]
  case refine_3 =>
    exact (exec_capacityShedCompletion mail).trans (congrArg _
      (capacityShedDone_of_other (s := modMail (fun m => { m with capShedDone := rest }) s) other))
  case refine_4 =>
    exact ⟨_, exec_capacityShedCompletion mail, touches_of_erase (by simp),
      shedDone_of_expired (s := modMail (fun m => { m with capShedDone := rest }) s) state grace⟩

end Sys2Proof.Machine


namespace Sys2Proof.Machine

/-! ## The law of the Capacity Unit's record (R50, R52, R55) -/

/-- R52, R55: the grace period, its timer and the short mark belong to DEFICIT. -/
structure LawfulGrace (c : Capacity) : Prop where
  period : c.state = .deficit ↔ c.grace ≠ .none
  timer : c.grace = .running ↔ isRunning c.graceTimer = true
  short : c.short = true → c.state = .deficit

/-- R50: and BALANCED and DEFICIT are the comparison of the figures. -/
structure LawfulCapacity (c : Capacity) : Prop extends LawfulGrace c where
  enough : c.state = .balanced → c.committed ≤ c.available
  lacking : c.state = .deficit → c.available < c.committed

theorem capacityLaw_iff (s : State) :
    CapacityLaw s ↔ s.cap.committed = committedSum s ∧ LawfulCapacity s.cap := by
  constructor
  · rintro ⟨sum, enough, lacking, period, timer, short⟩
    exact ⟨sum, ⟨period, timer, short⟩, enough, lacking⟩
  · rintro ⟨sum, ⟨period, timer, short⟩, enough, lacking⟩
    exact ⟨sum, enough, lacking, period, timer, short⟩

theorem LawfulCapacity.shedTaken {c : Capacity} (h : LawfulCapacity c) (state : c.state = .deficit)
    (r : CapShed) : LawfulCapacity (shedTaken r c) :=
  ⟨⟨h.period, h.timer, fun _ => state⟩, h.enough, h.lacking⟩

/-- R54, R55: a shed computed in DEFICIT leaves a lawful record. -/
theorem lawful_computeShed {s : State} (h : LawfulCapacity s.cap) (state : s.cap.state = .deficit) :
    LawfulCapacity (computeShed s).cap := by
  rw [(sheds_computeShed s).cap]
  exact h.shedTaken state _

theorem EntersDeficit.lawful {s t : State} (h : EntersDeficit s t)
    (short : s.cap.available < s.cap.committed) : LawfulCapacity t.cap := by
  refine ⟨⟨iff_of_true h.state ?_, ?_, fun _ => h.state⟩, fun balanced => ?_, fun _ => ?_⟩
  · rw [h.grace]
    split <;> nofun
  · rw [h.grace, h.graceTimer]
    split
    · exact iff_of_false nofun nofun
    · exact iff_of_true rfl rfl
  · rw [h.state] at balanced
    cases balanced
  · rw [h.available, h.committed]
    exact short

theorem lawful_enterBalanced {s : State} (enough : s.cap.committed ≤ s.cap.available) :
    LawfulCapacity (enterBalanced s).cap :=
  ⟨⟨iff_of_false nofun (fun some => some rfl), iff_of_false nofun nofun, nofun⟩, fun _ => enough, nofun⟩

/-- R50: the evaluation makes the comparison of the figures anew, whatever they have become. -/
theorem lawful_evaluateCapacity {s : State} (h : LawfulGrace s.cap) :
    LawfulCapacity (evaluateCapacity s).cap := by
  unfold evaluateCapacity
  dsimp only
  split
  next state => exact ⟨h, fun other => (by simp [state] at other), fun other => (by simp [state] at other)⟩
  next state =>
    split
    next short => exact (entersDeficit s).lawful short
    next enough => exact ⟨h, fun _ => Nat.le_of_not_lt enough, fun other => (by simp [state] at other)⟩
  next state =>
    split
    next enough => exact lawful_enterBalanced enough
    next short =>
      have still : LawfulCapacity s.cap :=
        ⟨h, fun other => (by simp [state] at other), fun _ => Nat.lt_of_not_le short⟩
      split
      · exact lawful_computeShed still state
      · exact still

/-- R50: the evaluation changes no figure. -/
theorem committed_evaluateCapacity (s : State) :
    (evaluateCapacity s).cap.committed = s.cap.committed := by
  unfold evaluateCapacity
  dsimp only
  split
  · rfl
  · split
    · exact (entersDeficit s).committed
    · rfl
  · split
    · rfl
    · split
      · rw [(sheds_computeShed s).cap]
        rfl
      · rfl

/-! ## The ledger

`Ledger stale s` is what of the capacity law and of the zone lists the Zone Controller's work keeps. While a
zone changes its state, and until the Capacity Unit has been told, committed power may be stale. -/

/-- The Capacity Unit's record is lawful, committed power is the sum of the allotments unless it is stale, and
the two lists hold QUEUED zones and SHED zones alone. -/
structure Ledger (stale : Bool) (s : State) : Prop where
  cap : LawfulCapacity s.cap
  sum : stale = false → s.cap.committed = committedSum s
  queue : ∀ z ∈ s.zc.queue, (zoneAt s z).state = .queued
  readmit : ∀ z ∈ s.zc.readmit, (zoneAt s z).state = .shed

theorem Ledger.capacityLaw {s : State} (h : Ledger false s) : CapacityLaw s :=
  (capacityLaw_iff s).mpr ⟨h.sum rfl, h.cap⟩

theorem ledger_of_laws {s : State} (lists : ZoneListsLaw s) (law : CapacityLaw s) : Ledger false s := by
  obtain ⟨-, -, queueBound, readmitBound, queue, readmit, -⟩ := lists
  obtain ⟨sum, cap⟩ := (capacityLaw_iff s).mp law
  exact ⟨cap, fun _ => sum, fun z hz => (queue z (queueBound z hz)).mp hz,
    fun z hz => (readmit z (readmitBound z hz)).mp hz⟩

theorem committedSum_congr {s t : State} (h : ∀ z < 32, allotment t z = allotment s z) :
    committedSum t = committedSum s :=
  congrArg List.sum (List.map_congr_left fun z hz => h z (List.mem_range.mp hz))

/-- R49: a zone that is neither INRUSH nor ON has no allotment. -/
theorem allotment_of_idle {s : State} {z : Nat} (idle : countsAllotment (zoneAt s z).state = false) :
    allotment s z = 0 := by
  unfold allotment
  dsimp only
  split
  · cases state : (zoneAt s z).state <;> simp_all [countsAllotment]
  · rfl

/-- There are 32 zones; past them stands an OFF one. -/
theorem zone_lt_of_state {s : State} {z : Nat} (state : (zoneAt s z).state ≠ .off) : z < 32 :=
  Nat.lt_of_not_le fun past => state (by rw [zoneAt, nth_of_le _ past]; rfl)

theorem zone_lt_of_inUse {s : State} {z : Nat} (inUse : (zoneCfg s z).inUse = true) : z < 32 :=
  Nat.lt_of_not_le fun past => by
    rw [zoneCfg, nth_of_le _ past] at inUse
    cases inUse

/-- The blocks that hold nothing of the ledger. -/
def unzoned : List Block :=
  [.now, .free, .pending, .image, .loader, .port, .segs, .nodes, .seq, .ride, .leak, .lines, .mail]

namespace Ledger

variable {b : Bool} {s t : State} {z : Nat}

/-- A change that leaves the Capacity Unit as it is. -/
theorem change {c : Bool} (h : Ledger b s) (cap : t.cap = s.cap)
    (sum : c = false → b = false ∧ ∀ z < 32, allotment t z = allotment s z)
    (queue : ∀ z ∈ t.zc.queue, (zoneAt t z).state = .queued)
    (readmit : ∀ z ∈ t.zc.readmit, (zoneAt t z).state = .shed) : Ledger c t where
  cap := cap ▸ h.cap
  sum fresh := by
    obtain ⟨before, same⟩ := sum fresh
    rw [cap, h.sum before, committedSum_congr same]
  queue := queue
  readmit := readmit

/-- A change of the Capacity Unit alone. -/
theorem recap {c : Bool} (h : Ledger b s) (tables : t.tables = s.tables) (zc : t.zc = s.zc)
    (cap : LawfulCapacity t.cap) (sum : c = false → t.cap.committed = committedSum s) : Ledger c t where
  cap := cap
  sum fresh := by
    rw [sum fresh]
    exact (committedSum_congr fun z _ =>
      allotment_congr (by rw [zoneCfg, tables, zoneCfg]) (by rw [zoneAt_congr zc])).symm
  queue z hz := by rw [zoneAt_congr zc]; rw [zc] at hz; exact h.queue z hz
  readmit z hz := by rw [zoneAt_congr zc]; rw [zc] at hz; exact h.readmit z hz

theorem quiet (h : Ledger b s) (same : erase unzoned t = erase unzoned s) : Ledger b t := by
  have touches := touches_of_erase same
  have cap : t.cap = s.cap := touches .cap (by decide)
  exact h.recap (touches .tables (by decide)) (touches .zc (by decide)) (cap ▸ h.cap)
    fun fresh => by rw [cap]; exact h.sum fresh

/-! ### Changes of one zone -/

theorem modZone {c : Bool} {f : ZoneRun → ZoneRun} (h : Ledger b s)
    (queue : z ∈ s.zc.queue → (f (zoneAt s z)).state = .queued)
    (readmit : z ∈ s.zc.readmit → (f (zoneAt s z)).state = .shed)
    (sum : c = false → b = false ∧ ((f (zoneAt s z)).state = (zoneAt s z).state ∨
      countsAllotment (zoneAt s z).state = false ∧ countsAllotment (f (zoneAt s z)).state = false)) :
    Ledger c (modZone z f s) := by
  refine h.change rfl (fun fresh => ?_) (fun y hy => ?_) fun y hy => ?_
  · obtain ⟨before, moves⟩ := sum fresh
    refine ⟨before, fun y hy => ?_⟩
    by_cases here : z = y
    · subst here
      have record : zoneAt (Machine.modZone z f s) z = f (zoneAt s z) := by simp [zoneAt_modZone, hy]
      rcases moves with same | ⟨idle, stays⟩
      · exact allotment_congr rfl (by rw [record, same])
      · rw [allotment_of_idle idle, allotment_of_idle (by rwa [record])]
    · exact allotment_congr rfl (by simp [zoneAt_modZone, here])
  · rw [zoneAt_modZone]
    split
    next here => obtain ⟨rfl, -⟩ := here; exact queue hy
    · exact h.queue y hy
  · rw [zoneAt_modZone]
    split
    next here => obtain ⟨rfl, -⟩ := here; exact readmit hy
    · exact h.readmit y hy

/-- A change of a zone's record that leaves its state. -/
theorem mark (h : Ledger b s) (z : Nat) {f : ZoneRun → ZoneRun}
    (same : ∀ r, (f r).state = r.state := by intro; rfl) :
    Ledger b (Machine.modZone z f s) :=
  h.modZone (fun hz => (same _).trans (h.queue z hz)) (fun hz => (same _).trans (h.readmit z hz))
    fun fresh => ⟨fresh, .inl (same _)⟩

/-- A zone's change of state, where neither list holds it: committed power is stale where the change
alters the zone's allotment (R89). -/
theorem move {f : ZoneRun → ZoneRun} {old new : ZoneState} (h : Ledger false s)
    (state : (zoneAt s z).state = old) (queue : z ∉ s.zc.queue) (readmit : z ∉ s.zc.readmit)
    (goes : (f (zoneAt s z)).state = new := by rfl) :
    Ledger (countsAllotment old || countsAllotment new) (Machine.modZone z f s) := by
  refine h.modZone (fun hz => absurd hz queue) (fun hz => absurd hz readmit) fun fresh => ⟨rfl, .inr ?_⟩
  rw [state, goes]
  exact Bool.or_eq_false_iff.mp fresh

theorem not_queued (h : Ledger b s) (state : (zoneAt s z).state ≠ .queued) : z ∉ s.zc.queue :=
  fun hz => state (h.queue z hz)

theorem not_shed (h : Ledger b s) (state : (zoneAt s z).state ≠ .shed) : z ∉ s.zc.readmit :=
  fun hz => state (h.readmit z hz)

/-- A change of state of a zone that is neither QUEUED nor SHED. -/
theorem leave {f : ZoneRun → ZoneRun} {old new : ZoneState} (h : Ledger false s)
    (state : (zoneAt s z).state = old) (free : old ≠ .queued ∧ old ≠ .shed)
    (goes : (f (zoneAt s z)).state = new := by rfl) :
    Ledger (countsAllotment old || countsAllotment new) (Machine.modZone z f s) :=
  h.move state (h.not_queued (state ▸ free.1)) (h.not_shed (state ▸ free.2)) goes

theorem heed (h : Ledger b s) {f : ZoneCtl → ZoneCtl} (zones : (f s.zc).zones = s.zc.zones)
    (queue : ∀ z ∈ (f s.zc).queue, z ∈ s.zc.queue ∨ (zoneAt s z).state = .queued)
    (readmit : ∀ z ∈ (f s.zc).readmit, z ∈ s.zc.readmit ∨ (zoneAt s z).state = .shed) :
    Ledger b (modZc f s) := by
  have record (y : Nat) : zoneAt (modZc f s) y = zoneAt s y := by
    rw [zoneAt, modZc_zc, zones, zoneAt]
  refine h.change rfl (fun fresh => ⟨fresh, fun y _ => allotment_congr rfl (by rw [record])⟩)
    (fun y hy => ?_) fun y hy => ?_
  · rw [record]
    exact (queue y hy).elim (h.queue y) id
  · rw [record]
    exact (readmit y hy).elim (h.readmit y) id

theorem enqueueZone (h : Ledger b s) (state : (zoneAt s z).state = .queued) :
    Ledger b (enqueueZone z s) := by
  refine h.heed rfl (fun y hy => ?_) fun y hy => .inl hy
  rcases List.mem_cons.mp ((perm_insert _ z s.zc.queue).mem_iff.mp hy) with rfl | hy
  · exact .inr state
  · exact .inl hy

theorem dequeueZone (h : Ledger b s) (z : Nat) : Ledger b (dequeueZone z s) :=
  h.heed rfl (fun _ hy => .inl (List.mem_filter.mp hy).1) fun _ hy => .inl hy

theorem leaveReadmit (h : Ledger b s) (z : Nat) : Ledger b (leaveReadmit z s) :=
  h.heed rfl (fun _ hy => .inl hy) fun _ hy => .inl (List.mem_filter.mp hy).1

theorem joinReadmit (h : Ledger b s) (state : (zoneAt s z).state = .shed) :
    Ledger b (modZc (fun c => { c with readmit := c.readmit ++ [z] }) s) := by
  refine h.heed rfl (fun y hy => .inl hy) fun y hy => ?_
  rcases List.mem_append.mp hy with hy | hy
  · exact .inl hy
  · exact .inr (List.mem_singleton.mp hy ▸ state)

theorem raiseFlag (h : Ledger b s) (f : EventFlag) (p : List Byte) : Ledger b (raiseFlag f p s) :=
  h.quiet (by simp [unzoned])

theorem setDisablePending (h : Ledger b s) (z : Nat) (x : DisableOutcome) :
    Ledger b (setDisablePending z x s) := by
  unfold Machine.setDisablePending
  dsimp only
  split
  · exact h
  · exact (h.mark z).raiseFlag _ _

theorem queueDisable (h : Ledger b s) (z : Nat) : Ledger b (queueDisable z s).1 := by
  have joined (i : Nat) (e : Exchange) : Ledger b (joinSegment i e s).state :=
    h.quiet (by simp [unzoned])
  unfold Machine.queueDisable
  dsimp only
  split
  · split
    · exact joined _ _
    · exact joined _ _
    · exact (joined _ _).setDisablePending z _
  · exact h.setDisablePending z _

/-! ### The Capacity Unit -/

theorem tellCapacityNews (h : Ledger b s) (before : Capacity) : Ledger b (tellCapacityNews before s) :=
  h.quiet (by simp [unzoned])

/-- R49, R50: what is evaluated on lawful figures is lawful, and changes no zone. -/
theorem evaluated {c : Bool} {f : Capacity → Capacity} (h : Ledger b s) (grace : LawfulGrace (f s.cap))
    (sum : c = false → (f s.cap).committed = committedSum s) :
    Ledger c (evaluateCapacity (modCap f s)) := by
  have touches := touches_of_erase (erase_evaluateCapacity (bs := [.port, .cap, .mail]) (modCap f s)
    (by decide) (by decide) (by decide))
  exact h.recap (touches .tables (by decide)) (touches .zc (by decide)) (lawful_evaluateCapacity grace)
    fun fresh => (committed_evaluateCapacity _).trans (sum fresh)

/-- R49: committed power is recomputed from the zones as they stand. -/
theorem recomputeCommitted (h : Ledger b s) : Ledger false (recomputeCommitted s) :=
  (h.evaluated (f := fun c => { c with committed := committedSum s }) ⟨h.cap.period, h.cap.timer, h.cap.short⟩
    fun _ => rfl).tellCapacityNews _

theorem recomputeAvailable (h : Ledger b s) : Ledger b (recomputeAvailable s) :=
  (h.evaluated (f := fun c => { c with
      count := (contributors s).length
      available := availableOf (reserveCount s) ((contributors s).map (contribution s)) })
    ⟨h.cap.period, h.cap.timer, h.cap.short⟩ h.sum).tellCapacityNews _

theorem suspendCapacity (h : Ledger b s) : Ledger b (suspendCapacity s) := by
  refine Ledger.tellCapacityNews (h.recap (t := modCap suspended s) rfl rfl ?_ h.sum) s.cap
  exact ⟨⟨iff_of_false nofun (fun some => some rfl), iff_of_false nofun nofun, nofun⟩, nofun, nofun⟩

theorem resumeCapacity (h : Ledger b s) : Ledger b (resumeCapacity s) :=
  (h.evaluated (f := balanced)
    ⟨iff_of_false nofun (fun some => some rfl), iff_of_false nofun nofun, nofun⟩ h.sum).tellCapacityNews _

/-- R52: the grace timer runs in DEFICIT alone, so its expiry computes a shed of a deficit. -/
theorem graceExpired (h : Ledger b s) (timer : isRunning s.cap.graceTimer = true) :
    Ledger b (graceExpired s) := by
  have state : s.cap.state = .deficit := by
    rw [h.cap.period, h.cap.timer.mpr timer]
    nofun
  have stands : LawfulCapacity (graceOver s).cap :=
    ⟨⟨iff_of_true state nofun, iff_of_false nofun nofun, h.cap.short⟩, h.cap.enough, h.cap.lacking⟩
  rw [graceExpired_eq]
  split
  · exact h.recap rfl rfl stands h.sum
  · have sheds := sheds_computeShed (graceOver s)
    have touches := touches_of_erase (erase_computeShed (bs := [.port, .cap, .mail]) (graceOver s)
      (by decide) (by decide) (by decide))
    refine h.recap (touches .tables (by decide)) (touches .zc (by decide)) (lawful_computeShed stands state)
      fun fresh => ?_
    rw [sheds.cap]
    exact h.sum fresh

theorem capacityShedDone (h : Ledger b s) : Ledger b (capacityShedDone s) := by
  have answered : LawfulCapacity (shedAnswered s).cap :=
    ⟨⟨h.cap.period, h.cap.timer, h.cap.short⟩, h.cap.enough, h.cap.lacking⟩
  by_cases other : s.cap.state ≠ .deficit ∨ s.cap.grace ≠ .expired
  · rw [capacityShedDone_of_other other]
    exact h.recap rfl rfl answered h.sum
  · simp only [not_or, not_not] at other
    have evaluated : Machine.capacityShedDone s =
        Machine.tellCapacityNews (shedAnswered s).cap (evaluateCapacity (shedAnswered s)) :=
      if_pos (by simp [other])
    rw [evaluated]
    exact (h.evaluated (f := fun c => { c with outstanding := false }) answered.toLawfulGrace
      h.sum).tellCapacityNews _

/-- R89: a zone's change has been told: committed power is the sum again. -/
theorem tell {old new : ZoneState} (h : Ledger (countsAllotment old || countsAllotment new) s) (z : Nat) :
    Ledger false (tellZoneChange z old new s) := by
  unfold tellZoneChange tellSequencer
  dsimp only
  refine Ledger.quiet (s := if countsAllotment old || countsAllotment new then
    Machine.recomputeCommitted s else s) ?_ (by simp [unzoned])
  split
  · exact h.recomputeCommitted
  next silent => rwa [Bool.eq_false_iff.mpr silent] at h

end Ledger

end Sys2Proof.Machine


namespace Sys2Proof.Machine

/-! ## The ledger over the Zone Controller's work -/

theorem zoneAt_modZone_same {z : Nat} (hz : z < 32) (f : ZoneRun → ZoneRun) (s : State) :
    zoneAt (modZone z f s) z = f (zoneAt s z) := by
  simp [zoneAt_modZone, hz]

theorem tellZoneChange_zc (z : Nat) (old new : ZoneState) (s : State) :
    (tellZoneChange z old new s).zc = s.zc :=
  touches_of_erase (bs := [.port, .cap, .mail]) (by simp) .zc (by decide)

theorem not_mem_dequeueZone (z : Nat) (s : State) : z ∉ (dequeueZone z s).zc.queue :=
  fun hz => by simpa using (List.mem_filter.mp hz).2

theorem not_mem_leaveReadmit (z : Nat) (s : State) : z ∉ (leaveReadmit z s).zc.readmit :=
  fun hz => by simpa using (List.mem_filter.mp hz).2

/-- R49: an INRUSH or ON zone stands in neither list, and is not OFF. -/
theorem unlisted_of_counts {x : ZoneState} (h : countsAllotment x = true) :
    x ≠ .queued ∧ x ≠ .shed ∧ x ≠ .off := by
  cases x <;> simp_all [countsAllotment]

/-- R79: the zone waits in the re-admit list, or has been drained from it. -/
def Waits (s : State) (z : Nat) : Prop :=
  (zoneAt s z).state = .shed ∨ (zoneAt s z).state = .queued

theorem Waits.lt {s : State} {z : Nat} (h : Waits s z) : z < 32 := by
  rcases h with state | state <;> exact zone_lt_of_state (by rw [state]; decide)

theorem Waits.drainZone {s : State} {y : Nat} (h : Waits s y) (z : Nat) : Waits (drainZone s z) y := by
  have record : zoneAt (Machine.drainZone s z) y =
      zoneAt (modZone z (fun r => { r with state := .queued }) (leaveReadmit z s)) y :=
    (zoneAt_congr (tellZoneChange_zc _ _ _ _) y).trans rfl
  rw [Waits, record, zoneAt_modZone]
  split
  · exact .inr rfl
  · exact h

namespace Ledger

variable {b : Bool} {s t : State} {z : Nat}

/-! ### The arbiter and re-admission (R65, R79) -/

theorem grantZone (h : Ledger false s) (queued : z ∈ s.zc.queue) : Ledger false (grantZone z s) := by
  have state : (zoneAt (Machine.dequeueZone z s) z).state = .queued := h.queue z queued
  have taken := h.dequeueZone z
  exact (taken.move (new := .inrush) state (not_mem_dequeueZone z s)
    (taken.not_shed (by rw [state]; decide))).tell z

theorem arbiterRun (fuel : Nat) (h : Ledger false s) : Ledger false (arbiterRun fuel s) := by
  induction fuel generalizing s with
  | zero => exact h
  | succ fuel ih =>
    unfold Machine.arbiterRun
    split
    · split
      · exact h
      next z found =>
        have queued : z ∈ s.zc.queue := List.mem_of_find?_eq_some found
        split
        · dsimp only
          split
          · refine ih (Ledger.grantZone (h.quiet (by simp [unzoned])) ?_)
            rwa [joinSegment_state]
          · exact h
          · exact h
        · exact h
    · exact h

theorem runArbiter (h : Ledger false s) : Ledger false (runArbiter s) := h.arbiterRun _

theorem afterDeparture (h : Ledger false s) (departed : Bool) :
    Ledger false (afterDeparture departed s) := by
  unfold Machine.afterDeparture
  split
  · exact h.runArbiter
  · exact h

theorem drainZone (h : Ledger false s) (waits : Waits s z) : Ledger false (drainZone s z) := by
  have idle : countsAllotment (zoneAt s z).state = false := by
    rcases waits with state | state <;> rw [state] <;> rfl
  have moved : Ledger false
      (Machine.modZone z (fun r => { r with state := .queued }) (Machine.leaveReadmit z s)) :=
    (h.leaveReadmit z).modZone (fun _ => rfl) (fun hz => absurd hz (not_mem_leaveReadmit z s))
      fun _ => ⟨rfl, .inr ⟨idle, rfl⟩⟩
  exact (moved.enqueueZone (by rw [zoneAt_modZone_same waits.lt])).tell (old := .shed) (new := .queued) z

theorem drainZones (h : Ledger false s) (l : List Nat) (waits : ∀ z ∈ l, Waits s z) :
    Ledger false (l.foldl Machine.drainZone s) := by
  induction l generalizing s with
  | nil => exact h
  | cons z rest ih =>
    exact ih (h.drainZone (waits z (.head _))) fun y hy => (waits y (.tail _ hy)).drainZone z

theorem evaluateReadmit (h : Ledger false s) : Ledger false (evaluateReadmit s) := by
  unfold Machine.evaluateReadmit
  split
  · exact (h.drainZones _ fun z hz => .inl (h.readmit z (List.mem_reverse.mp hz))).runArbiter
  · exact h

/-! ### Zones that leave INRUSH or ON (R69, R71, R73, R75, R84) -/

theorem shedZone (h : Ledger false s) (z : Nat) : Ledger false (shedZone s z) := by
  unfold Machine.shedZone
  dsimp only
  split
  next counts =>
    obtain ⟨queued, shed, off⟩ := unlisted_of_counts counts
    have hz : z < 32 := zone_lt_of_state off
    have left := h.leave (f := leftRunning .shed) (new := .shed) rfl ⟨queued, shed⟩
    have listed := left.joinReadmit (z := z) (by rw [zoneAt_modZone_same hz]; rfl)
    exact ((listed.queueDisable z).tell z).evaluateReadmit.afterDeparture _
  · exact h

theorem failAttempt (h : Ledger false s) (state : (zoneAt s z).state = .inrush) (cause : AttemptCause) :
    Ledger false (failAttempt z cause s) := by
  have hz : z < 32 := zone_lt_of_state (by rw [state]; decide)
  unfold Machine.failAttempt
  dsimp only
  by_cases locked : ((zoneAt s z).attempts + 1 == (zoneCfg s z).lockout) = true
  · simp only [locked, if_true]
    have left {f : ZoneRun → ZoneRun} (goes : ∀ r, (f r).state = .lockout) :=
      h.leave state (by decide) (goes (zoneAt s z))
    exact (((left fun _ => rfl).queueDisable z).raiseFlag _ _).tell z |>.runArbiter
  · simp only [locked]
    have left {f : ZoneRun → ZoneRun} (goes : ∀ r, (f r).state = .queued) :=
      (h.leave state (by decide) (goes (zoneAt s z))).enqueueZone
        (by rw [zoneAt_modZone_same hz]; exact goes _)
    exact ((left fun _ => rfl).queueDisable z).tell z |>.runArbiter

theorem powerGood (h : Ledger false s) (state : (zoneAt s z).state = .inrush) :
    Ledger false (powerGood z s) :=
  ((h.leave state (by decide)).tell (new := .on) z).runArbiter

theorem tripZone (h : Ledger false s) (state : (zoneAt s z).state = .on) (reading : Nat) :
    Ledger false (tripZone z reading s) :=
  ((((h.leave state (by decide)).raiseFlag _ _).queueDisable z).tell (new := .off) z).runArbiter

theorem switchZoneOff (h : Ledger false s) (running : runs s z = true) :
    Ledger false (switchZoneOff z s) := by
  obtain ⟨queued, shed, -⟩ := unlisted_of_counts running
  have left := h.leave (f := leftRunning .off) (new := .off) rfl ⟨queued, shed⟩
  exact ((left.queueDisable z).tell z).afterDeparture _

/-! ### Zones that leave the lists, or join them (R72, R80 to R82, R84, R87) -/

theorem unqueueZone (h : Ledger false s) (state : (zoneAt s z).state = .queued) (new : ZoneState) :
    Ledger false (unqueueZone z new s) := by
  have taken := h.dequeueZone z
  have state : (zoneAt (Machine.dequeueZone z s) z).state = .queued := state
  exact (taken.move state (not_mem_dequeueZone z s) (taken.not_shed (by rw [state]; decide))).tell z

theorem unshedZone (h : Ledger false s) (state : (zoneAt s z).state = .shed) (new : ZoneState) :
    Ledger false (unshedZone z new s) := by
  have taken := h.leaveReadmit z
  have state : (zoneAt (Machine.leaveReadmit z s) z).state = .shed := state
  exact (taken.move state (taken.not_queued (by rw [state]; decide)) (not_mem_leaveReadmit z s)).tell z

theorem queueZone (h : Ledger false s) (hz : z < 32) (state : (zoneAt s z).state = .off) :
    Ledger false (queueZone z s) :=
  (((h.leave state (by decide)).enqueueZone (by rw [zoneAt_modZone_same hz])).tell (new := .queued)
    z).runArbiter

theorem clearLockout (h : Ledger false s) (state : (zoneAt s z).state = .lockout) :
    Ledger false (tellZoneChange z .lockout .off
      (Machine.modZone z (fun r => { r with state := .off, attempts := 0 }) s)) :=
  (h.leave state (by decide)).tell z

theorem releaseZone (h : Ledger false s) (z : Nat) : Ledger false (releaseZone s z) := by
  unfold Machine.releaseZone
  split
  next isolated =>
    simp only [Bool.and_eq_true, zoneIs_eq_decide, decide_eq_true_eq] at isolated
    exact (h.leave isolated.1 (by decide)).tell z
  · exact h

theorem isolateZone (h : Ledger false s) (z : Nat) : Ledger false (isolateZone s z) := by
  unfold Machine.isolateZone
  dsimp only
  split
  next state =>
    have moved := fun f goes => h.leave (z := z) (f := f) (new := .isolated) state (by decide) goes
    split
    · exact (((moved _ rfl).queueDisable z).tell z).afterDeparture _
    · exact ((moved _ rfl).tell z).afterDeparture _
  next state => exact h.unqueueZone state _
  next state => exact (((h.leave state (by decide)).queueDisable z).tell z).runArbiter
  next state => exact (((h.leave state (by decide)).queueDisable z).tell z).afterDeparture _
  next state => exact h.unshedZone state _
  · exact h
  · exact h

/-- R87: an OFF zone has no allotment, and neither has the state it is adopted in. -/
theorem adoptOff (h : Ledger false s) (hz : z < 32) (state : (zoneAt s z).state = .off) {new : ZoneState}
    (idle : countsAllotment new = false) : Ledger false (adoptOff z new s) := by
  have silent : (countsAllotment .off || countsAllotment new) = false := by rw [idle]; rfl
  have told {u : State} (hu : Ledger false u) : Ledger false (tellZoneChange z .off new u) :=
    Ledger.tell (by rwa [silent]) z
  have moved : Ledger false
      (Machine.modZone z (fun r => { r with state := new, adoptPending := false }) s) := by
    have left := h.leave (f := fun r => { r with state := new, adoptPending := false }) state (by decide)
    rwa [silent] at left
  unfold Machine.adoptOff
  dsimp only
  refine Ledger.afterDeparture ?_ _
  by_cases shed : new = .shed
  · subst shed
    exact (told ((moved.joinReadmit (by rw [zoneAt_modZone_same hz])).queueDisable z)).evaluateReadmit
  · have other : (new == .shed) = false := by simpa using shed
    simp only [other]
    by_cases off : (new == .off) = true
    · simp only [off, if_true]
      exact moved.queueDisable z
    · simp only [off]
      exact told (moved.queueDisable z)

theorem adoptZone (h : Ledger false s) (hz : z < 32) (state : (zoneAt s z).state = .off)
    (reading : Nat) : Ledger false (adoptZone z reading s) := by
  unfold Machine.adoptZone
  split
  · exact h.mark z
  · split
    · exact h.adoptOff hz state rfl
    split
    · exact h.adoptOff hz state rfl
    split
    · exact h.adoptOff hz state rfl
    · exact (h.leave state (by decide)).tell z
  · exact h.adoptOff hz state rfl

/-- R60: only an OFF zone is written, which has no allotment before or after. -/
theorem takeZoneWrite (h : Ledger false s) {c : ZoneCfg} (writable : zoneWritable s z c = true) :
    Ledger false (takeZoneWrite z c s) := by
  have off : (zoneAt s z).state = .off := by
    simp only [zoneWritable, Bool.and_eq_true, zoneIs_eq_decide, decide_eq_true_eq] at writable
    exact writable.1.1
  have idle : countsAllotment (zoneAt s z).state = false := by rw [off]; rfl
  have stored : Ledger false
      { s with tables := { s.tables with zones := put s.tables.zones z (clampZone c) } } := by
    refine h.change rfl (fun _ => ⟨rfl, fun y _ => ?_⟩) h.queue h.readmit
    by_cases here : z = y
    · subst here
      rw [allotment_of_idle (s := s) idle]
      exact allotment_of_idle idle
    · exact allotment_congr (nth_put_of_ne _ _ here) rfl
  exact stored.mark z

end Ledger

end Sys2Proof.Machine


namespace Sys2Proof.Machine

/-! ## What a step can do to the zones and to the Capacity Unit

A law that reads the zones, their table and the Capacity Unit alone needs to be kept by each change of one
zone, by each evaluation of the figures, and by the runs of the arbiter and of the re-admission. The walk over
the commands is made once, for all such laws. -/

/-- A law that every zone's change of state, every run of the arbiter and of the re-admission, and every event
of the Capacity Unit keeps, and that reads nothing else. -/
structure Zonal (P : State → Prop) : Prop where
  quiet {s t : State} : P s → erase unzoned t = erase unzoned s → P t
  config {s : State} (x : Tables) : P s → x.zones = s.tables.zones → P { s with tables := x }
  heed {s : State} {f : ZoneCtl → ZoneCtl} : P s →
    ((f s.zc).zones, (f s.zc).queue, (f s.zc).readmit) = (s.zc.zones, s.zc.queue, s.zc.readmit) →
    P (modZc f s)
  mark {s : State} (z : Nat) {f : ZoneRun → ZoneRun} : P s → (∀ r, (f r).state = r.state) →
    P (modZone z f s)
  available {s : State} : P s → P (recomputeAvailable s)
  suspend {s : State} : P s → P (suspendCapacity s)
  resume {s : State} : P s → P (resumeCapacity s)
  grace {s : State} : P s → isRunning s.cap.graceTimer = true → P (graceExpired s)
  shedDone {s : State} : P s → P (capacityShedDone s)
  arbiter {s : State} : P s → P (runArbiter s)
  readmit {s : State} : P s → P (evaluateReadmit s)
  shed {s : State} (z : Nat) : P s → P (shedZone s z)
  fail {s : State} {z : Nat} (cause : AttemptCause) : P s → (zoneAt s z).state = .inrush →
    P (failAttempt z cause s)
  good {s : State} {z : Nat} : P s → (zoneAt s z).state = .inrush → P (powerGood z s)
  trip {s : State} {z : Nat} (reading : Nat) : P s → (zoneAt s z).state = .on → P (tripZone z reading s)
  adopt {s : State} {z : Nat} (reading : Nat) : P s → z < 32 → (zoneAt s z).state = .off →
    P (adoptZone z reading s)
  queue {s : State} {z : Nat} : P s → z < 32 → (zoneAt s z).state = .off → P (queueZone z s)
  switchOff {s : State} {z : Nat} : P s → runs s z = true → P (switchZoneOff z s)
  unqueue {s : State} {z : Nat} : P s → (zoneAt s z).state = .queued → P (unqueueZone z .off s)
  unshed {s : State} {z : Nat} : P s → (zoneAt s z).state = .shed → P (unshedZone z .off s)
  unlock {s : State} {z : Nat} : P s → (zoneAt s z).state = .lockout →
    P (tellZoneChange z .lockout .off (modZone z (fun r => { r with state := .off, attempts := 0 }) s))
  isolate {s : State} (z : Nat) : P s → P (isolateZone s z)
  release {s : State} (z : Nat) : P s → P (releaseZone s z)
  write {s : State} {z : Nat} {c : ZoneCfg} : P s → zoneWritable s z c = true → P (takeZoneWrite z c s)

namespace Zonal

variable {P : State → Prop} {s : State}

theorem foldl (_ : Zonal P) {α : Type} {f : State → α → State} (hf : ∀ s x, P s → P (f s x))
    (l : List α) (law : P s) : P (l.foldl f s) := by
  induction l generalizing s with
  | nil => exact law
  | cons x rest ih => exact ih (hf s x law)

theorem ite (_ : Zonal P) {b : Bool} {t : State} (hs : P s) (ht : P t) : P (if b then s else t) := by
  cases b
  · exact ht
  · exact hs

/-! ### What the law does not see -/

theorem raiseFlag (h : Zonal P) (f : EventFlag) (p : List Byte) (law : P s) : P (raiseFlag f p s) :=
  h.quiet law (by simp [unzoned])

theorem modSeg (h : Zonal P) (i : Nat) (f : Segment → Segment) (law : P s) : P (modSeg i f s) :=
  h.quiet law (by simp [unzoned])

theorem joinSegment (h : Zonal P) (i : Nat) (e : Exchange) (law : P s) : P (joinSegment i e s).state :=
  h.quiet law (by simp [unzoned])

theorem arbitrate (h : Zonal P) (i : Nat) (law : P s) : P (arbitrate i s).1 :=
  h.quiet law (by simp [unzoned])

theorem removeExchanges (h : Zonal P) (i k : Nat) (law : P s) : P (removeExchanges i k s) :=
  h.quiet law (by simp [unzoned])

theorem firstScanTest (h : Zonal P) (expiry : Bool) (i : Nat) (law : P s) :
    P (firstScanTest expiry i s) :=
  h.quiet law (by simp [unzoned])

theorem relayEnded (h : Zonal P) (n : Nat) (f : RelaySlot → Frame) (law : P s) : P (relayEnded n f s) :=
  h.quiet law (by simp [unzoned])

theorem pollEnded (h : Zonal P) (i : Nat) (c : Current) (law : P s) : P (pollEnded i c s) :=
  h.quiet law (by simp [unzoned])

theorem keepPlace (h : Zonal P) (b : Bool) (law : P s) : P (keepPlace b s) :=
  h.quiet law (by simp [unzoned])

theorem modMail (h : Zonal P) (f : Mail → Mail) (law : P s) : P (modMail f s) :=
  h.quiet law (by simp [unzoned])

/-! ### Disables, sheds and departures -/

theorem afterDeparture (h : Zonal P) (departed : Bool) (law : P s) : P (afterDeparture departed s) := by
  unfold Machine.afterDeparture
  split
  · exact h.arbiter law
  · exact law

theorem setDisablePending (h : Zonal P) (z : Nat) (x : DisableOutcome) (law : P s) :
    P (setDisablePending z x s) := by
  unfold Machine.setDisablePending
  dsimp only
  split
  · exact law
  · exact h.raiseFlag _ _ (h.mark z law fun _ => rfl)

theorem queueDisable (h : Zonal P) (z : Nat) (law : P s) : P (queueDisable z s).1 := by
  unfold Machine.queueDisable
  dsimp only
  split
  · split
    · exact h.joinSegment _ _ law
    · exact h.joinSegment _ _ law
    · exact h.setDisablePending z _ (h.joinSegment _ _ law)
  · exact h.setDisablePending z _ law

theorem shedList (h : Zonal P) (l : List Nat) (law : P s) : P (shedList l s).1 := by
  induction l generalizing s with
  | nil => exact law
  | cons z rest ih => exact ih (h.shed z law)

theorem slotCountWritten (h : Zonal P) (law : P s) : P (slotCountWritten s) := by
  unfold Machine.slotCountWritten shedSurplus
  split
  · exact h.foldl (fun _ z => h.shed z) _ law
  · exact h.arbiter law

/-! ### Ends of FEED_SETs and feed reports (R67, R68, R70, R73, R87) -/

theorem enableEnded (h : Zonal P) (entry output : Nat) (report : FeedReport) (law : P s) :
    P (enableEnded entry output report s) := by
  unfold Machine.enableEnded
  split
  · exact law
  dsimp only
  split
  next waits =>
    simp only [Bool.and_eq_true, beq_iff_eq] at waits
    cases report with
    | accepted => exact h.mark _ law fun _ => rfl
    | refused => exact h.fail _ law waits.1
    | failed => exact h.fail _ law waits.1
    | cancelled => exact h.fail _ law waits.1
  · exact law

theorem disableEnded (h : Zonal P) (entry output : Nat) (report : FeedReport) (law : P s) :
    P (disableEnded entry output report s) := by
  unfold Machine.disableEnded
  split
  · exact law
  next z _ =>
    have failed (x : DisableOutcome) :
        P (if countsAllotment (zoneAt s z).state then s else Machine.setDisablePending z x s) := by
      split
      · exact law
      · exact h.setDisablePending z x law
    cases report with
    | accepted => exact h.arbiter (h.mark _ law fun _ => rfl)
    | refused => exact failed _
    | failed => exact failed _
    | cancelled => exact failed _

theorem feedSetEnded (h : Zonal P) (entry output : Nat) (on : Bool) (report : FeedReport) (law : P s) :
    P (feedSetEnded entry output on report s) := by
  unfold Machine.feedSetEnded
  split
  · exact h.enableEnded _ _ _ law
  · exact h.disableEnded _ _ _ law

theorem zoneReport (h : Zonal P) (entry : Nat) (news : Nat × Nat) (law : P s) :
    P (zoneReport entry s news) := by
  unfold Machine.zoneReport
  split
  · exact law
  next z pair =>
    dsimp only
    split
    next state =>
      split
      · split
        · exact law
        · exact h.good law state
        · exact h.fail _ law state
      · exact law
    next state =>
      split
      · exact law
      · exact h.trip _ law state
    next state =>
      split
      · exact h.adopt _ law (zoneOfPair_some pair).1 state
      · exact law
    all_goals exact law

/-! ### Requests (R83 to R85) -/

theorem zoneOnRequest (h : Zonal P) {z : Nat} (hz : z < 32) (law : P s) : P (zoneOnRequest z s).2 := by
  unfold Machine.zoneOnRequest
  split
  · exact law
  split
  · exact law
  split
  case h_3 state =>
    split
    · exact law
    · exact h.queue law hz state
  all_goals exact law

theorem zoneOffRequest (h : Zonal P) (z : Nat) (law : P s) : P (zoneOffRequest z s) := by
  unfold Machine.zoneOffRequest
  split
  next state => exact h.unqueue law state
  next state => exact h.switchOff law (by rw [runs, state]; rfl)
  next state => exact h.switchOff law (by rw [runs, state]; rfl)
  next state => exact h.unshed law state
  all_goals exact law

theorem zoneRequest (h : Zonal P) (z : Nat) (action : ZoneAction) (law : P s) :
    P (zoneRequest z action s).2 := by
  unfold Machine.zoneRequest
  split
  · exact law
  next within =>
    cases action with
    | on => exact h.zoneOnRequest (by omega) law
    | off => exact h.zoneOffRequest z law
    | reset =>
      dsimp only
      unfold zoneResetRequest
      split
      next locked => exact h.unlock law (eq_of_beq locked)
      · exact law

theorem seqQueueRequest (h : Zonal P) (z : Nat) (law : P s) : P (seqQueueRequest z s).2 := by
  unfold Machine.seqQueueRequest
  split
  · exact law
  split
  · exact law
  next used =>
    split
    case h_3 state =>
      split
      · exact law
      · exact h.queue law (zone_lt_of_inUse (by simpa using used)) state
    all_goals exact law

theorem epoClearRequest (h : Zonal P) (law : P s) : P (epoClearRequest s).2 := by
  unfold Machine.epoClearRequest
  split
  · split
    · exact law
    · exact h.arbiter (h.heed law rfl)
  · exact law

/-! ### News taken by the Zone Controller (R61, R66, R76, R77, R79 to R82) -/

theorem takeGroupNews (h : Zonal P) (news : GroupNews) (law : P s) : P (takeGroupNews s news) := by
  have held : P (modZc (fun c => { c with groups := put c.groups news.group news.new }) s) :=
    h.heed law rfl
  unfold Machine.takeGroupNews
  dsimp only
  refine h.arbiter ?_
  split
  · exact h.foldl (fun _ z => h.isolate z) _ held
  split
  · exact h.foldl (fun _ z => h.release z) _ held
  · exact held

theorem epoZone (h : Zonal P) (z : Nat) (law : P s) : P (epoZone s z) := by
  unfold Machine.epoZone
  dsimp only
  split
  next state => exact h.unqueue law state
  next state => exact h.switchOff law (by rw [runs, state]; rfl)
  next state => exact h.switchOff law (by rw [runs, state]; rfl)
  next state => exact h.unshed law state
  · split
    · exact h.afterDeparture _ (h.queueDisable z (h.mark z law fun _ => rfl))
    · exact law
  all_goals exact law

theorem takeEpoLevel (h : Zonal P) (asserted : Bool) (law : P s) : P (takeEpoLevel asserted s) := by
  have heard : P (modZc (fun c => { c with epoLine := asserted }) s) := h.heed law rfl
  unfold Machine.takeEpoLevel
  dsimp only
  split
  · unfold setEpoLatch
    exact h.foldl (fun _ z => h.epoZone z) _
      (h.modMail _ (h.raiseFlag _ _ (h.heed (f := fun c => { c with epoLatch := true }) heard rfl)))
  · exact heard

theorem takeCapNews (h : Zonal P) (news : CapNews) (law : P s) : P (takeCapNews news s) :=
  h.arbiter (h.readmit (h.heed law rfl))

theorem takeEnergyNews (h : Zonal P) (energy : Nat) (law : P s) : P (takeEnergyNews energy s) :=
  h.readmit (h.heed law rfl)

theorem takeRideNews (h : Zonal P) (news : RideNews) (law : P s) : P (takeRideNews s news) := by
  cases news with
  | state x => exact h.readmit (h.arbiter (h.heed law rfl))
  | conserve x => exact h.readmit (h.heed law rfl)

theorem takeBridging (h : Zonal P) (law : P s) : P (takeBridging s) := by
  have held : P (modZc (fun c => { c with ride := .bridging }) s) := h.heed law rfl
  exact h.quiet (h.shedList (inrushZones (modZc (fun c => { c with ride := .bridging }) s)) held)
    (by simp [Machine.takeBridging, unzoned])

theorem takeLinkNews (h : Zonal P) (news : LinkNews) (law : P s) : P (takeLinkNews news s) := by
  have held : P (modZc (fun c => { c with
      link := news.state, action := news.action, shedTier := news.shedTier }) s) := h.heed law rfl
  unfold Machine.takeLinkNews
  dsimp only
  split
  · exact h.arbiter (h.foldl (fun _ z => h.shed z) _ held)
  · exact h.readmit (h.arbiter held)

theorem rideReleaseRequest (h : Zonal P) (law : P s) : P (rideReleaseRequest s) := by
  have flushed {t : State} (ht : P t) : P (flushConserveNews t) := by
    unfold flushConserveNews
    exact h.foldl (fun _ x => h.takeRideNews x) _ (h.quiet ht (by simp [unzoned]))
  unfold Machine.rideReleaseRequest
  dsimp only
  split
  · exact flushed (h.quiet law (by simp [unzoned]))
  · exact h.quiet law (by simp [unzoned])

theorem leakClearRequest (h : Zonal P) (g : Nat) (law : P s) : P (leakClearRequest g s).2 := by
  have cleared : P (leakClear g s).2 := h.quiet law (by simp [unzoned])
  unfold Machine.leakClearRequest
  split <;> rename_i answered <;> rw [answered] at cleared
  · exact cleared
  · exact h.foldl (fun _ x => h.takeGroupNews x) _ (h.quiet cleared (by simp [unzoned]))

/-! ### The Frame Inspector -/

theorem tellConsumers (h : Zonal P) (k : Nat) (kind : NodeKind) (x : Option NodeState) (law : P s) :
    P (tellConsumers k kind x s) := by
  unfold Machine.tellConsumers
  cases kind with
  | rectifier => exact h.quiet (h.available law) (by simp [unzoned])
  | battery => exact h.quiet law (by simp [unzoned])
  | feed => exact h.arbiter law
  | leak => exact h.quiet law (by dsimp only; split <;> simp [unzoned])

theorem changeNode (h : Zonal P) (k : Nat) (x : NodeState) (cause : NodeCause) (law : P s) :
    P (changeNode k x cause s) := by
  have entered : P (modNode k (enterNodeState x) s) := h.quiet law (by simp [unzoned])
  exact h.quiet (h.tellConsumers k (nodeCfg s k).kind (some x) entered)
    (by simp [Machine.changeNode, unzoned])

theorem replyNews (h : Zonal P) (k : Nat) (before : NodeRun) (taken : List Item) (law : P s) :
    P (replyNews k before taken s) := by
  have told (c : Bool) (kind : NodeKind) (x : Option NodeState) :
      P (if c then Machine.tellConsumers k kind x s else s) :=
    h.ite (h.tellConsumers k kind x law) law
  unfold Machine.replyNews
  dsimp only
  split
  · exact told _ _ _
  · exact told _ _ _
  · exact h.foldl (fun _ x => h.zoneReport k x) _ (told _ _ _)
  · exact h.quiet law (by simp [unzoned])

theorem inspectReply (h : Zonal P) (k : Nat) (kind : Byte) (payload : List Byte) (poll stale : Bool)
    (law : P s) : P (inspectReply k kind payload poll stale s) := by
  rcases applies_or_unapplied k stale s with applies | unapplied
  · have settled : P (settled k kind payload s) := h.quiet law (by simp [Machine.settled, unzoned])
    have announced : P (announced k kind payload s) := by
      have told := h.replyNews k (nodeAt s k)
        (if kind == telemetryByte then itemsTaken (nodeCfg s k).kind payload else []) settled
      exact h.ite told (h.raiseFlag _ _ told)
    rw [inspectReply_of_applies applies]
    split
    · exact h.quiet announced (by simp [unzoned])
    · exact announced
  · rw [inspectReply_of_unapplied unapplied]
    exact law

theorem countMiss (h : Zonal P) (k : Nat) (law : P s) : P (countMiss k s) := by
  have counted (n : Nat) : P (modNode k (fun r => { r with misses := n }) s) :=
    h.quiet law (by simp [unzoned])
  unfold Machine.countMiss
  dsimp only
  split
  · exact law
  split
  · exact h.changeNode k _ _ (counted _)
  · exact counted _

theorem loseEntry (h : Zonal P) (k : Nat) (law : P s) : P (loseEntry s k) := by
  unfold Machine.loseEntry
  dsimp only
  split
  · exact law
  · exact h.changeNode k _ _ law

theorem nodeRequest (h : Zonal P) (k : Nat) (disable : Bool) (law : P s) :
    P (nodeRequest k disable s).2 := by
  have serviced (x : Service) : P (setService k x s) := h.config _ law rfl
  have disabled : P (disableEntry k s) := by
    unfold disableEntry
    exact h.afterDeparture _ (h.firstScanTest _ _ (h.changeNode k _ _ (h.modSeg _ _ (serviced .disabled))))
  have enabled : P (enableEntry k s) := by
    unfold enableEntry
    exact h.firstScanTest _ _ (h.changeNode k _ _ (serviced .enabled))
  unfold Machine.nodeRequest
  split
  · exact law
  split
  · exact law
  split <;> dsimp only <;> split <;> assumption

/-! ### Relays -/

theorem acceptRelay (h : Zonal P) (target : Nat) (k : RelayKind) (tag dest : Byte) (payload : List Byte)
    (law : P s) : P (acceptRelay target k tag dest payload s).2 := by
  have joined (n : Nat) := h.joinSegment (nodeCfg s target).segment (relayExchange n target k tag payload) law
  unfold Machine.acceptRelay
  split
  · exact law
  next n _ =>
    have accepted := h.keepPlace false (joined n)
    dsimp only
    split
    · exact h.afterDeparture _ (h.quiet accepted (by simp [unzoned]))
    · exact joined n
    · exact joined n

theorem takeRelay (h : Zonal P) (f : Frame) (law : P s) : P (takeRelay f s) := by
  have gate {u : State} (hu : P u) : P (relayGate f u).2 := by
    unfold relayGate
    split
    · exact hu
    split
    · exact hu
    split
    · exact hu
    split
    · exact hu
    · exact h.acceptRelay _ _ _ _ _ hu
  have gated := gate (h.keepPlace true law)
  unfold Machine.takeRelay
  split <;> rename_i answered <;> rw [answered] at gated
  · exact gated
  · exact h.quiet gated (by simp [unzoned])

theorem relayTimedOut (h : Zonal P) (n : Nat) (law : P s) : P (relayTimedOut n s) := by
  unfold Machine.relayTimedOut
  split
  · exact law
  split
  · exact h.afterDeparture _ (h.quiet law (by simp [unzoned]))
  · exact law
  · exact law

theorem tellCancelled (h : Zonal P) (e : Exchange) (law : P s) : P (tellCancelled s e) := by
  unfold Machine.tellCancelled
  split
  · exact law
  · exact h.feedSetEnded _ _ _ _ law
  · split
    · exact h.relayEnded _ _ law
    · exact law
    · exact law

/-! ### The ends of exchanges, and the poll timer -/

theorem returnToIdle (h : Zonal P) (i : Nat) (law : P s) : P (returnToIdle i s) := by
  unfold Machine.returnToIdle
  exact h.afterDeparture _ (h.arbitrate i (h.modSeg i _ law))

theorem tellGood (h : Zonal P) (i : Nat) (c : Current) (f : Frame) (law : P s) :
    P (tellGood i c f s) := by
  unfold Machine.tellGood
  split
  · exact h.pollEnded _ _ law
  · exact h.feedSetEnded _ _ _ _ law
  · split
    · exact h.relayEnded _ _ law
    · exact law
    · exact law

theorem tellFailed (h : Zonal P) (i : Nat) (c : Current) (x : Failure) (law : P s) :
    P (tellFailed i c x s) := by
  unfold Machine.tellFailed
  split
  · exact h.pollEnded _ _ (h.ite law (h.countMiss _ law))
  · exact h.feedSetEnded _ _ _ _ law
  · split
    · exact h.relayEnded _ _ law
    · exact law
    · exact law

theorem handFailure (h : Zonal P) (i : Nat) (c : Current) (x : Failure) (law : P s) :
    P (handFailure i c x s) := by
  unfold Machine.handFailure
  split
  · exact h.tellFailed i c x law
  split
  · exact h.quiet law (by simp [unzoned])
  · exact h.tellFailed i c x law

theorem endFailed (h : Zonal P) (i : Nat) (c : Current) (x : Failure) (law : P s) :
    P (endFailed i c x s) := by
  unfold Machine.endFailed
  refine h.returnToIdle i (h.handFailure i c x ?_)
  have counted := h.modSeg i (fun g => { g with counters := countFailure x g.counters })
    (h.modSeg i (fun g => { g with current := none }) law)
  cases x with
  | readback index => exact h.raiseFlag _ _ counted
  | noReply => exact counted
  | badReply => exact counted

theorem endGood (h : Zonal P) (i : Nat) (c : Current) (f : Frame) (law : P s) :
    P (endGood i c f s) := by
  have counted : P (modCounters i (fun n => { n with good := sat16 n.good }) (clearCurrent i s)) :=
    h.quiet law (by simp [unzoned])
  unfold Machine.endGood
  exact h.returnToIdle i (h.tellGood i c f (h.inspectReply _ _ _ _ _ counted))

theorem readbackDiffers (h : Zonal P) (i : Nat) (index : Byte) (law : P s) :
    P (readbackDiffers i index s) := by
  unfold Machine.readbackDiffers
  split
  · exact law
  split
  · exact h.endFailed i _ _ law
  all_goals exact law

theorem windowPassed (h : Zonal P) (i : Nat) (law : P s) : P (windowPassed i s) := by
  unfold Machine.windowPassed
  split
  · exact law
  split
  · exact h.endFailed i _ _ law
  all_goals exact law

theorem replyBroken (h : Zonal P) (i : Nat) (law : P s) : P (replyBroken i s) := by
  unfold Machine.replyBroken
  split
  · exact law
  split
  · exact h.endFailed i _ _ law
  all_goals exact law

theorem replyArrived (h : Zonal P) (i : Nat) (bytes : List Byte) (law : P s) :
    P (replyArrived i bytes s) := by
  unfold Machine.replyArrived
  split
  · exact law
  split
  · split
    · exact h.endGood i _ _ law
    · exact h.endFailed i _ _ law
  all_goals exact law

theorem runOwed (h : Zonal P) (i : Nat) (law : P s) : P (runOwed i s).1 := by
  have run (l : List Nat) (x : State × Bool) (hx : P x.1) : P (l.foldl requeueOwed x).1 := by
    induction l generalizing x with
    | nil => exact hx
    | cons z rest ih => exact ih _ (h.queueDisable z hx)
  exact run _ (s, false) law

theorem scanAndOwed (h : Zonal P) (i : Nat) (law : P s) : P (scanAndOwed i s).1 := by
  have run {u : State} (hu : P u) : P (runScan i u).1 := h.quiet hu (by simp [unzoned])
  have used : P (useFree s) := h.quiet law (by simp [unzoned])
  unfold Machine.scanAndOwed
  split
  · exact run law
  split
  · exact run (h.runOwed i used)
  · exact h.runOwed i (run used)

theorem pollExpired (h : Zonal P) (i : Nat) (law : P s) : P (pollExpired i s) := by
  have aged {u : State} (hu : P u) : P (ageItems i u) := h.quiet hu rfl
  unfold Machine.pollExpired
  exact h.afterDeparture _ (h.firstScanTest _ _ (h.scanAndOwed i (aged (h.modSeg i _ law))))

/-! ### Table writes -/

theorem segmentEnableChanged (h : Zonal P) (i : Nat) (law : P s) : P (segmentEnableChanged i s) := by
  have disabled : P (disableSegment i s) := by
    unfold disableSegment loseSegment
    dsimp only
    exact h.afterDeparture _ (h.foldl (fun _ k => h.loseEntry k) _
      (h.foldl (fun _ e => h.tellCancelled e) _ (h.modSeg i _ law)))
  have written : P (segmentEnableWritten i s) := by
    unfold segmentEnableWritten
    split
    · split
      · exact h.quiet law (by simp [unzoned])
      · exact law
    · split
      · exact law
      · exact disabled
  exact h.quiet written (by simp [Machine.segmentEnableChanged, unzoned])

theorem settingWritten (h : Zonal P) (k : Nat) (law : P s) : P (settingWritten k s) := by
  unfold Machine.settingWritten
  split
  case h_1 | h_2 | h_3 | h_4 => exact h.segmentEnableChanged _ law
  case h_5 => exact h.available law
  case h_6 => exact h.slotCountWritten law
  case h_7 => exact h.readmit law
  case h_13 => exact law
  all_goals exact h.quiet law (by simp [unzoned])

theorem writeSetting (h : Zonal P) (k v : Nat) (law : P s) : P (writeSetting k v s) := by
  have stored : P { s with tables := { s.tables with settings := settingsAfter k v s } } :=
    h.config _ law rfl
  rw [writeSetting_eq]
  split
  · exact stored
  · exact h.settingWritten k stored

theorem tellWritten (h : Zonal P) (k : Nat) (old new : NodeCfg) (law : P s) :
    P (tellWritten k old new s) := by
  have told (c : Bool) (kind : NodeKind) (x : Option NodeState) {u : State} (hu : P u) :
      P (if c then Machine.tellConsumers k kind x u else u) :=
    h.ite (h.tellConsumers k kind x hu) hu
  exact told _ _ _ (told _ _ _ law)

theorem takeNodeWrite (h : Zonal P) (k : Nat) (c : NodeCfg) (law : P s) : P (takeNodeWrite k c s) := by
  have stored : P { s with
      tables := { s.tables with nodes := put s.tables.nodes k c }
      nodes := put s.nodes k (writtenRun c) } :=
    h.quiet (h.config { s.tables with nodes := put s.tables.nodes k c } law rfl) rfl
  have marked {u : State} (hu : P u) : P (markEntryWritten k u) := h.quiet hu rfl
  have scanned (b : Bool) (i : Nat) {u : State} (hu : P u) :
      P (if b then Machine.firstScanTest false i u else u) := h.ite (h.firstScanTest _ _ hu) hu
  have told := h.tellWritten k (nodeCfg s k) c (h.foldl (fun _ e => h.tellCancelled e)
    (if (nodeCfg s k).inUse then queuedFor s (nodeCfg s k).segment k else [])
    (marked (h.ite (b := (nodeCfg s k).inUse) (h.removeExchanges (nodeCfg s k).segment k stored) stored)))
  exact h.afterDeparture _ (scanned _ _ (scanned _ _ (h.ite told (h.raiseFlag _ _ told))))

theorem takeLevelNews (h : Zonal P) (news : LevelNews) (law : P s) : P (takeLevelNews news s) := by
  unfold Machine.takeLevelNews
  split
  · exact h.quiet law (by simp [unzoned])
  split
  · exact h.takeEpoLevel _ law
  · exact h.quiet law (by simp [unzoned])

theorem sampleLine (h : Zonal P) (i : Nat) (drive : PinDrive) (law : P s) : P (sampleLine i drive s) := by
  have sampled : P (sampledLevel i drive s).2 := h.quiet law (by simp [unzoned])
  unfold Machine.sampleLine judgeSample
  dsimp only
  split
  · exact h.quiet sampled (by simp [unzoned])
  split
  · exact h.takeLevelNews _ (h.quiet sampled (by simp [unzoned]))
  · exact h.quiet sampled (by simp [unzoned])

theorem writeLine (h : Zonal P) (i : Nat) (c : LineCfg) (law : P s) : P (writeLine i c s) := by
  have stored : P { s with tables := { s.tables with lines := put s.tables.lines i (clampLine i c) } } :=
    h.config _ law rfl
  unfold Machine.writeLine
  dsimp only
  split
  · split
    · exact stored
    · exact h.takeLevelNews _ stored
  split
  · exact h.quiet stored (by simp [unzoned])
  split
  · exact h.quiet stored (by simp [unzoned])
  · exact stored

theorem offerEntry (h : Zonal P) (table : TableId) (k : Nat) (bytes : List Byte) (law : P s) :
    P (offerEntry table k bytes s).1 := by
  unfold Machine.offerEntry
  cases table with
  | node =>
    dsimp only
    split
    · exact law
    · split
      · exact h.takeNodeWrite _ _ law
      · exact law
  | limit => dsimp only; split; exacts [law, h.config _ law rfl]
  | zone =>
    dsimp only
    split
    · exact law
    · split
      next writable => exact h.write law writable
      · exact law
  | leakChannel =>
    dsimp only
    split
    · exact law
    next c _ =>
      unfold writeChannel
      split
      · exact h.quiet (h.config { s.tables with channels := put s.tables.channels k (clampChannel c) } law rfl)
          (by simp [unzoned])
      · exact law
  | leakMap =>
    dsimp only
    split
    · exact law
    next c _ =>
      unfold writeLeakMap
      split
      · exact h.quiet (h.config { s.tables with
          leakMap := put s.tables.leakMap k { c with vote := max 1 (min 4 c.vote) } } law rfl)
          (by simp [unzoned])
      · exact law
  | sequence =>
    dsimp only
    split
    · exact law
    · split
      · exact law
      · exact h.config _ law rfl
  | line => dsimp only; split; exacts [law, h.writeLine _ _ law]
  | settings => dsimp only; split; exacts [law, h.writeSetting _ _ law]

theorem takeEntries (h : Zonal P) (table : TableId) (l : List (List Byte)) {p : Progress}
    (law : P p.state) : P (l.foldl (takeEntry table) p).state := by
  induction l generalizing p with
  | nil => exact law
  | cons bytes rest ih =>
    refine ih ?_
    have offered := h.offerEntry table p.next bytes law
    unfold takeEntry
    split
    · exact law
    split <;> rename_i taken <;> rw [taken] at offered <;> exact offered

theorem tableDataRequest (h : Zonal P) (payload : List Byte) (law : P s) :
    P (tableDataRequest payload s).2.2 := by
  unfold Machine.tableDataRequest
  split
  · exact law
  split
  · exact law
  next r _ =>
    dsimp only
    split
    · exact h.quiet (h.takeEntries r.table
        (entriesOf (entrySize r.table) (payload.length / entrySize r.table) payload)
        (p := ⟨0, 0, none, r.next, r.remaining, s⟩) law) (by simp [unzoned])
    · exact law

/-! ### Requests and frames -/

theorem carryOut (h : Zonal P) (r : Request) (law : P s) : P (carryOut r s).2.2 := by
  cases r with
  | tableData payload => exact h.tableDataRequest payload law
  | node entry disable => exact h.nodeRequest _ _ law
  | zone z action => exact h.zoneRequest _ _ law
  | epoClear => exact h.epoClearRequest law
  | rideRelease => exact h.rideReleaseRequest law
  | leakClear group => exact h.leakClearRequest _ law
  | status subject index => exact law
  | tableRead table start count => exact law
  | _ => exact h.quiet law (by simp [Machine.carryOut, unzoned])

theorem serve (h : Zonal P) (tag : Byte) (r : Request) (law : P s) : P (serve tag r s) :=
  h.quiet (h.carryOut r (h.keepPlace true law)) rfl

theorem takeFrame (h : Zonal P) (f : Frame) (law : P s) : P (takeFrame f s) := by
  unfold Machine.takeFrame
  split
  · split
    · exact h.serve _ _ law
    · exact h.quiet law (by simp [unzoned])
  · exact h.takeRelay f law

theorem takeHead (h : Zonal P) (law : P s) : P (takeHead s) := by
  unfold Machine.takeHead
  split
  · exact law
  split
  · exact h.takeFrame _ (h.quiet law rfl)
  · exact law

theorem request (h : Zonal P) (tag : Byte) (r : Request) (law : P s) : P (request tag r s) := by
  unfold Machine.request
  split
  · exact h.quiet law (by simp [unzoned])
  split
  · exact h.serve tag r law
  · exact h.quiet law (by simp [unzoned])

theorem relayArrives (h : Zonal P) (f : Frame) (law : P s) : P (relayArrives f s) := by
  unfold Machine.relayArrives
  split
  · exact h.quiet law (by simp [unzoned])
  split
  · exact h.quiet law (by simp [unzoned])
  split
  · exact h.takeFrame f law
  · exact h.quiet law (by simp [unzoned])

/-! ### Expiries and deliveries -/

theorem onExpiry (h : Zonal P) (x : Timer) {f : State → State} (hf : ∀ s, P s → P (f s)) (law : P s) :
    P (onExpiry x f s) := by
  cases x with
  | stopped => exact law
  | running d => exact hf _ (h.quiet law rfl)

theorem onDelivery (h : Zonal P) {α : Type} (path : List α) (rest : List α → Mail → Mail)
    {f : α → State → State} (hf : ∀ x s, P s → P (f x s)) (law : P s) : P (onDelivery path rest f s) := by
  cases path with
  | nil => exact law
  | cons x tail => exact hf x _ (h.modMail _ law)

/-- R52: the grace timer runs when it expires. -/
theorem graceExpiry (h : Zonal P) (law : P s) : P (Machine.onExpiry s.cap.graceTimer graceExpired s) := by
  cases timer : s.cap.graceTimer with
  | stopped => exact law
  | running d =>
    exact h.grace (s := { s with now := max s.now d }) (h.quiet law rfl)
      (by rw [timer]; rfl)

theorem inrushExpired (h : Zonal P) (z : Nat) (law : P s) : P (inrushExpired z s) := by
  unfold Machine.inrushExpired
  split
  next inrush => exact h.fail _ law (by simpa [zoneIs_eq_decide] using inrush)
  · exact law

theorem retryExpired (h : Zonal P) (z : Nat) (law : P s) : P (retryExpired z s) :=
  h.arbiter (h.mark z law fun _ => rfl)

theorem takeCapacityShed (h : Zonal P) (zones : List Nat) (law : P s) : P (takeCapacityShed zones s) := by
  unfold Machine.takeCapacityShed
  exact h.modMail _ (h.shedList zones law)

theorem takePlanShed (h : Zonal P) (zones : List Nat) (law : P s) : P (takePlanShed zones s) := by
  unfold Machine.takePlanShed
  exact h.modMail _ (h.shedList zones law)

theorem answerSequencer (h : Zonal P) (ask : SeqAsk) (law : P s) : P (answerSequencer ask s) := by
  unfold Machine.answerSequencer
  exact h.modMail _ (h.seqQueueRequest ask.zone law)

theorem takeInrushShed (h : Zonal P) (law : P s) : P (takeInrushShed s) := by
  unfold Machine.takeInrushShed
  split
  · exact h.takeBridging (h.modMail _ law)
  · exact law

theorem takeRideDelivery (h : Zonal P) (law : P s) : P (takeRideDelivery s) := by
  unfold Machine.takeRideDelivery
  split
  · exact law
  · split
    · exact law
    · exact h.takeRideNews _ (h.modMail _ law)
  · exact h.takeRideNews _ (h.modMail _ law)

/-- R51: the Ride-Through Unit leaves NORMAL, or returns to it. -/
theorem takeNormal (h : Zonal P) (normal : Bool) (law : P s) :
    P (if normal then resumeCapacity s else suspendCapacity s) := by
  cases normal
  · exact h.suspend law
  · exact h.resume law

end Zonal

end Sys2Proof.Machine


namespace Sys2Proof.Machine

/-! ## A law of the zones and of the Capacity Unit over one step -/

namespace Zonal

open Inspected (Keeps)

variable {P : State → Prop} {s : State}

/-- An expiry that touches neither the zones, nor their table, nor the Capacity Unit. -/
theorem onExpiry_quiet (h : Zonal P) (x : Timer) {f : State → State}
    (hf : ∀ s, erase unzoned (f s) = erase unzoned s) (law : P s) : Keeps P (.next (Machine.onExpiry x f s)) :=
  Inspected.keeps_next (h.onExpiry x (fun s hs => h.quiet hs (hf s)) law)

/-- A delivery that touches neither the zones, nor their table, nor the Capacity Unit. -/
theorem onDelivery_quiet (h : Zonal P) {α : Type} (path : List α) (rest : List α → Mail → Mail)
    {f : α → State → State} (hf : ∀ x s, erase unzoned (f x s) = erase unzoned s) (law : P s) :
    Keeps P (.next (Machine.onDelivery path rest f s)) :=
  Inspected.keeps_next (h.onDelivery path rest (fun x s hs => h.quiet hs (hf x s)) law)

theorem replyWindowExpiry (h : Zonal P) (i : Fin 4) (law : P s) : Keeps P (execReplyWindowExpiry i s) := by
  refine Inspected.keeps_next ?_
  split
  · exact law
  · exact h.onExpiry _ (fun _ => h.windowPassed i) law

theorem relayTimerExpiry (h : Zonal P) (n : Fin 8) (law : P s) : Keeps P (execRelayTimerExpiry n s) := by
  refine Inspected.keeps_next ?_
  split
  · exact law
  · exact h.onExpiry _ (fun _ => h.relayTimedOut n) law

theorem capacityDelivery (h : Zonal P) (receiver : Receiver) (law : P s) :
    Keeps P (execCapacityDelivery receiver s) := by
  cases receiver with
  | zoneController => exact Inspected.keeps_next (h.onDelivery _ _ (fun x _ => h.takeCapNews x) law)
  | sequencer => exact h.onDelivery_quiet _ _ (fun _ _ => by simp [unzoned]) law

theorem energyFigureDelivery (h : Zonal P) (receiver : Receiver) (law : P s) :
    Keeps P (execEnergyFigureDelivery receiver s) := by
  cases receiver with
  | zoneController => exact Inspected.keeps_next (h.onDelivery _ _ (fun x _ => h.takeEnergyNews x) law)
  | sequencer => exact h.onDelivery_quiet _ _ (fun _ _ => by simp [unzoned]) law

theorem epoFailNotice (h : Zonal P) (law : P s) : Keeps P (execEpoFailNotice s) := by
  refine Inspected.keeps_next ?_
  split
  · exact law
  · exact h.quiet law (by simp [unzoned])

theorem autostart (h : Zonal P) (law : P s) : Keeps P (execAutostart s) := by
  refine Inspected.keeps_next ?_
  split
  · exact law
  · exact h.quiet law (by simp [unzoned])

/-- Every command keeps the law, where a reset does. -/
theorem exec (h : Zonal P) (c : Instr) (law : P s) (cold : ∀ kind, P (coldReset kind s))
    (warm : P (warmReset s)) : Keeps P (exec c s) := by
  cases c with
  | powerOnReset => exact Inspected.keeps_next (cold _)
  | hardReset => exact Inspected.keeps_next (h.ite (cold _) law)
  | softReset => exact Inspected.keeps_next (h.ite warm law)
  | upstreamFrame bytes => exact Inspected.keeps_next (h.quiet law (by simp [unzoned]))
  | upstreamByteTimeout => exact Inspected.keeps_next (h.quiet law (by simp [unzoned]))
  | rxFrameTaken => exact Inspected.keeps_next (h.takeHead law)
  | transmitStart => exact Inspected.keeps_next (h.quiet law (by simp [unzoned]))
  | transmitDone => exact Inspected.keeps_next (h.quiet law (by simp [unzoned]))
  | keepaliveCloseTime => exact Inspected.keeps_next (h.quiet law (by simp [unzoned]))
  | imageSaveComplete crcMatches => exact Inspected.keeps_next (h.quiet law (by simp [unzoned]))
  | relayAnswerPlaced => exact Inspected.keeps_next (h.quiet law (by simp [unzoned]))
  | resetHard tag | resetSoft tag | keepalive tag | statusSummary tag part | statusNode tag entry
  | statusZone tag zone | statusCapacity tag part | statusRide tag part | statusLeak tag part
  | statusSequencer tag part | statusSegment tag segment | statusQueues tag part | flagTake tag flags
  | tableLoad tag table start count | tableData tag payload | tableRead tag table start count
  | zoneOn tag zone | zoneOff tag zone | zoneReset tag zone | seqRun tag start count | seqStop tag
  | leakClear tag group | epoClear tag | rideRelease tag | nodeEnable tag entry
  | nodeDisable tag entry | imageSave tag | imageErase tag => exact Inspected.keeps_next (h.request _ _ law)
  | relayPoll tag dest payload | relayItemRead tag dest payload | relayItemWrite tag dest payload
  | relayFeedSet tag dest payload => exact Inspected.keeps_next (h.relayArrives _ law)
  | relayTimerExpiry slot => exact h.relayTimerExpiry slot law
  | pollTimerExpiry segment => exact Inspected.keeps_next (h.onExpiry _ (fun _ => h.pollExpired _) law)
  | sendComplete segment => exact Inspected.keeps_next (h.quiet law (by simp [unzoned]))
  | readbackMismatch segment index => exact Inspected.keeps_next (h.readbackDiffers _ _ law)
  | replyFirstByte segment => exact Inspected.keeps_next (h.quiet law (by simp [unzoned]))
  | replyWindowExpiry segment => exact h.replyWindowExpiry segment law
  | replyComplete segment bytes => exact Inspected.keeps_next (h.replyArrived _ _ law)
  | replySilence segment => exact Inspected.keeps_next (h.replyBroken _ law)
  | loadWindowExpiry => exact h.onExpiry_quiet _ (fun _ => by simp [unzoned]) law
  | graceTimerExpiry => exact Inspected.keeps_next (h.graceExpiry law)
  | stepTimerExpiry => exact h.onExpiry_quiet _ (fun _ => by simp [unzoned]) law
  | channelConfirmExpiry channel => exact h.onExpiry_quiet _ (fun _ => by simp [unzoned]) law
  | chatterTimerExpiry => exact h.onExpiry_quiet _ (fun _ => by simp [unzoned]) law
  | beaconTimerExpiry => exact h.onExpiry_quiet _ (fun _ => by simp [unzoned]) law
  | inrushTimerExpiry zone => exact Inspected.keeps_next (h.onExpiry _ (fun _ => h.inrushExpired _) law)
  | retryTimerExpiry zone => exact Inspected.keeps_next (h.onExpiry _ (fun _ => h.retryExpired _) law)
  | confirmTimerExpiry => exact h.onExpiry_quiet _ (fun _ => by simp [unzoned]) law
  | settleTimerExpiry => exact h.onExpiry_quiet _ (fun _ => by simp [unzoned]) law
  | recomputeTimerExpiry => exact h.onExpiry_quiet _ (fun _ => by simp [unzoned]) law
  | episodeWindowExpiry => exact h.onExpiry_quiet _ (fun _ => by simp [unzoned]) law
  | lineSample line drive => exact Inspected.keeps_next (h.onExpiry _ (fun _ => h.sampleLine _ drive) law)
  | capacityShedTaken => exact Inspected.keeps_next (h.onDelivery _ _ (fun zones _ => h.takeCapacityShed zones) law)
  | planShedTaken => exact Inspected.keeps_next (h.onDelivery _ _ (fun zones _ => h.takePlanShed zones) law)
  | capacityShedCompletion => exact Inspected.keeps_next (h.onDelivery _ _ (fun _ _ => h.shedDone) law)
  | planShedCompletion => exact h.onDelivery_quiet _ _ (fun _ _ => by simp [unzoned]) law
  | capacityDelivery receiver => exact h.capacityDelivery receiver law
  | energyFigureDelivery receiver => exact h.energyFigureDelivery receiver law
  | seqZoneQueueRequest => exact Inspected.keeps_next (h.onDelivery _ _ (fun ask _ => h.answerSequencer ask) law)
  | seqZoneAnswer => exact h.onDelivery_quiet _ _ (fun _ _ => by simp [unzoned]) law
  | zoneStateDelivery => exact h.onDelivery_quiet _ _ (fun _ _ => by simp [unzoned]) law
  | sequencerRideNotice => exact h.onDelivery_quiet _ _ (fun _ _ => by simp [unzoned]) law
  | epoFailNotice => exact h.epoFailNotice law
  | autostart => exact h.autostart law
  | capacityRideNotice => exact Inspected.keeps_next (h.onDelivery _ _ (fun normal _ => h.takeNormal normal) law)
  | rideDeliveryZone => exact Inspected.keeps_next (h.takeRideDelivery law)
  | bridgingInrushShed => exact Inspected.keeps_next (h.takeInrushShed law)
  | leakGroupDelivery => exact Inspected.keeps_next (h.onDelivery _ _ (fun news _ => h.takeGroupNews news) law)
  | linkStateDelivery => exact Inspected.keeps_next (h.onDelivery _ _ (fun news _ => h.takeLinkNews news) law)

/-- A step keeps the law, where a reset does: the command at the front of the queue is carried out, or
1 ms passes. -/
theorem step (h : Zonal P) (law : P s) (cold : ∀ kind t, P (coldReset kind t)) (warm : ∀ t, P (warmReset t)) :
    Keeps P (step s) := by
  unfold Machine.step
  split
  · exact Inspected.keeps_next (h.quiet law rfl)
  next c rest _ =>
    exact h.exec c (s := { s with pending := rest }) (h.quiet law rfl) (fun kind => cold kind _) (warm _)

end Zonal

/-! ## The capacity law over one step (R49, R50, R52, R55) -/

/-- R160: every zone starts OFF. -/
theorem zone_off_blocksReset (k : Kept) (s : State) (z : Nat) :
    (zoneAt (blocksReset k s) z).state = .off := by
  by_cases hz : z < 32
  · exact congrArg ZoneRun.state (nth_tabulate _ z hz)
  · rw [zoneAt, nth_of_le _ (Nat.le_of_not_lt hz)]
    rfl

/-- R160: no zone has an allotment, both lists are empty, and the Capacity Unit starts BALANCED. -/
theorem ledger_blocksReset (k : Kept) (s : State) : Ledger false (blocksReset k s) where
  cap := ⟨⟨iff_of_false nofun (fun some => some rfl), iff_of_false nofun nofun, nofun⟩,
    fun _ => Nat.le_refl 0, nofun⟩
  sum _ := by
    have idle (z : Nat) : allotment (blocksReset k s) z = 0 :=
      allotment_of_idle (by rw [zone_off_blocksReset]; rfl)
    rw [committedSum, List.map_congr_left fun z _ => idle z]
    rfl
  queue _ hz := absurd hz List.not_mem_nil
  readmit _ hz := absurd hz List.not_mem_nil

theorem ledger_restart (particulars : List Byte) (k : Kept) (s : State) :
    Ledger false (restart particulars (blocksReset k s)) :=
  (ledger_blocksReset k s).quiet (by simp [restart, leakSettled, unzoned])

theorem ledger_coldReset (kind : ResetKind) (s : State) : Ledger false (coldReset kind s) := by
  have imaged {u : State} {x} (hu : Ledger false u) : Ledger false (raiseImage x u) :=
    hu.quiet (erase_raiseImage _ _ (by decide))
  unfold coldReset
  dsimp only
  refine Ledger.quiet ?_ (erase_tryAutostart _ (by decide) (by decide) (by decide))
  split
  · exact ledger_restart _ _ _
  · exact imaged (ledger_restart _ _ _)

theorem ledger_warmReset (s : State) : Ledger false (warmReset s) := by
  unfold warmReset
  dsimp only
  split
  · exact (ledger_restart _ _ _).quiet (erase_raiseImage _ _ (by decide))
  · exact ledger_restart _ _ _

theorem zonal_ledger : Zonal (Ledger false) where
  quiet := Ledger.quiet
  config x h zones := h.change rfl
    (fun fresh => ⟨fresh, fun z _ => allotment_congr (by rw [zoneCfg, zones, zoneCfg]) rfl⟩) h.queue h.readmit
  heed h same := by
    simp only [Prod.mk.injEq] at same
    obtain ⟨zones, queue, readmit⟩ := same
    exact h.heed zones (fun z hz => .inl (queue ▸ hz)) fun z hz => .inl (readmit ▸ hz)
  mark z _ h same := h.mark z same
  available := Ledger.recomputeAvailable
  suspend := Ledger.suspendCapacity
  resume := Ledger.resumeCapacity
  grace := Ledger.graceExpired
  shedDone := Ledger.capacityShedDone
  arbiter := Ledger.runArbiter
  readmit := Ledger.evaluateReadmit
  shed z h := h.shedZone z
  fail cause h state := h.failAttempt state cause
  good := Ledger.powerGood
  trip reading h state := h.tripZone state reading
  adopt reading h hz state := h.adoptZone hz state reading
  queue := Ledger.queueZone
  switchOff := Ledger.switchZoneOff
  unqueue h state := h.unqueueZone state .off
  unshed h state := h.unshedZone state .off
  unlock := Ledger.clearLockout
  isolate z h := h.isolateZone z
  release z h := h.releaseZone z
  write h writable := h.takeZoneWrite writable

/-- Settles O7: committed power goes stale only while one zone changes its state, and is the sum again once
the Capacity Unit has been told; every evaluation of the figures leaves its record lawful. -/
theorem stepKeepsCapacityLaw : Obligations.StepKeepsCapacityLaw := by
  unfold Obligations.StepKeepsCapacityLaw
  intro s t lists law h
  exact (zonal_ledger.step (ledger_of_laws lists law) ledger_coldReset ledger_warmReset t h).capacityLaw

end Sys2Proof.Machine


namespace Sys2Proof.Machine

/-! ## The law of the zone lists (R62, R78)

A zone that changes its state is lifted out of the law, `ListsBut z`: neither list holds it, and the law holds
of the others. It is put back in the state it has reached, with or without a list to hold it. -/

/-- The law of the zone lists, but for zone `z`, which neither list holds. -/
structure ListsBut (z : Nat) (s : State) : Prop where
  unqueued : z ∉ s.zc.queue
  unshed : z ∉ s.zc.readmit
  queueOnce : s.zc.queue.Nodup
  readmitOnce : s.zc.readmit.Nodup
  queueBound : ∀ y ∈ s.zc.queue, y < 32
  readmitBound : ∀ y ∈ s.zc.readmit, y < 32
  queued : ∀ y < 32, y ≠ z → (y ∈ s.zc.queue ↔ (zoneAt s y).state = .queued)
  shed : ∀ y < 32, y ≠ z → (y ∈ s.zc.readmit ↔ (zoneAt s y).state = .shed)
  tiers : s.zc.queue.Pairwise (fun x y => (zoneCfg s x).tier ≤ (zoneCfg s y).tier)

theorem zoneCfg_congr {s t : State} (h : t.tables.zones = s.tables.zones) (z : Nat) :
    zoneCfg t z = zoneCfg s z := by
  rw [zoneCfg, h, zoneCfg]

/-- R78: a zone that is not SHED does not stand in the re-admit list. -/
theorem not_shed_of_state {s : State} (law : ZoneListsLaw s) {z : Nat} (state : (zoneAt s z).state ≠ .shed) :
    z ∉ s.zc.readmit := by
  obtain ⟨-, -, -, bound, -, lists, -⟩ := law
  exact fun shed => state ((lists z (bound z shed)).mp shed)

theorem queued_of_mem {s : State} (law : ZoneListsLaw s) {z : Nat} (hz : z ∈ s.zc.queue) :
    z < 32 ∧ (zoneAt s z).state = .queued := by
  obtain ⟨-, -, bound, -, lists, -⟩ := law
  exact ⟨bound z hz, (lists z (bound z hz)).mp hz⟩

theorem shed_of_mem {s : State} (law : ZoneListsLaw s) {z : Nat} (hz : z ∈ s.zc.readmit) :
    z < 32 ∧ (zoneAt s z).state = .shed := by
  obtain ⟨-, -, -, bound, -, lists, -⟩ := law
  exact ⟨bound z hz, (lists z (bound z hz)).mp hz⟩

/-- What changes neither the lists, nor a zone's state, nor the Zone Table keeps the law. -/
theorem zoneLists_congr {s t : State} (law : ZoneListsLaw s) (tables : t.tables.zones = s.tables.zones)
    (queue : t.zc.queue = s.zc.queue) (readmit : t.zc.readmit = s.zc.readmit)
    (state : ∀ z < 32, (zoneAt t z).state = (zoneAt s z).state) : ZoneListsLaw t := by
  obtain ⟨queueOnce, readmitOnce, queueBound, readmitBound, queued, shed, tiers⟩ := law
  rw [← queue] at queueOnce queueBound queued tiers
  rw [← readmit] at readmitOnce readmitBound shed
  refine ⟨queueOnce, readmitOnce, queueBound, readmitBound, fun z hz => ?_, fun z hz => ?_, ?_⟩
  · rw [state z hz]; exact queued z hz
  · rw [state z hz]; exact shed z hz
  · simpa only [zoneCfg_congr tables] using tiers

namespace ListsBut

variable {z : Nat} {s t : State}

/-- A zone that neither list holds is lifted out of the law. -/
theorem lift (law : ZoneListsLaw s) (queued : (zoneAt s z).state ≠ .queued)
    (shed : (zoneAt s z).state ≠ .shed) : ListsBut z s :=
  have unqueued := not_queued_of_state law queued
  have unshed := not_shed_of_state law shed
  have ⟨queueOnce, readmitOnce, queueBound, readmitBound, inQueue, inReadmit, tiers⟩ := law
  ⟨unqueued, unshed, queueOnce, readmitOnce, queueBound, readmitBound, fun y hy _ => inQueue y hy,
    fun y hy _ => inReadmit y hy, tiers⟩

/-- A QUEUED zone is lifted out by leaving the queue. -/
theorem dequeue (law : ZoneListsLaw s) (queued : (zoneAt s z).state = .queued) :
    ListsBut z (dequeueZone z s) := by
  have unshed := not_shed_of_state law (z := z) (by rw [queued]; decide)
  obtain ⟨queueOnce, readmitOnce, queueBound, readmitBound, inQueue, inReadmit, tiers⟩ := law
  refine ⟨not_mem_dequeueZone z s, unshed, queueOnce.filter _, readmitOnce,
    fun y hy => queueBound y (List.mem_filter.mp hy).1, readmitBound, fun y hy other => ?_,
    fun y hy _ => inReadmit y hy, tiers.sublist List.filter_sublist⟩
  refine Iff.trans ?_ (inQueue y hy)
  exact ⟨fun h => (List.mem_filter.mp h).1, fun h => List.mem_filter.mpr ⟨h, by simpa using other⟩⟩

/-- A SHED zone is lifted out by leaving the re-admit list. -/
theorem leave (law : ZoneListsLaw s) (shed : (zoneAt s z).state = .shed) :
    ListsBut z (leaveReadmit z s) := by
  have unqueued := not_queued_of_state law (z := z) (by rw [shed]; decide)
  obtain ⟨queueOnce, readmitOnce, queueBound, readmitBound, inQueue, inReadmit, tiers⟩ := law
  refine ⟨unqueued, not_mem_leaveReadmit z s, queueOnce, readmitOnce.filter _, queueBound,
    fun y hy => readmitBound y (List.mem_filter.mp hy).1, fun y hy _ => inQueue y hy,
    fun y hy other => ?_, tiers⟩
  refine Iff.trans ?_ (inReadmit y hy)
  exact ⟨fun h => (List.mem_filter.mp h).1, fun h => List.mem_filter.mpr ⟨h, by simpa using other⟩⟩

/-- What is done to the zone's own record, and to its own entry of the Zone Table, the law does not see. -/
theorem congr (h : ListsBut z s) (queue : t.zc.queue = s.zc.queue) (readmit : t.zc.readmit = s.zc.readmit)
    (state : ∀ y < 32, y ≠ z → (zoneAt t y).state = (zoneAt s y).state)
    (tables : ∀ y, y ≠ z → zoneCfg t y = zoneCfg s y) : ListsBut z t where
  unqueued := queue ▸ h.unqueued
  unshed := readmit ▸ h.unshed
  queueOnce := queue ▸ h.queueOnce
  readmitOnce := readmit ▸ h.readmitOnce
  queueBound := queue ▸ h.queueBound
  readmitBound := readmit ▸ h.readmitBound
  queued y hy other := by rw [queue, state y hy other]; exact h.queued y hy other
  shed y hy other := by rw [readmit, state y hy other]; exact h.shed y hy other
  tiers := by
    rw [queue]
    refine h.tiers.imp_of_mem fun {x y} hx hy tier => ?_
    rwa [tables x fun same => h.unqueued (same ▸ hx), tables y fun same => h.unqueued (same ▸ hy)]

theorem modZone (h : ListsBut z s) (f : ZoneRun → ZoneRun) : ListsBut z (modZone z f s) :=
  h.congr rfl rfl (fun y _ other => by rw [zoneAt_modZone, if_neg fun same => other same.1.symm])
    fun _ _ => rfl

/-- The zone is put back in a state that no list holds. -/
theorem rest (h : ListsBut z s) (queued : (zoneAt s z).state ≠ .queued)
    (shed : (zoneAt s z).state ≠ .shed) : ZoneListsLaw s := by
  refine ⟨h.queueOnce, h.readmitOnce, h.queueBound, h.readmitBound, fun y hy => ?_, fun y hy => ?_, h.tiers⟩
  · by_cases here : y = z
    · subst here; exact iff_of_false h.unqueued queued
    · exact h.queued y hy here
  · by_cases here : y = z
    · subst here; exact iff_of_false h.unshed shed
    · exact h.shed y hy here

/-- R62: the zone is put back QUEUED, at the tail of its tier. -/
theorem enqueue (h : ListsBut z s) (hz : z < 32) (state : (zoneAt s z).state = .queued) :
    ZoneListsLaw (enqueueZone z s) := by
  have perm := perm_insert (fun y => decide ((zoneCfg s y).tier ≤ (zoneCfg s z).tier)) z s.zc.queue
  have member (y : Nat) : y ∈ (enqueueZone z s).zc.queue ↔ y = z ∨ y ∈ s.zc.queue :=
    perm.mem_iff.trans List.mem_cons
  refine ⟨perm.nodup_iff.mpr (List.nodup_cons.mpr ⟨h.unqueued, h.queueOnce⟩), h.readmitOnce,
    fun y hy => ?_, h.readmitBound, fun y hy => ?_, fun y hy => ?_, ?_⟩
  · rcases (member y).mp hy with rfl | hy
    · exact hz
    · exact h.queueBound y hy
  · rw [member]
    show y = z ∨ y ∈ s.zc.queue ↔ (zoneAt s y).state = .queued
    by_cases here : y = z
    · subst here; exact iff_of_true (.inl rfl) state
    · simpa [here] using h.queued y hy here
  · by_cases here : y = z
    · subst here
      exact iff_of_false h.unshed (by rw [show zoneAt (enqueueZone y s) y = zoneAt s y from rfl, state]; decide)
    · exact h.shed y hy here
  · exact pairwise_insert (R := fun x y => (zoneCfg s x).tier ≤ (zoneCfg s y).tier) _ z
      (fun _ _ _ => Nat.le_trans) _ (fun x _ hx => of_decide_eq_true hx)
      (fun x _ hx => Nat.le_of_not_le (of_decide_eq_false hx)) h.tiers

/-- R78: the zone is put back SHED, at the tail of the re-admit list. -/
theorem append (h : ListsBut z s) (hz : z < 32) (state : (zoneAt s z).state = .shed) :
    ZoneListsLaw (modZc (fun c => { c with readmit := c.readmit ++ [z] }) s) := by
  refine ⟨h.queueOnce, ?_, h.queueBound, fun y hy => ?_, fun y hy => ?_, fun y hy => ?_, h.tiers⟩
  · exact List.nodup_append.mpr ⟨h.readmitOnce, List.nodup_singleton z, fun a ha b hb => by
      rw [List.mem_singleton] at hb; subst hb; exact fun same => h.unshed (same ▸ ha)⟩
  · rcases List.mem_append.mp hy with hy | hy
    · exact h.readmitBound y hy
    · rw [List.mem_singleton] at hy; exact hy ▸ hz
  · by_cases here : y = z
    · subst here
      exact iff_of_false h.unqueued (by
        rw [show zoneAt (modZc _ s) y = zoneAt s y from rfl, state]; decide)
    · exact h.queued y hy here
  · show y ∈ s.zc.readmit ++ [z] ↔ (zoneAt s y).state = .shed
    by_cases here : y = z
    · subst here; exact iff_of_true (by simp) state
    · simpa [here] using h.shed y hy here

end ListsBut
end Sys2Proof.Machine

namespace Sys2Proof.Machine

/-! ### The lists over the Zone Controller's work -/

/-- What touches neither the tables nor the Zone Controller keeps the law of the lists. -/
theorem zoneLists_of_erase {bs : List Block} {s t : State} (law : ZoneListsLaw s)
    (h : erase bs t = erase bs s) (away : Block.tables ∉ bs ∧ Block.zc ∉ bs) : ZoneListsLaw t := by
  have tables : t.tables = s.tables := touches_of_erase h .tables away.1
  have zc : t.zc = s.zc := touches_of_erase h .zc away.2
  exact zoneLists_congr law (by rw [tables]) (by rw [zc]) (by rw [zc]) fun z _ => by rw [zoneAt_congr zc]

theorem zoneLists_tell {s : State} (law : ZoneListsLaw s) (z : Nat) (old new : ZoneState) :
    ZoneListsLaw (tellZoneChange z old new s) :=
  zoneLists_of_erase (bs := [.port, .cap, .mail]) law (by simp) (by decide)

theorem zoneLists_raiseFlag {s : State} (law : ZoneListsLaw s) (f : EventFlag) (p : List Byte) :
    ZoneListsLaw (raiseFlag f p s) :=
  zoneLists_of_erase (bs := [.port]) law (by simp) (by decide)

/-- A change of a zone's record that leaves its state keeps the law. -/
theorem zoneLists_mark {s : State} (law : ZoneListsLaw s) (z : Nat) {f : ZoneRun → ZoneRun}
    (same : ∀ r, (f r).state = r.state) : ZoneListsLaw (modZone z f s) := by
  refine zoneLists_congr law rfl rfl rfl fun y _ => ?_
  rw [zoneAt_modZone]
  split
  · exact same _
  · rfl

/-- What a disable leaves of the Zone Controller: the zone may owe it. -/
theorem queueDisable_leaves (z : Nat) (s : State) :
    (queueDisable z s).1.tables = s.tables ∧
      ∃ owed, (queueDisable z s).1.zc = (modZone z (fun r => { r with disablePending := owed }) s).zc := by
  have kept (u : State) (hu : u.zc = s.zc) :
      ∃ owed, u.zc = (modZone z (fun r => { r with disablePending := owed }) s).zc := by
    refine ⟨(zoneAt s z).disablePending, hu.trans ?_⟩
    show s.zc = { s.zc with zones := put s.zc.zones z (nth s.zc.zones z) }
    rw [put_nth]
  have pending (x : DisableOutcome) (u : State) (hu : u.zc = s.zc) :
      ∃ owed, (setDisablePending z x u).zc = (modZone z (fun r => { r with disablePending := owed }) s).zc := by
    unfold setDisablePending
    split
    · exact kept u hu
    · refine ⟨true, ?_⟩
      dsimp only
      rw [raiseFlag_zc, modZone, modZone, modZc_zc, modZc_zc, hu]
  refine ⟨touches_of_erase (bs := [.port, .segs, .zc]) (by simp) .tables (by decide), ?_⟩
  unfold queueDisable
  dsimp only
  have joined : (joinSegment (nodeCfg s (zoneCfg s z).feedEntry).segment
      (feedExchange (zoneCfg s z).feedEntry (zoneCfg s z).output false) s).state.zc = s.zc := by
    rw [joinSegment_state]; rfl
  split
  · split
    · exact kept _ joined
    · exact kept _ joined
    · exact pending _ _ joined
  · exact pending _ s rfl

theorem zoneLists_queueDisable {s : State} (law : ZoneListsLaw s) (z : Nat) :
    ZoneListsLaw (queueDisable z s).1 := by
  obtain ⟨tables, owed, zc⟩ := queueDisable_leaves z s
  have marked := zoneLists_mark law z (f := fun r => { r with disablePending := owed }) fun _ => rfl
  exact zoneLists_congr marked (by rw [tables]; rfl) (by rw [zc]) (by rw [zc]) fun y _ => by
    rw [zoneAt_congr zc]

/-- A zone that neither list held, in a state that neither holds, once its change of state is made. -/
theorem zoneLists_move {s : State} (law : ZoneListsLaw s) {z : Nat} {f : ZoneRun → ZoneRun}
    (before : (zoneAt s z).state ≠ .queued ∧ (zoneAt s z).state ≠ .shed)
    (after : (f (zoneAt s z)).state ≠ .queued ∧ (f (zoneAt s z)).state ≠ .shed) :
    ZoneListsLaw (modZone z f s) := by
  have lifted := (ListsBut.lift law before.1 before.2).modZone f
  by_cases hz : z < 32
  · have record := zoneAt_modZone_same hz f s
    exact lifted.rest (record ▸ after.1) (record ▸ after.2)
  · have record : zoneAt (modZone z f s) z = zoneAt s z := by rw [zoneAt_modZone, if_neg fun h => hz h.2]
    exact lifted.rest (record ▸ before.1) (record ▸ before.2)

/-- A zone that enters QUEUED from neither list. -/
theorem zoneLists_enqueue {s : State} (law : ZoneListsLaw s) {z : Nat} (hz : z < 32) {f : ZoneRun → ZoneRun}
    (before : (zoneAt s z).state ≠ .queued ∧ (zoneAt s z).state ≠ .shed)
    (after : (f (zoneAt s z)).state = .queued) : ZoneListsLaw (enqueueZone z (modZone z f s)) :=
  ((ListsBut.lift law before.1 before.2).modZone f).enqueue hz (by rwa [zoneAt_modZone_same hz])

/-- A zone that enters SHED from neither list. -/
theorem zoneLists_append {s : State} (law : ZoneListsLaw s) {z : Nat} (hz : z < 32) {f : ZoneRun → ZoneRun}
    (before : (zoneAt s z).state ≠ .queued ∧ (zoneAt s z).state ≠ .shed)
    (after : (f (zoneAt s z)).state = .shed) :
    ZoneListsLaw (modZc (fun c => { c with readmit := c.readmit ++ [z] }) (modZone z f s)) :=
  ((ListsBut.lift law before.1 before.2).modZone f).append hz (by rwa [zoneAt_modZone_same hz])

theorem zoneLists_unqueueZone {s : State} (law : ZoneListsLaw s) {z : Nat} {new : ZoneState}
    (state : (zoneAt s z).state = .queued) (goes : new ≠ .queued ∧ new ≠ .shed) :
    ZoneListsLaw (unqueueZone z new s) := by
  have hz := zone_lt_of_state (s := s) (z := z) (by rw [state]; decide)
  have lifted := (ListsBut.dequeue law state).modZone fun r => { r with state := new, retry := .stopped }
  have record := zoneAt_modZone_same hz (fun r => { r with state := new, retry := .stopped }) (dequeueZone z s)
  exact zoneLists_tell (lifted.rest (by rw [record]; exact goes.1) (by rw [record]; exact goes.2)) _ _ _

theorem zoneLists_unshedZone {s : State} (law : ZoneListsLaw s) {z : Nat} {new : ZoneState}
    (state : (zoneAt s z).state = .shed) (goes : new ≠ .queued ∧ new ≠ .shed) :
    ZoneListsLaw (unshedZone z new s) := by
  have hz := zone_lt_of_state (s := s) (z := z) (by rw [state]; decide)
  have lifted := (ListsBut.leave law state).modZone fun r => { r with state := new }
  have record := zoneAt_modZone_same hz (fun r => { r with state := new }) (leaveReadmit z s)
  exact zoneLists_tell (lifted.rest (by rw [record]; exact goes.1) (by rw [record]; exact goes.2)) _ _ _

theorem zoneLists_grantZone {s : State} (law : ZoneListsLaw s) {z : Nat} (queued : z ∈ s.zc.queue) :
    ZoneListsLaw (grantZone z s) := by
  obtain ⟨hz, state⟩ := queued_of_mem law queued
  have lifted := (ListsBut.dequeue law state).modZone granted
  have record : (zoneAt (modZone z granted (dequeueZone z s)) z).state = .inrush := by
    rw [zoneAt_modZone_same hz]; rfl
  exact zoneLists_tell (lifted.rest (by rw [record]; decide) (by rw [record]; decide)) _ _ _

theorem zoneLists_join {s : State} (law : ZoneListsLaw s) (i : Nat) (e : Exchange) :
    ZoneListsLaw (joinSegment i e s).state :=
  zoneLists_of_erase (bs := [.segs]) law (by simp) (by decide)

theorem zoneLists_arbiterRun (fuel : Nat) {s : State} (law : ZoneListsLaw s) :
    ZoneListsLaw (arbiterRun fuel s) := by
  induction fuel generalizing s with
  | zero => exact law
  | succ fuel ih =>
    unfold arbiterRun
    split
    · split
      · exact law
      next z found =>
        have queued : z ∈ s.zc.queue := List.mem_of_find?_eq_some found
        split
        · dsimp only
          split
          · refine ih (zoneLists_grantZone (zoneLists_join law _ _) ?_)
            rwa [joinSegment_state]
          · exact law
          · exact law
        · exact law
    · exact law

theorem zoneLists_runArbiter {s : State} (law : ZoneListsLaw s) : ZoneListsLaw (runArbiter s) :=
  zoneLists_arbiterRun _ law

theorem zoneLists_afterDeparture {s : State} (law : ZoneListsLaw s) (departed : Bool) :
    ZoneListsLaw (afterDeparture departed s) := by
  unfold afterDeparture
  split
  · exact zoneLists_runArbiter law
  · exact law

theorem zoneLists_drainZone {s : State} (law : ZoneListsLaw s) {z : Nat}
    (state : (zoneAt s z).state = .shed) : ZoneListsLaw (drainZone s z) := by
  have hz := zone_lt_of_state (s := s) (z := z) (by rw [state]; decide)
  refine zoneLists_tell (((ListsBut.leave law state).modZone _).enqueue hz ?_) _ _ _
  rw [zoneAt_modZone_same hz]

/-- What a drained zone's move leaves of the others. -/
theorem drainZone_other (s : State) {y z : Nat} (other : y ≠ z) : zoneAt (drainZone s z) y = zoneAt s y := by
  have record : zoneAt (drainZone s z) y =
      zoneAt (modZone z (fun r => { r with state := .queued }) (leaveReadmit z s)) y :=
    (zoneAt_congr (tellZoneChange_zc _ _ _ _) y).trans rfl
  rw [record, zoneAt_modZone, if_neg fun same => other same.1.symm]
  rfl

theorem zoneLists_drainZones (l : List Nat) {s : State} (law : ZoneListsLaw s) (once : l.Nodup)
    (shed : ∀ z ∈ l, (zoneAt s z).state = .shed) : ZoneListsLaw (l.foldl drainZone s) := by
  induction l generalizing s with
  | nil => exact law
  | cons z rest ih =>
    obtain ⟨fresh, once⟩ := List.nodup_cons.mp once
    refine ih (zoneLists_drainZone law (shed z (.head _))) once fun y hy => ?_
    rw [drainZone_other s (by rintro rfl; exact fresh hy)]
    exact shed y (.tail _ hy)

theorem zoneLists_evaluateReadmit {s : State} (law : ZoneListsLaw s) : ZoneListsLaw (evaluateReadmit s) := by
  unfold evaluateReadmit
  split
  · have ⟨_, once, _⟩ := law
    exact zoneLists_runArbiter (zoneLists_drainZones _ law (List.nodup_reverse.mpr once)
      fun z hz => (shed_of_mem law (List.mem_reverse.mp hz)).2)
  · exact law

/-- R49: an INRUSH or ON zone stands in neither list. -/
theorem unlisted_of_runs {s : State} {z : Nat} (running : runs s z = true) :
    (zoneAt s z).state ≠ .queued ∧ (zoneAt s z).state ≠ .shed :=
  have ⟨queued, shed, _⟩ := unlisted_of_counts running
  ⟨queued, shed⟩

theorem lt_of_runs {s : State} {z : Nat} (running : runs s z = true) : z < 32 :=
  zone_lt_of_state (unlisted_of_counts running).2.2

theorem zoneLists_shedZone {s : State} (law : ZoneListsLaw s) (z : Nat) : ZoneListsLaw (shedZone s z) := by
  unfold shedZone
  dsimp only
  split
  next running =>
    exact zoneLists_afterDeparture (zoneLists_evaluateReadmit (zoneLists_tell (zoneLists_queueDisable
      (zoneLists_append law (lt_of_runs running) (unlisted_of_runs running) rfl) z) _ _ _)) _
  · exact law

theorem zoneLists_failAttempt {s : State} (law : ZoneListsLaw s) {z : Nat}
    (state : (zoneAt s z).state = .inrush) (cause : AttemptCause) : ZoneListsLaw (failAttempt z cause s) := by
  have hz := zone_lt_of_state (s := s) (z := z) (by rw [state]; decide)
  have before : (zoneAt s z).state ≠ .queued ∧ (zoneAt s z).state ≠ .shed := by rw [state]; decide
  have failed : ZoneListsLaw (attemptFailed z s) := by
    unfold attemptFailed
    dsimp only
    split
    next locked => exact zoneLists_move law before (by simp [leftRunning])
    next unlocked => exact zoneLists_enqueue law hz before (by simp [leftRunning])
  obtain ⟨p, new, eq⟩ := failAttempt_eq z cause s
  rw [eq]
  refine zoneLists_runArbiter (zoneLists_tell ?_ _ _ _)
  split
  · exact zoneLists_raiseFlag (zoneLists_queueDisable failed z) _ _
  · exact zoneLists_queueDisable failed z

theorem zoneLists_powerGood {s : State} (law : ZoneListsLaw s) {z : Nat}
    (state : (zoneAt s z).state = .inrush) : ZoneListsLaw (powerGood z s) :=
  zoneLists_runArbiter (zoneLists_tell (zoneLists_move law (by rw [state]; decide) (by simp [leftRunning])) _ _ _)

theorem zoneLists_tripZone {s : State} (law : ZoneListsLaw s) {z : Nat} (state : (zoneAt s z).state = .on)
    (reading : Nat) : ZoneListsLaw (tripZone z reading s) :=
  zoneLists_runArbiter (zoneLists_tell (zoneLists_queueDisable (zoneLists_raiseFlag
    (zoneLists_move law (by rw [state]; decide) (by simp [leftRunning])) _ _) z) _ _ _)

theorem zoneLists_switchZoneOff {s : State} (law : ZoneListsLaw s) {z : Nat} (running : runs s z = true) :
    ZoneListsLaw (switchZoneOff z s) :=
  zoneLists_afterDeparture (zoneLists_tell (zoneLists_queueDisable
    (zoneLists_move law (unlisted_of_runs running) (by simp [leftRunning])) z) _ _ _) _

theorem zoneLists_queueZone {s : State} (law : ZoneListsLaw s) {z : Nat} (hz : z < 32)
    (state : (zoneAt s z).state = .off) : ZoneListsLaw (queueZone z s) :=
  zoneLists_runArbiter (zoneLists_tell (zoneLists_enqueue law hz (by rw [state]; decide) rfl) _ _ _)

theorem zoneLists_adoptOff {s : State} (law : ZoneListsLaw s) {z : Nat} (hz : z < 32)
    (state : (zoneAt s z).state = .off) {new : ZoneState} (unqueued : new ≠ .queued) :
    ZoneListsLaw (adoptOff z new s) := by
  have before : (zoneAt s z).state ≠ .queued ∧ (zoneAt s z).state ≠ .shed := by rw [state]; decide
  unfold adoptOff
  dsimp only
  refine zoneLists_afterDeparture ?_ _
  by_cases shed : new = .shed
  · subst shed
    exact zoneLists_evaluateReadmit (zoneLists_tell (zoneLists_queueDisable
      (zoneLists_append law hz before rfl) z) _ _ _)
  · have moved := zoneLists_queueDisable (zoneLists_move law
      (f := fun r => { r with state := new, adoptPending := false }) before ⟨unqueued, shed⟩) z
    have other : (new == .shed) = false := by simpa using shed
    simp only [other, Bool.false_eq_true, if_false]
    by_cases off : (new == .off) = true
    · simpa only [off, if_true] using moved
    · simp only [off, Bool.false_eq_true, if_false]
      exact zoneLists_tell moved _ _ _

theorem zoneLists_adoptZone {s : State} (law : ZoneListsLaw s) {z : Nat} (hz : z < 32)
    (state : (zoneAt s z).state = .off) (reading : Nat) : ZoneListsLaw (adoptZone z reading s) := by
  unfold adoptZone
  split
  · exact zoneLists_mark law z fun _ => rfl
  · split
    · exact zoneLists_adoptOff law hz state (by decide)
    split
    · exact zoneLists_adoptOff law hz state (by decide)
    split
    · exact zoneLists_adoptOff law hz state (by decide)
    · exact zoneLists_tell (zoneLists_move law (by rw [state]; decide) (by simp)) _ _ _
  · exact zoneLists_adoptOff law hz state (by decide)

theorem zoneLists_isolateZone {s : State} (law : ZoneListsLaw s) (z : Nat) :
    ZoneListsLaw (isolateZone s z) := by
  have moved {f : ZoneRun → ZoneRun} (before : (zoneAt s z).state ≠ .queued ∧ (zoneAt s z).state ≠ .shed)
      (goes : ∀ r, (f r).state = .isolated) : ZoneListsLaw (modZone z f s) :=
    zoneLists_move law before (by rw [goes]; decide)
  unfold isolateZone
  dsimp only
  split
  next state =>
    have left := moved (f := fun r => { r with state := .isolated, adoptPending := false })
      (by rw [state]; decide) fun _ => rfl
    split
    · exact zoneLists_afterDeparture (zoneLists_tell (zoneLists_queueDisable left z) _ _ _) _
    · exact zoneLists_afterDeparture (zoneLists_tell left _ _ _) _
  next state => exact zoneLists_unqueueZone law state (by decide)
  next state =>
    exact zoneLists_runArbiter (zoneLists_tell (zoneLists_queueDisable
      (moved (f := leftRunning .isolated) (by rw [state]; decide) fun _ => rfl) z) _ _ _)
  next state =>
    exact zoneLists_afterDeparture (zoneLists_tell (zoneLists_queueDisable
      (moved (f := leftRunning .isolated) (by rw [state]; decide) fun _ => rfl) z) _ _ _) _
  next state => exact zoneLists_unshedZone law state (by decide)
  · exact law
  · exact law

theorem zoneLists_releaseZone {s : State} (law : ZoneListsLaw s) (z : Nat) :
    ZoneListsLaw (releaseZone s z) := by
  unfold releaseZone
  split
  next isolated =>
    simp only [Bool.and_eq_true, zoneIs_eq_decide, decide_eq_true_eq] at isolated
    exact zoneLists_tell (zoneLists_move law (by rw [isolated.1]; decide) (by simp)) _ _ _
  · exact law

/-- R60: only an OFF zone's entry is written, and no list holds it. -/
theorem zoneLists_takeZoneWrite {s : State} (law : ZoneListsLaw s) {z : Nat} {c : ZoneCfg}
    (writable : zoneWritable s z c = true) : ZoneListsLaw (takeZoneWrite z c s) := by
  have off : (zoneAt s z).state = .off := by
    simp only [zoneWritable, Bool.and_eq_true, zoneIs_eq_decide, decide_eq_true_eq] at writable
    exact writable.1.1
  have written : ListsBut z { s with tables := { s.tables with zones := put s.tables.zones z (clampZone c) } } :=
    (ListsBut.lift law (by rw [off]; decide) (by rw [off]; decide)).congr rfl rfl (fun _ _ _ => rfl)
      fun y other => nth_put_of_ne _ _ other.symm
  have stored : ZoneListsLaw
      { s with tables := { s.tables with zones := put s.tables.zones z (clampZone c) } } :=
    have state : (zoneAt { s with tables := { s.tables with
        zones := put s.tables.zones z (clampZone c) } } z).state = .off := off
    written.rest (by rw [state]; decide) (by rw [state]; decide)
  exact zoneLists_mark stored z fun _ => rfl

theorem zoneLists_blocksReset (k : Kept) (s : State) : ZoneListsLaw (blocksReset k s) := by
  have off (z : Nat) := zone_off_blocksReset k s z
  refine ⟨.nil, .nil, nofun, nofun, fun z _ => ?_, fun z _ => ?_, .nil⟩
  · exact iff_of_false List.not_mem_nil (by rw [off]; decide)
  · exact iff_of_false List.not_mem_nil (by rw [off]; decide)

theorem zoneLists_restart (particulars : List Byte) (k : Kept) (s : State) :
    ZoneListsLaw (restart particulars (blocksReset k s)) :=
  zoneLists_of_erase (zoneLists_blocksReset k s) (erase_restart _ _) (by decide)

theorem zoneLists_raiseImage (x : ImageResult) {s : State} (law : ZoneListsLaw s) :
    ZoneListsLaw (raiseImage x s) :=
  zoneLists_raiseFlag law _ _

theorem zoneLists_coldReset (kind : ResetKind) (s : State) : ZoneListsLaw (coldReset kind s) := by
  unfold coldReset
  dsimp only
  refine zoneLists_of_erase (bs := [.port, .seq, .mail]) ?_ (erase_tryAutostart _ (by decide) (by decide)
    (by decide)) (by decide)
  split
  · exact zoneLists_restart _ _ _
  · exact zoneLists_raiseImage _ (zoneLists_restart _ _ _)

theorem zoneLists_warmReset (s : State) : ZoneListsLaw (warmReset s) := by
  unfold warmReset
  dsimp only
  split
  · exact zoneLists_raiseImage _ (zoneLists_restart _ _ _)
  · exact zoneLists_restart _ _ _

theorem zonal_zoneLists : Zonal ZoneListsLaw where
  quiet law same := zoneLists_of_erase law same (by decide)
  config x law zones := zoneLists_congr law zones rfl rfl fun _ _ => rfl
  heed law same := by
    simp only [Prod.mk.injEq] at same
    obtain ⟨zones, queue, readmit⟩ := same
    exact zoneLists_congr law rfl queue readmit fun z _ => by rw [zoneAt, modZc_zc, zones, zoneAt]
  mark z _ law same := zoneLists_mark law z same
  available law := zoneLists_of_erase (bs := [.port, .cap, .mail]) law (by simp) (by decide)
  suspend law := zoneLists_of_erase (bs := [.port, .cap, .mail]) law (by simp) (by decide)
  resume law := zoneLists_of_erase (bs := [.port, .cap, .mail]) law (by simp) (by decide)
  grace law _ := zoneLists_of_erase (bs := [.port, .cap, .mail]) law (by simp) (by decide)
  shedDone law := zoneLists_of_erase (bs := [.port, .cap, .mail]) law (by simp) (by decide)
  arbiter := zoneLists_runArbiter
  readmit := zoneLists_evaluateReadmit
  shed z law := zoneLists_shedZone law z
  fail cause law state := zoneLists_failAttempt law state cause
  good law state := zoneLists_powerGood law state
  trip reading law state := zoneLists_tripZone law state reading
  adopt reading law hz state := zoneLists_adoptZone law hz state reading
  queue law hz state := zoneLists_queueZone law hz state
  switchOff law running := zoneLists_switchZoneOff law running
  unqueue law state := zoneLists_unqueueZone law state (by decide)
  unshed law state := zoneLists_unshedZone law state (by decide)
  unlock law state := zoneLists_tell (zoneLists_move law (by rw [state]; decide) (by simp)) _ _ _
  isolate z law := zoneLists_isolateZone law z
  release z law := zoneLists_releaseZone law z
  write law writable := zoneLists_takeZoneWrite law writable

/-- Settles O8: each change of state lifts its zone out of the two lists and puts it back where the state it
has reached belongs; the rest of a step changes neither. -/
theorem stepKeepsZoneLists : Obligations.StepKeepsZoneLists := by
  unfold Obligations.StepKeepsZoneLists
  intro s t law h
  exact zonal_zoneLists.step law zoneLists_coldReset zoneLists_warmReset t h

end Sys2Proof.Machine

namespace Sys2Proof.Machine

/-! ## A run of the arbiter, grant by grant (R64 to R66) -/

/-- R65: the arbiter's next grant is zone `z`. -/
structure Goes (s : State) (z : Nat) : Prop where
  admits : admissionOpen s = true
  found : s.zc.queue.find? (eligible s) = some z
  room : fits s z = true

theorem Goes.queued {s : State} {z : Nat} (h : Goes s z) : z ∈ s.zc.queue :=
  List.mem_of_find?_eq_some h.found

theorem Goes.eligible {s : State} {z : Nat} (h : Goes s z) : eligible s z = true :=
  List.find?_some h.found

/-- R65: the enable of a zone's output. -/
def enableOf (s : State) (z : Nat) : Exchange :=
  feedExchange (zoneCfg s z).feedEntry (zoneCfg s z).output true

/-- The segment of a zone's feed entry. -/
def feedSegment (s : State) (z : Nat) : Nat := (nodeCfg s (zoneCfg s z).feedEntry).segment

/-- R65: the state after a grant: the enable has joined its segment, and the zone is INRUSH. -/
def grantOf (z : Nat) (s : State) : State :=
  grantZone z (joinSegment (feedSegment s z) (enableOf s z) s).state

theorem goes_or_rests (s : State) : ArbiterRests s ∨ ∃ z, Goes s z := by
  by_cases rests : ArbiterRests s
  · exact .inl rests
  · cases found : s.zc.queue.find? (eligible s) with
    | none => exact absurd (.inr (.inl found)) rests
    | some z =>
      obtain ⟨admits, room⟩ := goes_of_not_rests found rests
      exact .inr ⟨z, admits, found, room⟩

theorem Goes.accepted {s : State} {z : Nat} (h : Goes s z) :
    (segAt s (feedSegment s z)).state ≠ .disabled ∧
      (offerTo (enableOf s z) (segAt s (feedSegment s z)).queue).answer = .accepted :=
  offerTo_enable_accepted (feedRoom_of_eligible h.eligible)

theorem arbiterRun_of_rests (fuel : Nat) {s : State} (rests : ArbiterRests s) :
    arbiterRun fuel s = s := by
  cases fuel with
  | zero => rfl
  | succ fuel =>
    unfold arbiterRun
    rcases rests with shut | none | ⟨z, -, found, no⟩
    · simp [shut]
    · simp [none]
    · have tight : fits s z = false := by rw [Bool.eq_false_iff]; exact fun room => no (fits_iff.mp room)
      simp [found, tight]

theorem arbiterRun_of_goes (fuel : Nat) {s : State} {z : Nat} (h : Goes s z) :
    arbiterRun (fuel + 1) s = arbiterRun fuel (grantOf z s) := by
  obtain ⟨enabled, accepted⟩ := h.accepted
  have answer := joinSegment_answer (feedSegment s z) (enableOf s z) s
  rw [if_neg enabled, accepted] at answer
  rw [arbiterRun, if_pos h.admits, h.found]
  dsimp only
  rw [if_pos h.room]
  unfold grantOf
  unfold feedSegment enableOf at answer ⊢
  rw [answer]

/-! ### What one grant does -/

theorem grantZone_zc (z : Nat) (s : State) :
    (grantZone z s).zc = (modZone z granted (dequeueZone z s)).zc :=
  tellZoneChange_zc _ _ _ _

theorem grantOf_zc (z : Nat) (s : State) : (grantOf z s).zc = (modZone z granted (dequeueZone z s)).zc := by
  rw [grantOf, joinSegment_state, grantZone_zc]
  rfl

theorem erase_grantOf (z : Nat) (s : State) : erase zoneBlocks (grantOf z s) = erase zoneBlocks s := by
  rw [grantOf, joinSegment_state]
  simp [zoneBlocks]

theorem grantOf_queue (z : Nat) (s : State) :
    (grantOf z s).zc.queue = s.zc.queue.filter (fun y => y != z) := by
  rw [grantOf_zc]
  rfl

theorem grantOf_readmit (z : Nat) (s : State) : (grantOf z s).zc.readmit = s.zc.readmit := by
  rw [grantOf_zc]
  rfl

theorem zoneAt_grantOf (z : Nat) (s : State) (y : Nat) : zoneAt (grantOf z s) y =
    if z = y ∧ y < 32 then granted (zoneAt s y) else zoneAt s y := by
  rw [zoneAt_congr (grantOf_zc z s), zoneAt_modZone]
  rfl

theorem segAt_grantOf (z : Nat) (s : State) (i : Nat) : segAt (grantOf z s) i =
    if feedSegment s z = i then joined s (feedSegment s z) (enableOf s z) (segAt s i) else segAt s i := by
  rw [← segAt_joinSegment]
  exact segAt_congr (touches_of_erase (bs := [.port, .cap, .zc, .mail])
    (by rw [grantOf]; simp) .segs (by decide)) i

theorem grantOf_tables (z : Nat) (s : State) : (grantOf z s).tables = s.tables :=
  touches_of_erase (erase_grantOf z s) .tables (by decide)

/-! ### A whole run -/

theorem length_grantOf_lt {s : State} {z : Nat} (queued : z ∈ s.zc.queue) :
    (grantOf z s).zc.queue.length < s.zc.queue.length := by
  rw [grantOf_queue]
  exact List.length_filter_lt_length_iff_exists.mpr ⟨z, queued, by simp⟩

theorem rests_arbiterRun {fuel : Nat} {s : State} (enough : s.zc.queue.length ≤ fuel) :
    ArbiterRests (arbiterRun fuel s) := by
  induction fuel generalizing s with
  | zero =>
    have empty : s.zc.queue = [] := List.length_eq_zero_iff.mp (Nat.le_zero.mp enough)
    exact .inr (.inl (by rw [arbiterRun, empty]; rfl))
  | succ fuel ih =>
    rcases goes_or_rests s with rests | ⟨z, goes⟩
    · rw [arbiterRun_of_rests _ rests]
      exact rests
    · rw [arbiterRun_of_goes _ goes]
      exact ih (by have := length_grantOf_lt goes.queued; omega)

/-- R65: a run of the arbiter goes on until it rests. -/
theorem rests_runArbiter (s : State) : ArbiterRests (runArbiter s) := rests_arbiterRun (Nat.le_refl _)

/-- Fuel beyond the queue's length makes no difference. -/
theorem arbiterRun_enough {fuel fuel' : Nat} {s : State} (enough : s.zc.queue.length ≤ fuel)
    (enough' : s.zc.queue.length ≤ fuel') : arbiterRun fuel s = arbiterRun fuel' s := by
  induction fuel generalizing fuel' s with
  | zero =>
    have rests : ArbiterRests s := rests_arbiterRun (fuel := 0) enough
    rw [arbiterRun_of_rests _ rests, arbiterRun_of_rests _ rests]
  | succ fuel ih =>
    rcases goes_or_rests s with rests | ⟨z, goes⟩
    · rw [arbiterRun_of_rests _ rests, arbiterRun_of_rests _ rests]
    · have shorter := length_grantOf_lt goes.queued
      cases fuel' with
      | zero => exact absurd enough' (by omega)
      | succ fuel' =>
        rw [arbiterRun_of_goes _ goes, arbiterRun_of_goes _ goes]
        exact ih (by omega) (by omega)

theorem runArbiter_of_rests {s : State} (rests : ArbiterRests s) : runArbiter s = s :=
  arbiterRun_of_rests _ rests

theorem runArbiter_of_goes {s : State} {z : Nat} (h : Goes s z) :
    runArbiter s = runArbiter (grantOf z s) := by
  have shorter := length_grantOf_lt h.queued
  rw [runArbiter, arbiterRun_enough (Nat.le_refl _) (Nat.le_succ _), arbiterRun_of_goes _ h]
  exact arbiterRun_enough (by omega) (Nat.le_refl _)

/-- What holds before a run of the arbiter, and is kept by each grant, holds after the run. -/
theorem runArbiter_induct {P : State → Prop} (grant : ∀ s z, P s → Goes s z → P (grantOf z s)) {s : State}
    (start : P s) : P (runArbiter s) := by
  unfold runArbiter
  generalize s.zc.queue.length = fuel
  induction fuel generalizing s with
  | zero => exact start
  | succ fuel ih =>
    rcases goes_or_rests s with rests | ⟨z, goes⟩
    · rw [arbiterRun_of_rests _ rests]
      exact start
    · rw [arbiterRun_of_goes _ goes]
      exact ih (grant s z start goes)

theorem readmit_runArbiter (s : State) : (runArbiter s).zc.readmit = s.zc.readmit :=
  runArbiter_induct (P := fun t => t.zc.readmit = s.zc.readmit)
    (fun t z same _ => (grantOf_readmit z t).trans same) rfl

theorem sublist_runArbiter (s : State) : (runArbiter s).zc.queue.Sublist s.zc.queue :=
  runArbiter_induct (P := fun t => t.zc.queue.Sublist s.zc.queue)
    (fun t z same _ => by rw [grantOf_queue]; exact List.filter_sublist.trans same) (.refl _)

/-- R63: the arbiter grants nothing where admission is closed. -/
theorem runArbiter_of_closed {s : State} (closed : admissionOpen s = false) : runArbiter s = s :=
  runArbiter_of_rests (.inl closed)

end Sys2Proof.Machine

namespace Sys2Proof.Machine

/-! ## What the Zone Controller's work adds to the deliveries in flight -/

/-- The deliveries that the Zone Controller's work on its zones does not send. -/
def unsent (m : Mail) : Mail := { m with capToZone := [], capToSeq := [], capShed := [], zoneToSeq := [] }

/-- `t` comes from `s` by work that sends deliveries on the paths of the Capacity Unit and of the zone news
alone, and takes none. -/
structure Sends (s t : State) : Prop where
  others : unsent t.mail = unsent s.mail
  capShed : ∃ later, t.mail.capShed = s.mail.capShed ++ later
  capToZone : ∃ later, t.mail.capToZone = s.mail.capToZone ++ later

namespace Sends

variable {s t u : State}

theorem of_same (h : t.mail = s.mail) : Sends s t := by
  refine ⟨by rw [h], ⟨[], ?_⟩, ⟨[], ?_⟩⟩
  · rw [h, List.append_nil]
  · rw [h, List.append_nil]

theorem refl (s : State) : Sends s s := of_same rfl

theorem of_erase {bs : List Block} (h : erase bs t = erase bs s) (away : Block.mail ∉ bs) : Sends s t :=
  of_same (touches_of_erase h .mail away)

theorem trans (h : Sends s t) (h' : Sends t u) : Sends s u := by
  obtain ⟨a, ha⟩ := h.capShed
  obtain ⟨b, hb⟩ := h'.capShed
  obtain ⟨c, hc⟩ := h.capToZone
  obtain ⟨d, hd⟩ := h'.capToZone
  exact ⟨h'.others.trans h.others, ⟨a ++ b, by rw [hb, ha, List.append_assoc]⟩,
    ⟨c ++ d, by rw [hd, hc, List.append_assoc]⟩⟩

theorem ite {c : Prop} [Decidable c] (h : Sends s t) (h' : Sends s u) : Sends s (if c then t else u) := by
  split
  · exact h
  · exact h'

theorem tellSequencer (h : Sends s t) (z : Nat) (old new : ZoneState) :
    Sends s (tellSequencer z old new t) :=
  h.trans ⟨rfl, ⟨[], (List.append_nil _).symm⟩, ⟨[], (List.append_nil _).symm⟩⟩

theorem modCap (h : Sends s t) (f : Capacity → Capacity) : Sends s (modCap f t) := h.trans (.of_same rfl)

theorem raiseFlag (h : Sends s t) (f : EventFlag) (p : List Byte) : Sends s (raiseFlag f p t) :=
  h.trans (.of_erase (bs := [.port]) (by simp) (by decide))

theorem tellCapacityNews (h : Sends s t) (before : Capacity) : Sends s (tellCapacityNews before t) := by
  unfold Machine.tellCapacityNews
  exact .ite h (h.trans ⟨rfl, ⟨[], (List.append_nil _).symm⟩, ⟨_, rfl⟩⟩)

theorem handOverShed (h : Sends s t) (w : Walk) : Sends s (handOverShed w t) := by
  unfold Machine.handOverShed
  have sent : Sends (Machine.modCap (fun c => { c with outstanding := true, sheds := sat16 c.sheds }) t)
      (modMail (fun m => { m with capShed := m.capShed ++ [w.zones] })
        (Machine.modCap (fun c => { c with outstanding := true, sheds := sat16 c.sheds }) t)) :=
    ⟨rfl, ⟨_, rfl⟩, ⟨[], (List.append_nil _).symm⟩⟩
  exact .ite h (((h.modCap _).trans sent).raiseFlag _ _)

theorem computeShed (h : Sends s t) : Sends s (computeShed t) := by
  unfold Machine.computeShed
  have handed f := (h.modCap f).handOverShed
  exact .ite (((handed _ _).modCap _).raiseFlag _ _) (handed _ _)

theorem enterDeficit (h : Sends s t) : Sends s (enterDeficit t) := by
  unfold Machine.enterDeficit
  have raised f := (h.modCap f).raiseFlag .deficit
  exact .ite (raised _ _).computeShed (raised _ _)

theorem evaluateCapacity (h : Sends s t) : Sends s (evaluateCapacity t) := by
  unfold Machine.evaluateCapacity
  dsimp only
  split
  · exact h
  · exact .ite h.enterDeficit h
  · exact .ite (h.modCap _) (.ite h.computeShed h)

theorem recomputeCommitted (h : Sends s t) : Sends s (recomputeCommitted t) :=
  (h.modCap _).evaluateCapacity.tellCapacityNews _

theorem tellZoneChange (h : Sends s t) (z : Nat) (old new : ZoneState) :
    Sends s (tellZoneChange z old new t) := by
  unfold Machine.tellZoneChange
  exact (Sends.ite h.recomputeCommitted h).tellSequencer _ _ _

end Sends

namespace Sends

variable {s t : State}

theorem seqAsk (h : Sends s t) : t.mail.seqAsk = s.mail.seqAsk := by
  simpa only [unsent] using congrArg Mail.seqAsk h.others

theorem seqAnswer (h : Sends s t) : t.mail.seqAnswer = s.mail.seqAnswer := by
  simpa only [unsent] using congrArg Mail.seqAnswer h.others

theorem capShedDone (h : Sends s t) : t.mail.capShedDone = s.mail.capShedDone := by
  simpa only [unsent] using congrArg Mail.capShedDone h.others

theorem planShed (h : Sends s t) : t.mail.planShed = s.mail.planShed := by
  simpa only [unsent] using congrArg Mail.planShed h.others

theorem planShedDone (h : Sends s t) : t.mail.planShedDone = s.mail.planShedDone := by
  simpa only [unsent] using congrArg Mail.planShedDone h.others

theorem rideToZone (h : Sends s t) : t.mail.rideToZone = s.mail.rideToZone := by
  simpa only [unsent] using congrArg Mail.rideToZone h.others

theorem energyToZone (h : Sends s t) : t.mail.energyToZone = s.mail.energyToZone := by
  simpa only [unsent] using congrArg Mail.energyToZone h.others

theorem leakToZone (h : Sends s t) : t.mail.leakToZone = s.mail.leakToZone := by
  simpa only [unsent] using congrArg Mail.leakToZone h.others

theorem linkToZone (h : Sends s t) : t.mail.linkToZone = s.mail.linkToZone := by
  simpa only [unsent] using congrArg Mail.linkToZone h.others

end Sends

/-! ## Work on some zones

The Zone Controller's work on the zones of a set `Z` switches their outputs off, and frees places and slots
for which its arbiter runs. `WorksOn Z s t` says once what such work can do to everything else: another zone
is spared, or granted from the queue. -/

/-- What the Zone Controller holds besides its zones and lists. -/
def told (s : State) : ZoneCtl :=
  { s.zc with zones := Vector.replicate 32 default, queue := [], readmit := [] }

/-- R63, R64: what a grant asks of the news the Zone Controller holds and of the zone's record. -/
structure Grantable (s : State) (z : Nat) : Prop where
  ride : s.zc.ride = .normal
  latch : s.zc.epoLatch = false
  cap : s.zc.cap = .balanced
  retry : isRunning (zoneAt s z).retry = false
  free : (zoneAt s z).disablePending = false
  clear : groupsClear s z = true
  link : linkBars s z = false

theorem grantable_of_goes {s : State} {z : Nat} (h : Goes s z) : Grantable s z := by
  have admits := h.admits
  have eligible := h.eligible
  simp only [admissionOpen, Bool.and_eq_true, beq_iff_eq, Bool.not_eq_true'] at admits
  obtain ⟨⟨⟨ride, latch⟩, cap⟩, -⟩ := admits
  unfold Machine.eligible ineligible at eligible
  repeat' split at eligible
  all_goals simp_all
  constructor <;> simp_all

/-- The zone's record and its standing in the queue are as they were. -/
structure Spared (s t : State) (z : Nat) : Prop where
  record : zoneAt t z = zoneAt s z
  queue : z ∈ t.zc.queue ↔ z ∈ s.zc.queue

/-- R65: the zone has been granted from the queue. -/
structure GrantedFrom (s t : State) (z : Nat) : Prop where
  queued : z ∈ s.zc.queue
  left : z ∉ t.zc.queue
  grantable : Grantable s z
  record : zoneAt t z = granted (zoneAt s z)

/-- R2: what joins a segment in the work on the zones of `Z`: enables, and the disables of these zones. -/
def JoinsFor (Z : Nat → Prop) (s : State) (e : Exchange) : Prop :=
  IsEnable e ∨ ∃ z, Z z ∧ e = disableOf s z

/-- Work on the zones of `Z`: a zone outside it is spared or granted, and the enable of a granted zone stands
on its segment, unless a zone of `Z` has the same output. -/
structure WorksOn (Z : Nat → Prop) (s t : State) : Prop where
  works : Works s t
  nodes : t.nodes = s.nodes
  leak : t.leak = s.leak
  told : told t = told s
  sends : Sends s t
  joins : ∀ i, Joins (JoinsFor Z s) s i (segAt s i) (segAt t i)
  others : ∀ z < 32, ¬Z z → Spared s t z ∨ (GrantedFrom s t z ∧
    ((∀ y, Z y → disableOf s y ≠ disableOf s z) →
      Stands (segAt t (feedSegment s z)) (isFeedSet (zoneCfg s z).feedEntry (zoneCfg s z).output true)))

theorem grantable_congr {s t : State} {z : Nat} (tables : t.tables = s.tables) (leak : t.leak = s.leak)
    (news : told t = told s) (record : zoneAt t z = zoneAt s z) (h : Grantable t z) : Grantable s z where
  ride := (congrArg ZoneCtl.ride news).symm.trans h.ride
  latch := (congrArg ZoneCtl.epoLatch news).symm.trans h.latch
  cap := (congrArg ZoneCtl.cap news).symm.trans h.cap
  retry := record ▸ h.retry
  free := record ▸ h.free
  clear := by
    have clear := h.clear
    simpa only [groupsClear, groupHolds, tables, leak] using clear
  link := by
    have free := h.link
    have link : t.zc.link = s.zc.link := by simpa only [told] using congrArg ZoneCtl.link news
    have action : t.zc.action = s.zc.action := by simpa only [told] using congrArg ZoneCtl.action news
    have tier : t.zc.shedTier = s.zc.shedTier := by simpa only [told] using congrArg ZoneCtl.shedTier news
    unfold linkBars zoneCfg at free ⊢
    rwa [tables, link, action, tier] at free

theorem Spared.refl (s : State) (z : Nat) : Spared s s z := ⟨rfl, Iff.rfl⟩

theorem Spared.trans {s t u : State} {z : Nat} (h : Spared s t z) (h' : Spared t u z) : Spared s u z :=
  ⟨h'.record.trans h.record, h'.queue.trans h.queue⟩

theorem joinsFor_congr {Z : Nat → Prop} {s t : State} (h : t.tables = s.tables) :
    JoinsFor Z t = JoinsFor Z s := by
  funext e
  simp only [JoinsFor, disableOf_congr h]

/-- An enable is removed from a queue only by the disable of its output (R5). -/
theorem enable_stands_joined {s : State} {i entry output : Nat} {e : Exchange} {g : Segment}
    (other : e.target = entry → e.kind ≠ .feedSet output false)
    (h : Stands g (isFeedSet entry output true)) :
    Stands (joined s i e g) (isFeedSet entry output true) := by
  obtain ⟨busy, carries⟩ := h
  cases state : g.state with
  | idle => exact absurd state busy
  | disabled => rw [joined_of_disabled s i e state]; exact ⟨busy, carries⟩
  | exchange =>
    rw [joined_of_exchange s i e state]
    refine ⟨busy, carries.imp (fun queued => ?_) id⟩
    obtain ⟨x, hx, on⟩ := List.any_eq_true.mp queued
    have outcome := offerTo_outcome e g.queue
    generalize offerTo e g.queue = o at outcome
    refine List.any_eq_true.mpr ⟨x, ?_, on⟩
    cases outcome with
    | refused => exact hx
    | stands => exact hx
    | joins => exact mem_joinTail.mpr (.inr hx)
    | replaces output' kind =>
      refine mem_joinTail.mpr (.inr (List.mem_filter.mpr ⟨hx, ?_⟩))
      rw [Bool.not_eq_true', Bool.eq_false_iff]
      intro same
      obtain ⟨target, setting⟩ := isFeedSet_iff.mp on
      obtain ⟨target', setting'⟩ := isFeedSet_iff.mp same
      rw [setting] at setting'
      obtain rfl : output = output' := by simpa using setting'
      exact other (target'.symm.trans target) kind

theorem enable_stands {Z : Nat → Prop} {s : State} {i : Nat} {g g' : Segment} {z : Nat}
    (joins : Joins (JoinsFor Z s) s i g g') (apart : ∀ y, Z y → disableOf s y ≠ disableOf s z)
    (h : Stands g (isFeedSet (zoneCfg s z).feedEntry (zoneCfg s z).output true)) :
    Stands g' (isFeedSet (zoneCfg s z).feedEntry (zoneCfg s z).output true) := by
  refine joins.keeps (I := fun x => Stands x _) (fun _ _ he hx => enable_stands_joined ?_ hx) h
  intro target kind
  rcases he with ⟨_, _, rfl⟩ | ⟨y, hy, rfl⟩
  · simp [feedExchange] at kind
  · refine apart y hy ?_
    simp only [disableOf, feedExchange, ExKind.feedSet.injEq, and_true] at target kind
    simp only [disableOf, target, kind]

namespace WorksOn

variable {Z Z' : Nat → Prop} {s t u : State}

theorem refl (s : State) : WorksOn Z s s where
  works := .refl s
  nodes := rfl
  leak := rfl
  told := rfl
  sends := .refl s
  joins _ := .refl _
  others z _ _ := .inl (.refl s z)

theorem trans (h : WorksOn Z s t) (h' : WorksOn Z t u) : WorksOn Z s u where
  works := h.works.trans h'.works
  nodes := h'.nodes.trans h.nodes
  leak := h'.leak.trans h.leak
  told := h'.told.trans h.told
  sends := h.sends.trans h'.sends
  joins i := by
    have later := (h'.joins i).congr (t := s) h.works.tables.symm
    rw [joinsFor_congr h.works.tables] at later
    exact (h.joins i).trans later
  others z hz free := by
    have tables := h.works.tables
    have later := (h'.joins (feedSegment s z)).congr (t := s) tables.symm
    rw [joinsFor_congr tables] at later
    have cfg : zoneCfg t z = zoneCfg s z := by simp only [zoneCfg, tables]
    have seg : feedSegment t z = feedSegment s z := by simp only [feedSegment, cfg, nodeCfg, tables]
    have owes (y : Nat) : disableOf t y = disableOf s y := disableOf_congr tables y
    rcases h.others z hz free with first | ⟨first, stands⟩
    · rcases h'.others z hz free with second | ⟨second, stands⟩
      · exact .inl (first.trans second)
      · refine .inr ⟨⟨first.queue.mp second.queued, second.left, ?_, ?_⟩, fun apart => ?_⟩
        · exact grantable_congr tables h.leak h.told first.record second.grantable
        · rw [second.record, first.record]
        · rw [← seg, ← cfg]
          exact stands fun y hy => by rw [owes, owes]; exact apart y hy
    · refine .inr ⟨⟨first.queued, ?_, first.grantable, ?_⟩, fun apart =>
        enable_stands later apart (stands apart)⟩
      · rcases h'.others z hz free with second | ⟨second, -⟩
        · exact fun queued => first.left (second.queue.mp queued)
        · exact second.left
      · rcases h'.others z hz free with second | ⟨second, -⟩
        · exact second.record.trans first.record
        · exact absurd second.queued first.left

theorem mono (h : WorksOn Z s t) (wider : ∀ z, Z z → Z' z) : WorksOn Z' s t where
  works := h.works
  nodes := h.nodes
  leak := h.leak
  told := h.told
  sends := h.sends
  joins i := (h.joins i).keeps (I := Joins (JoinsFor Z' s) s i (segAt s i))
    (fun g _ he hg => hg.trans
      (.single s i g (he.imp_right fun ⟨z, hz, same⟩ => ⟨z, wider z hz, same⟩)))
    (.refl _)
  others z hz free := (h.others z hz fun hZ => free (wider z hZ)).imp_right fun ⟨g, stands⟩ =>
    ⟨g, fun apart => stands fun y hy => apart y (wider y hy)⟩

theorem ite {c : Prop} [Decidable c] (h : WorksOn Z s t) (h' : WorksOn Z s u) :
    WorksOn Z s (if c then t else u) := by
  split
  · exact h
  · exact h'

theorem foldl {f : State → Nat → State} (l : List Nat) (hf : ∀ t, ∀ z ∈ l, WorksOn Z t (f t z))
    (s : State) : WorksOn Z s (l.foldl f s) := by
  induction l generalizing s with
  | nil => exact .refl s
  | cons z rest ih =>
    exact (hf s z (.head _)).trans (ih (fun t y hy => hf t y (.tail _ hy)) (f s z))

/-! ### Updates -/

/-- What touches no table, segment, node record or zone, and not the Leak Monitor, works on no zone. -/
theorem of_erase {bs : List Block} (works : Works s t) (h : erase bs t = erase bs s)
    (away : Block.segs ∉ bs ∧ Block.nodes ∉ bs ∧ Block.leak ∉ bs ∧ Block.zc ∉ bs) (sends : Sends s t) :
    WorksOn Z s t := by
  obtain ⟨segs, nodes, leak, zc⟩ := away
  have touches := touches_of_erase h
  have segs : t.segs = s.segs := touches .segs segs
  have zc : t.zc = s.zc := touches .zc zc
  refine ⟨works, touches .nodes nodes, touches .leak leak, by rw [Machine.told, zc, Machine.told], sends,
    fun i => ?_, fun z _ _ => .inl ⟨zoneAt_congr zc z, by rw [zc]⟩⟩
  rw [segAt_congr segs]
  exact .refl _

theorem tellZoneChange (h : WorksOn Z s t) (z : Nat) (old new : ZoneState) :
    WorksOn Z s (tellZoneChange z old new t) :=
  h.trans (of_erase (bs := [.port, .cap, .mail]) ((Works.refl _).tellZoneChange _ _ _) (by simp)
    (by decide) ((Sends.refl _).tellZoneChange _ _ _))

theorem raiseFlag (h : WorksOn Z s t) (f : EventFlag) (p : List Byte) : WorksOn Z s (raiseFlag f p t) :=
  h.trans (of_erase (bs := [.port]) ((Works.refl _).raiseFlag _ _) (by simp) (by decide)
    (.of_erase (bs := [.port]) (by simp) (by decide)))

/-- What changes the records and the lists of the Zone Controller for zones of `Z` alone. -/
theorem modZc (h : WorksOn Z s t) {f : ZoneCtl → ZoneCtl}
    (news : Machine.told (modZc f t) = Machine.told t)
    (others : ∀ z < 32, ¬Z z → Spared t (modZc f t) z) : WorksOn Z s (modZc f t) :=
  h.trans ⟨(Works.refl t).modZc f, rfl, rfl, news, .of_same rfl, fun _ => .refl _,
    fun z hz free => .inl (others z hz free)⟩

theorem modZone (h : WorksOn Z s t) {z : Nat} (hz : Z z) (f : ZoneRun → ZoneRun) :
    WorksOn Z s (modZone z f t) :=
  h.modZc rfl fun y _ free => ⟨by
    have other : ¬(z = y ∧ y < 32) := by rintro ⟨rfl, -⟩; exact free hz
    exact (zoneAt_modZone z f t y).trans (if_neg other), Iff.rfl⟩

theorem enqueueZone (h : WorksOn Z s t) {z : Nat} (hz : Z z) : WorksOn Z s (enqueueZone z t) :=
  h.modZc rfl fun y _ free => ⟨rfl, by
    have perm := perm_insert (fun y => decide ((zoneCfg t y).tier ≤ (zoneCfg t z).tier)) z t.zc.queue
    refine (perm.mem_iff (a := y)).trans (List.mem_cons.trans (or_iff_right ?_))
    rintro rfl
    exact free hz⟩

theorem dequeueZone (h : WorksOn Z s t) {z : Nat} (hz : Z z) : WorksOn Z s (dequeueZone z t) :=
  h.modZc rfl fun y _ free => ⟨rfl, by
    refine List.mem_filter.trans (and_iff_left ?_)
    simp only [bne_iff_ne, ne_eq]
    rintro rfl
    exact free hz⟩

theorem modReadmit (h : WorksOn Z s t) (f : List Nat → List Nat) :
    WorksOn Z s (Machine.modZc (fun c => { c with readmit := f c.readmit }) t) :=
  h.modZc rfl fun _ _ _ => ⟨rfl, Iff.rfl⟩

theorem leaveReadmit (h : WorksOn Z s t) (z : Nat) : WorksOn Z s (leaveReadmit z t) :=
  h.modReadmit _

/-! ### Grants -/

theorem grantOf {z : Nat} (goes : Goes s z) : WorksOn Z s (grantOf z s) where
  works := by
    unfold Machine.grantOf
    exact ((Works.refl s).joinSegment _ ⟨_, _, true, rfl⟩).grantZone z
  nodes := touches_of_erase (erase_grantOf z s) .nodes (by decide)
  leak := touches_of_erase (erase_grantOf z s) .leak (by decide)
  told := by rw [Machine.told, grantOf_zc]; rfl
  sends := by
    unfold Machine.grantOf Machine.grantZone
    refine .trans (t := Machine.modZone z granted (Machine.dequeueZone z
      (joinSegment (feedSegment s z) (enableOf s z) s).state)) (.of_same ?_)
      ((Sends.refl _).tellZoneChange _ _ _)
    rw [joinSegment_state]
    rfl
  joins i := by
    rw [segAt_grantOf]
    split
    next here => subst here; exact .single s _ _ (.inl ⟨_, _, rfl⟩)
    · exact .refl _
  others y hy free := by
    by_cases here : z = y
    · subst here
      refine .inr ⟨⟨goes.queued, ?_, grantable_of_goes goes, ?_⟩, fun _ => ?_⟩
      · rw [grantOf_queue]
        simp
      · rw [zoneAt_grantOf, if_pos ⟨rfl, hy⟩]
      · rw [segAt_grantOf, if_pos rfl]
        obtain ⟨enabled, accepted⟩ := goes.accepted
        exact carries_joined_self s _ enabled (by rw [accepted]; decide)
          fun x ht hk => isFeedSet_iff.mpr ⟨ht, hk⟩
    · refine .inl ⟨?_, ?_⟩
      · rw [zoneAt_grantOf, if_neg fun same => here same.1]
      · rw [grantOf_queue]
        refine List.mem_filter.trans (and_iff_left ?_)
        simpa using fun same : y = z => here same.symm

theorem runArbiter (h : WorksOn Z s t) : WorksOn Z s (runArbiter t) :=
  runArbiter_induct (P := WorksOn Z s) (fun _ _ before goes => before.trans (.grantOf goes)) h

theorem afterDeparture (h : WorksOn Z s t) (departed : Bool) : WorksOn Z s (afterDeparture departed t) := by
  unfold Machine.afterDeparture
  exact .ite h.runArbiter h

/-! ### Disables -/

theorem setDisablePending (h : WorksOn Z s t) {z : Nat} (hz : Z z) (x : DisableOutcome) :
    WorksOn Z s (setDisablePending z x t) := by
  unfold Machine.setDisablePending
  exact .ite h ((h.modZone hz _).raiseFlag _ _)

theorem joinDisable (h : WorksOn Z s t) {z : Nat} (hz : Z z) (i : Nat) :
    WorksOn Z s (joinSegment i (disableOf t z) t).state := by
  refine h.trans ?_
  have joined := joinSegment_state i (disableOf t z) t
  refine ⟨(Works.refl t).joinSegment i ⟨_, _, false, rfl⟩, by rw [joined]; rfl, by rw [joined]; rfl,
    by rw [joined]; rfl, .of_same (by rw [joined]; rfl), fun j => ?_,
    fun y _ _ => .inl ⟨by rw [joined]; rfl, by rw [joined]; rfl⟩⟩
  rw [segAt_joinSegment]
  split
  next here => subst here; exact .single t i _ (.inr ⟨z, hz, rfl⟩)
  · exact .refl _

theorem queueDisable (h : WorksOn Z s t) {z : Nat} (hz : Z z) : WorksOn Z s (queueDisable z t).1 := by
  unfold Machine.queueDisable
  dsimp only
  split
  · have joins := h.joinDisable hz (nodeCfg t (zoneCfg t z).feedEntry).segment
    split
    · exact joins
    · exact joins
    · exact joins.setDisablePending hz _
  · exact h.setDisablePending hz _

end WorksOn
end Sys2Proof.Machine

namespace Sys2Proof.Machine

/-! ## The operations of the Zone Controller, as work on their zones -/

namespace WorksOn

variable {Z : Nat → Prop} {s t : State} {z : Nat}

theorem zoneCfg (h : WorksOn Z s t) (z : Nat) : zoneCfg t z = Machine.zoneCfg s z :=
  zoneCfg_congr (by rw [h.works.tables]) z

theorem setting (h : WorksOn Z s t) (k : Nat) : setting t k = Machine.setting s k := by
  simp only [Machine.setting, h.works.tables]

/-- A zone outside the queue is spared by work on others. -/
theorem spared (h : WorksOn Z s t) (hz : z < 32) (free : ¬Z z) (unqueued : z ∉ s.zc.queue) :
    Spared s t z := by
  rcases h.others z hz free with spared | ⟨from', -⟩
  · exact spared
  · exact absurd from'.queued unqueued

/-- R64: a zone that may not be granted is spared by work on others. -/
theorem spared_of_barred (h : WorksOn Z s t) (hz : z < 32) (free : ¬Z z) (barred : ¬Grantable s z) :
    Spared s t z := by
  rcases h.others z hz free with spared | ⟨from', -⟩
  · exact spared
  · exact absurd from'.grantable barred

theorem pending (h : WorksOn Z s t) (hz : z < 32) (free : ¬Z z) :
    (zoneAt t z).disablePending = (zoneAt s z).disablePending := by
  rcases h.others z hz free with spared | ⟨from', -⟩
  · rw [spared.record]
  · rw [from'.record]
    rfl

/-- R79: whether re-admission is open depends on the news held alone. -/
theorem readmitOpen (h : WorksOn Z s t) : readmitOpen t = Machine.readmitOpen s := by
  have news {α : Type} (f : ZoneCtl → α) : f (Machine.told t) = f (Machine.told s) := congrArg f h.told
  have ride : t.zc.ride = s.zc.ride := news ZoneCtl.ride
  have conserve : t.zc.conserve = s.zc.conserve := news ZoneCtl.conserve
  have cap : t.zc.cap = s.zc.cap := news ZoneCtl.cap
  have link : t.zc.link = s.zc.link := news ZoneCtl.link
  have action : t.zc.action = s.zc.action := news ZoneCtl.action
  have energy : t.zc.energy = s.zc.energy := news ZoneCtl.energy
  unfold Machine.readmitOpen readmitEnergy
  rw [h.setting, ride, conserve, cap, link, action, energy]

end WorksOn

theorem offOrOwed_of_worksOn {Z : Nat → Prop} {s t : State} {z entry output : Nat}
    (h : WorksOn Z s t) (hz : z < 32) (free : ¬Z z) (off : OffOrOwed s z entry output) :
    OffOrOwed t z entry output :=
  off.works h.works fun owed => by rw [h.pending hz free]; exact owed

theorem OffOrOwed.switchedOff {s : State} {z entry output : Nat} (h : OffOrOwed s z entry output) :
    SwitchedOff s z entry output :=
  h.imp id And.right

/-! ### A disable and the zone's own record -/

theorem queueDisable_queue (z : Nat) (s : State) : (queueDisable z s).1.zc.queue = s.zc.queue := by
  obtain ⟨-, owed, zc⟩ := queueDisable_leaves z s
  rw [zc]
  rfl

theorem queueDisable_readmit (z : Nat) (s : State) : (queueDisable z s).1.zc.readmit = s.zc.readmit := by
  obtain ⟨-, owed, zc⟩ := queueDisable_leaves z s
  rw [zc]
  rfl

/-- R69: zone `z` has left INRUSH or ON for the state `new`, and its disable, where it is not owed, stands on
a segment that is not IDLE. -/
structure Leaves (s t : State) (z : Nat) (new : ZoneState) : Prop where
  record : zoneAt t z =
    { leftRunning new (zoneAt s z) with disablePending := (zoneAt t z).disablePending }
  owed : (zoneAt s z).disablePending = true → (zoneAt t z).disablePending = true
  off : OffOrOwed t z (zoneCfg s z).feedEntry (zoneCfg s z).output

theorem Leaves.state {s t : State} {z : Nat} {new : ZoneState} (h : Leaves s t z new) :
    (zoneAt t z).state = new := by
  rw [h.record]
  rfl

theorem Leaves.leftFor {s t : State} {z : Nat} {new : ZoneState} (h : Leaves s t z new) :
    LeftFor s t z new :=
  ⟨h.record, h.owed, h.off.switchedOff⟩

theorem leaves_queueDisable {s u : State} {z : Nat} {new : ZoneState} (hz : z < 32)
    (tables : u.tables = s.tables) (record : zoneAt u z = leftRunning new (zoneAt s z)) :
    Leaves s (queueDisable z u).1 z new := by
  obtain ⟨-, owed, same⟩ := queueDisable_zone z u z
  refine ⟨?_, fun before => queueDisable_keeps z ?_, ?_⟩
  · rw [same, record]
  · rw [record]
    exact before
  · have cfg : zoneCfg u z = zoneCfg s z := zoneCfg_congr (by rw [tables]) z
    have off := offOrOwed_queueDisable hz u
    rwa [cfg] at off

/-- What has left stays as it left while other zones are worked on. -/
theorem Leaves.spared {Z : Nat → Prop} {s t u : State} {z : Nat} {new : ZoneState} (h : Leaves s t z new)
    (hz : z < 32) (works : WorksOn Z t u) (free : ¬Z z) (spared : Spared t u z) : Leaves s u z new := by
  refine ⟨?_, fun before => ?_, offOrOwed_of_worksOn works hz free h.off⟩
  · rw [spared.record]
    exact h.record
  · rw [spared.record]
    exact h.owed before

/-- The start of the relation may be moved back to a state with the same record, or with that of a zone not
yet granted. -/
theorem Leaves.of_granted {s s' t : State} {z : Nat} {new : ZoneState} (h : Leaves s' t z new)
    (tables : s'.tables = s.tables)
    (record : zoneAt s' z = zoneAt s z ∨ zoneAt s' z = granted (zoneAt s z)) : Leaves s t z new := by
  have cfg : zoneCfg s' z = zoneCfg s z := zoneCfg_congr (by rw [tables]) z
  refine ⟨?_, fun before => h.owed ?_, by rw [← cfg]; exact h.off⟩
  · rcases record with same | same
    · rw [← same]
      exact h.record
    · have after := h.record
      rwa [same] at after
  · rcases record with same | same
    · rw [same]
      exact before
    · rw [same]
      exact before

/-! ### Re-admission (R79) -/

theorem drainZone_zc (s : State) (z : Nat) : (drainZone s z).zc =
    (enqueueZone z (modZone z (fun r => { r with state := .queued }) (leaveReadmit z s))).zc :=
  tellZoneChange_zc _ _ _ _

theorem drainZone_readmit (s : State) (z : Nat) :
    (drainZone s z).zc.readmit = s.zc.readmit.filter (fun y => y != z) := by
  rw [drainZone_zc]
  rfl

theorem zoneAt_drainZone (s : State) (z y : Nat) : zoneAt (drainZone s z) y =
    if z = y ∧ y < 32 then { zoneAt s y with state := .queued } else zoneAt s y := by
  rw [zoneAt_congr (drainZone_zc s z)]
  exact zoneAt_modZone z (fun r => { r with state := .queued }) (leaveReadmit z s) y

theorem WorksOn.drainZone {Z : Nat → Prop} {s t : State} (h : WorksOn Z s t) {z : Nat} (hz : Z z) :
    WorksOn Z s (drainZone t z) :=
  (((h.leaveReadmit z).modZone hz _).enqueueZone hz).tellZoneChange _ _ _

/-- The re-admit list once `l` has drained. -/
theorem readmit_drained (l : List Nat) (s : State) :
    (l.foldl drainZone s).zc.readmit = s.zc.readmit.filter (fun y => !l.contains y) := by
  induction l generalizing s with
  | nil => simp
  | cons z rest ih =>
    rw [List.foldl_cons, ih, drainZone_readmit, List.filter_filter]
    refine List.filter_congr fun y _ => ?_
    rw [List.contains_cons, Bool.not_or, Bool.and_comm]
    rfl

/-- R79: a drained zone is QUEUED, and the rest of its record is kept. -/
theorem zoneAt_drained (l : List Nat) (s : State) {z : Nat} (hz : z < 32) :
    zoneAt (l.foldl drainZone s) z =
      if z ∈ l then { zoneAt s z with state := .queued } else zoneAt s z := by
  induction l generalizing s with
  | nil => simp
  | cons y rest ih =>
    rw [List.foldl_cons, ih, zoneAt_drainZone]
    by_cases here : y = z
    · subst here
      simp [hz]
    · simp [here, Ne.symm here]

theorem evaluateReadmit_of_closed {s : State} (closed : readmitOpen s = false) : evaluateReadmit s = s := by
  simp [evaluateReadmit, closed]

/-- R79: with re-admission open the whole list drains, and the arbiter runs for it. -/
theorem evaluateReadmit_of_open {s : State} (isOpen : readmitOpen s = true) :
    (s.zc.readmit = [] ∧ evaluateReadmit s = s) ∨
      evaluateReadmit s = runArbiter (s.zc.readmit.reverse.foldl drainZone s) := by
  cases list : s.zc.readmit with
  | nil => exact .inl ⟨rfl, by simp [evaluateReadmit, list]⟩
  | cons z rest => exact .inr (by simp [evaluateReadmit, isOpen, list])

theorem readmit_evaluateReadmit (s : State) :
    (evaluateReadmit s).zc.readmit = if readmitOpen s = true then [] else s.zc.readmit := by
  split
  next isOpen =>
    rcases evaluateReadmit_of_open isOpen with ⟨empty, same⟩ | drained
    · rw [same, empty]
    · rw [drained, readmit_runArbiter, readmit_drained]
      simp
  next closed => rw [evaluateReadmit_of_closed (by simpa using closed)]

theorem WorksOn.evaluateReadmit {Z : Nat → Prop} {s t : State} (h : WorksOn Z s t)
    (list : Machine.readmitOpen t = true → ∀ z ∈ t.zc.readmit, Z z) : WorksOn Z s (evaluateReadmit t) := by
  unfold Machine.evaluateReadmit
  split
  next evaluated =>
    have isOpen : Machine.readmitOpen t = true := (Bool.and_eq_true _ _ ▸ evaluated).1
    exact (h.trans (WorksOn.foldl _ (fun u z hz =>
      (WorksOn.refl u).drainZone (list isOpen z (List.mem_reverse.mp hz))) t)).runArbiter
  · exact h

/-- R79, R65: a zone of the re-admit list is QUEUED again where re-admission is open, or granted. -/
theorem returns_evaluateReadmit {s : State} (isOpen : readmitOpen s = true) {z : Nat} (hz : z < 32)
    (listed : z ∈ s.zc.readmit) :
    zoneAt (evaluateReadmit s) z = { zoneAt s z with state := .queued } ∨
      zoneAt (evaluateReadmit s) z = granted (zoneAt s z) := by
  rcases evaluateReadmit_of_open isOpen with ⟨empty, -⟩ | drained
  · simp [empty] at listed
  · rw [drained]
    have record := zoneAt_drained s.zc.readmit.reverse s hz
    rw [if_pos (List.mem_reverse.mpr listed)] at record
    have run : WorksOn (fun _ => False) _ (runArbiter (s.zc.readmit.reverse.foldl drainZone s)) :=
      (WorksOn.refl _).runArbiter
    rcases run.others z hz id with spared | ⟨from', -⟩
    · exact .inl (spared.record.trans record)
    · refine .inr (from'.record.trans ?_)
      rw [record]
      rfl

/-! ### Sheds (R75) -/

/-- R75: the zone has entered SHED and joined the re-admit list; its disable is still to be queued. -/
def shedEntered (z : Nat) (s : State) : State :=
  modZc (fun c => { c with readmit := c.readmit ++ [z] }) (modZone z (leftRunning .shed) s)

/-- R75: the zone has been switched off, and the other blocks are told. -/
def shedTold (z : Nat) (s : State) : State :=
  tellZoneChange z (zoneAt s z).state .shed (queueDisable z (shedEntered z s)).1

theorem shedZone_of_runs {s : State} {z : Nat} (running : runs s z = true) : ∃ departed,
    shedZone s z = afterDeparture departed (evaluateReadmit (shedTold z s)) :=
  ⟨_, if_pos running⟩

theorem shedZone_of_not_runs {s : State} {z : Nat} (idle : runs s z = false) : shedZone s z = s :=
  if_neg (by simpa [runs] using idle)

theorem worksOn_shedTold (z : Nat) (s : State) : WorksOn (· = z) s (shedTold z s) :=
  ((((WorksOn.refl (Z := (· = z)) s).modZone rfl _).modReadmit (· ++ [z])).queueDisable rfl).tellZoneChange _ _ _

theorem leaves_shedTold {s : State} {z : Nat} (hz : z < 32) : Leaves s (shedTold z s) z .shed := by
  have left : Leaves s (queueDisable z (shedEntered z s)).1 z .shed :=
    leaves_queueDisable hz rfl (zoneAt_modZone_same hz _ s)
  have told : WorksOn (fun _ => False) _ (shedTold z s) := (WorksOn.refl _).tellZoneChange _ _ _
  exact left.spared hz told id ⟨zoneAt_congr (tellZoneChange_zc _ _ _ _) z,
    by rw [shedTold, tellZoneChange_zc]⟩

theorem shedTold_queue (z : Nat) (s : State) : (shedTold z s).zc.queue = s.zc.queue := by
  rw [shedTold, tellZoneChange_zc, queueDisable_queue]
  rfl

theorem shedTold_readmit (z : Nat) (s : State) : (shedTold z s).zc.readmit = s.zc.readmit ++ [z] := by
  rw [shedTold, tellZoneChange_zc, queueDisable_readmit]
  rfl

/-- R75: with re-admission closed a shed leaves the zone in the re-admit list. -/
theorem shedZone_of_closed {s : State} {z : Nat} (running : runs s z = true)
    (closed : readmitOpen s = false) : ∃ departed, shedZone s z = afterDeparture departed (shedTold z s) := by
  obtain ⟨departed, shed⟩ := shedZone_of_runs running
  rw [evaluateReadmit_of_closed ((worksOn_shedTold z s).readmitOpen.trans closed)] at shed
  exact ⟨departed, shed⟩

theorem WorksOn.shedZone {Z : Nat → Prop} {s t : State} (h : WorksOn Z s t) {z : Nat} (hz : Z z)
    (list : Machine.readmitOpen t = true → ∀ y ∈ t.zc.readmit, Z y) : WorksOn Z s (shedZone t z) := by
  cases running : runs t z with
  | false => rwa [shedZone_of_not_runs running]
  | true =>
    obtain ⟨departed, shed⟩ := shedZone_of_runs running
    rw [shed]
    have told := worksOn_shedTold z t
    refine (WorksOn.evaluateReadmit (h.trans (told.mono ?_)) fun isOpen y hy => ?_).afterDeparture _
    · rintro _ rfl
      exact hz
    · rw [shedTold_readmit] at hy
      rcases List.mem_append.mp hy with hy | hy
      · exact list (told.readmitOpen.symm.trans isOpen) y hy
      · rw [List.mem_singleton] at hy
        exact hy ▸ hz

theorem readmit_afterDeparture (departed : Bool) (s : State) :
    (afterDeparture departed s).zc.readmit = s.zc.readmit := by
  unfold afterDeparture
  split
  · exact readmit_runArbiter s
  · rfl

theorem sublist_afterDeparture (departed : Bool) (s : State) :
    (afterDeparture departed s).zc.queue.Sublist s.zc.queue := by
  unfold afterDeparture
  split
  · exact sublist_runArbiter s
  · exact .refl _

theorem readmit_shedZone_of_closed {s : State} {z : Nat} (running : runs s z = true)
    (closed : readmitOpen s = false) : (shedZone s z).zc.readmit = s.zc.readmit ++ [z] := by
  obtain ⟨departed, shed⟩ := shedZone_of_closed running closed
  rw [shed, readmit_afterDeparture, shedTold_readmit]

theorem sublist_shedZone_of_closed {s : State} (z : Nat) (closed : readmitOpen s = false) :
    (shedZone s z).zc.queue.Sublist s.zc.queue := by
  cases running : runs s z with
  | false => rw [shedZone_of_not_runs running]
  | true =>
    obtain ⟨departed, shed⟩ := shedZone_of_closed running closed
    rw [shed, ← shedTold_queue z s]
    exact sublist_afterDeparture _ _

theorem leaves_shedZone_of_closed {s : State} {z : Nat} (running : runs s z = true)
    (closed : readmitOpen s = false) (unqueued : z ∉ s.zc.queue) : Leaves s (shedZone s z) z .shed := by
  obtain ⟨departed, shed⟩ := shedZone_of_closed running closed
  have hz := lt_of_runs running
  have after : WorksOn (fun _ => False) (shedTold z s) (shedZone s z) :=
    shed ▸ (WorksOn.refl _).afterDeparture departed
  exact (leaves_shedTold hz).spared hz after id (after.spared hz id (by rwa [shedTold_queue]))

/-! ### Attempts, trips and adoption (R70 to R73, R87) -/

theorem WorksOn.failAttempt {Z : Nat → Prop} {s t : State} (h : WorksOn Z s t) {z : Nat} (hz : Z z)
    (cause : AttemptCause) : WorksOn Z s (failAttempt z cause t) := by
  unfold Machine.failAttempt
  dsimp only
  have off (c : Prop) [Decidable c] (f : ZoneRun → ZoneRun) :=
    (WorksOn.ite (c := c) (h.modZone hz f) ((h.modZone hz f).enqueueZone hz)).queueDisable hz
  exact (WorksOn.tellZoneChange (.ite ((off _ _).raiseFlag _ _) (off _ _)) _ _ _).runArbiter

theorem WorksOn.powerGood {Z : Nat → Prop} {s t : State} (h : WorksOn Z s t) {z : Nat} (hz : Z z) :
    WorksOn Z s (powerGood z t) :=
  ((h.modZone hz _).tellZoneChange _ _ _).runArbiter

theorem WorksOn.tripZone {Z : Nat → Prop} {s t : State} (h : WorksOn Z s t) {z : Nat} (hz : Z z)
    (reading : Nat) : WorksOn Z s (tripZone z reading t) :=
  ((((h.modZone hz _).raiseFlag _ _).queueDisable hz).tellZoneChange _ _ _).runArbiter

/-- R79: where the link bars a tier, re-admission is closed. -/
theorem readmit_closed_of_linkBars {s : State} {z : Nat} (bars : linkBars s z = true) :
    readmitOpen s = false := by
  simp only [linkBars, Bool.and_eq_true, beq_iff_eq] at bars
  simp [readmitOpen, bars.1.1, bars.1.2]

theorem WorksOn.adoptOff {Z : Nat → Prop} {s t : State} (h : WorksOn Z s t) {z : Nat} (hz : Z z)
    {new : ZoneState} (closed : new = .shed → Machine.readmitOpen t = false) :
    WorksOn Z s (adoptOff z new t) := by
  unfold Machine.adoptOff
  dsimp only
  have entered := h.modZone hz fun r => { r with state := new, adoptPending := false }
  have listed := WorksOn.ite (c := (new == .shed) = true) (entered.modReadmit (· ++ [z])) entered
  generalize (if (new == .shed) = true then _ else _) = u at listed ⊢
  have off := listed.queueDisable hz
  have told := WorksOn.ite (c := (new == .off) = true) off (off.tellZoneChange z .off new)
  refine WorksOn.afterDeparture ?_ _
  split
  next shed =>
    refine told.evaluateReadmit fun isOpen => ?_
    rw [told.readmitOpen, ← h.readmitOpen, closed (beq_iff_eq.mp shed)] at isOpen
    cases isOpen
  · exact told

theorem WorksOn.adoptZone {Z : Nat → Prop} {s t : State} (h : WorksOn Z s t) {z : Nat} (hz : Z z)
    (reading : Nat) : WorksOn Z s (adoptZone z reading t) := by
  unfold Machine.adoptZone
  split
  · exact h.modZone hz _
  · split
    · exact h.adoptOff hz nofun
    · split
      · exact h.adoptOff hz nofun
      · split
        next bars => exact h.adoptOff hz fun _ => readmit_closed_of_linkBars bars
        · exact (h.modZone hz _).tellZoneChange _ _ _
  · exact h.adoptOff hz nofun

theorem WorksOn.zoneReport {Z : Nat → Prop} {s t : State} (h : WorksOn Z s t) (entry : Nat)
    (news : Nat × Nat) (reported : ∀ z, zoneOfPair t entry news.1 = some z → Z z) :
    WorksOn Z s (zoneReport entry t news) := by
  unfold Machine.zoneReport
  split
  · exact h
  next z pair =>
    have hz := reported z pair
    dsimp only
    split
    · split
      · split
        · exact h
        · exact h.powerGood hz
        · exact h.failAttempt hz _
      · exact h
    · exact .ite h (h.tripZone hz _)
    · exact .ite (h.adoptZone hz _) h
    all_goals exact h

/-! ### Requests, isolation and release (R80, R81, R84) -/

theorem WorksOn.queueZone {Z : Nat → Prop} {s t : State} (h : WorksOn Z s t) {z : Nat} (hz : Z z) :
    WorksOn Z s (queueZone z t) :=
  (((h.modZone hz _).enqueueZone hz).tellZoneChange _ _ _).runArbiter

theorem WorksOn.switchZoneOff {Z : Nat → Prop} {s t : State} (h : WorksOn Z s t) {z : Nat} (hz : Z z) :
    WorksOn Z s (switchZoneOff z t) :=
  (((h.modZone hz _).queueDisable hz).tellZoneChange _ _ _).afterDeparture _

theorem WorksOn.unqueueZone {Z : Nat → Prop} {s t : State} (h : WorksOn Z s t) {z : Nat} (hz : Z z)
    (new : ZoneState) : WorksOn Z s (unqueueZone z new t) :=
  ((h.dequeueZone hz).modZone hz _).tellZoneChange _ _ _

theorem WorksOn.unshedZone {Z : Nat → Prop} {s t : State} (h : WorksOn Z s t) {z : Nat} (hz : Z z)
    (new : ZoneState) : WorksOn Z s (unshedZone z new t) :=
  ((h.leaveReadmit z).modZone hz _).tellZoneChange _ _ _

theorem WorksOn.isolateZone {Z : Nat → Prop} {s t : State} (h : WorksOn Z s t) {z : Nat} (hz : Z z) :
    WorksOn Z s (isolateZone t z) := by
  unfold Machine.isolateZone
  dsimp only
  split
  · have off := h.modZone hz fun r => { r with state := .isolated, adoptPending := false }
    split
    · exact ((off.queueDisable hz).tellZoneChange _ _ _).afterDeparture _
    · exact (off.tellZoneChange _ _ _).afterDeparture _
  · exact h.unqueueZone hz _
  · exact (((h.modZone hz _).queueDisable hz).tellZoneChange _ _ _).runArbiter
  · exact (((h.modZone hz _).queueDisable hz).tellZoneChange _ _ _).afterDeparture _
  · exact h.unshedZone hz _
  all_goals exact h

theorem WorksOn.releaseZone {Z : Nat → Prop} {s t : State} (h : WorksOn Z s t) {z : Nat} (hz : Z z) :
    WorksOn Z s (releaseZone t z) := by
  unfold Machine.releaseZone
  exact .ite ((h.modZone hz _).tellZoneChange _ _ _) h

end Sys2Proof.Machine

namespace Sys2Proof.Machine

/-! ## The inrush window and the retry timer (R71, R72) -/

/-- The Zone Controller's record of a failed attempt, before the arbiter's run. -/
theorem failAttempt_runs (z : Nat) (cause : AttemptCause) (s : State) : ∃ u,
    failAttempt z cause s = runArbiter u ∧ u.zc = (queueDisable z (attemptFailed z s)).1.zc := by
  obtain ⟨p, new, eq⟩ := failAttempt_eq z cause s
  refine ⟨_, eq, ?_⟩
  rw [tellZoneChange_zc]
  split
  · rw [raiseFlag_zc]
  · rfl

theorem record_attemptFailed {z : Nat} (hz : z < 32) (s : State) : zoneAt (attemptFailed z s) z =
    { leftRunning (if (zoneAt s z).attempts + 1 == (zoneCfg s z).lockout then .lockout else .queued)
        (zoneAt s z) with
      attempts := (zoneAt s z).attempts + 1
      retry := if (zoneAt s z).attempts + 1 == (zoneCfg s z).lockout || retryDelay s == 0 then .stopped
        else startTimer s (retryDelay s) } := by
  unfold attemptFailed
  dsimp only
  have same (u : State) : zoneAt (enqueueZone z u) z = zoneAt u z := rfl
  split
  all_goals simp only [same, zoneAt_modZone_same hz]

theorem attemptFailed_queue {z : Nat} {s : State}
    (unlocked : (zoneAt s z).attempts + 1 ≠ (zoneCfg s z).lockout) : z ∈ (attemptFailed z s).zc.queue := by
  unfold attemptFailed
  rw [if_neg (by simpa using unlocked)]
  exact List.mem_append_right _ (.head _)

/-- R71, R72: the retry timer of a zone whose attempt has failed, and its standing in the queue while the
timer runs. -/
theorem failAttempt_retries {z : Nat} (hz : z < 32) (cause : AttemptCause) {s : State}
    (unqueued : z ∉ s.zc.queue) :
    ((zoneAt s z).attempts + 1 = (zoneCfg s z).lockout →
      (zoneAt (failAttempt z cause s) z).retry = .stopped) ∧
    ((zoneAt s z).attempts + 1 ≠ (zoneCfg s z).lockout → retryDelay s ≠ 0 →
      (zoneAt (failAttempt z cause s) z).state = .queued ∧
      (zoneAt (failAttempt z cause s) z).retry = .running (s.now + retryDelay s) ∧
      z ∈ (failAttempt z cause s).zc.queue) := by
  obtain ⟨u, run, zc⟩ := failAttempt_runs z cause s
  rw [run]
  have after : WorksOn (fun _ => False) u (runArbiter u) := (WorksOn.refl u).runArbiter
  obtain ⟨queue, owed, record⟩ := queueDisable_zone z (attemptFailed z s) z
  have failed := (failed_attemptFailed hz unqueued).queueDisable z
  rw [← zoneAt_congr zc] at record
  rw [← zc] at queue
  rw [record_attemptFailed hz] at record
  have retry := congrArg ZoneRun.retry record
  dsimp only at retry
  refine ⟨fun locked => ?_, fun unlocked delay => ?_⟩
  · have spared := after.spared hz id (by rw [zc]; exact (failed.lockout (by simp [locked])).2)
    rw [spared.record, retry]
    simp [locked]
  · have queued : z ∈ u.zc.queue := queue ▸ attemptFailed_queue unlocked
    rw [if_neg (by simp [unlocked, delay])] at retry
    have spared := after.spared_of_barred hz id fun may => by
      have stopped := may.retry
      simp [retry, startTimer, isRunning] at stopped
    refine ⟨?_, by rw [spared.record, retry]; rfl, spared.queue.mpr queued⟩
    rw [spared.record, record]
    simp [leftRunning, unlocked]

@[simp] theorem erase_atTime {bs : List Block} (d : Nat) (s : State) (h_now : Block.now ∈ bs) :
    erase bs (atTime d s) = erase bs s := by
  simp [atTime, erase, h_now]

theorem exec_inrushTimerExpiry {z : Fin 32} {s : State} {d : Nat} (state : (zoneAt s z).state = .inrush)
    (timer : (zoneAt s z).inrush = .running d) :
    exec (.inrushTimerExpiry z) s = .next (failAttempt z .window (atTime d s)) := by
  have expired : inrushExpired z (atTime d s) = failAttempt z .window (atTime d s) :=
    if_pos (by rw [zoneIs_eq_decide]; exact decide_eq_true state)
  show Host.Outcome.next (onExpiry (zoneAt s z).inrush (inrushExpired z) s) = _
  rw [timer, ← expired]
  rfl

theorem exec_retryTimerExpiry {z : Fin 32} {s : State} {d : Nat} (timer : (zoneAt s z).retry = .running d) :
    exec (.retryTimerExpiry z) s = .next (retryExpired z (atTime d s)) := by
  show Host.Outcome.next (onExpiry (zoneAt s z).retry (retryExpired z) s) = _
  rw [timer]
  rfl

/-- R71: an inrush window that runs out. -/
theorem inrushWindow_fails {z : Fin 32} {d : Nat} {s : State} (lists : ZoneListsLaw s)
    (state : (zoneAt s z).state = .inrush) (timer : (zoneAt s z).inrush = .running d) :
    ∃ t, exec (.inrushTimerExpiry z) s = .next t ∧ Touches (.now :: zoneBlocks) s t ∧
      t.now = max s.now d ∧ (zoneAt t z).attempts = (zoneAt s z).attempts + 1 ∧
      (zoneAt t z).inrush = .stopped ∧ (zoneAt t z).acked = false ∧
      SwitchedOff t z (zoneCfg s z).feedEntry (zoneCfg s z).output ∧
      ((zoneAt s z).attempts + 1 = (zoneCfg s z).lockout →
        (zoneAt t z).state = .lockout ∧ (zoneAt t z).retry = .stopped ∧
          inFlagSet t.port.flags .zoneLockout = true) ∧
      ((zoneAt s z).attempts + 1 ≠ (zoneCfg s z).lockout → retryDelay s ≠ 0 →
        (zoneAt t z).state = .queued ∧ (zoneAt t z).retry = .running (t.now + retryDelay s) ∧
          z.val ∈ t.zc.queue) ∧
      ((zoneAt s z).attempts + 1 ≠ (zoneCfg s z).lockout → retryDelay s = 0 → Admitted t z) := by
  have unqueued : z.val ∉ (atTime d s).zc.queue := not_queued_of_state lists (by rw [state]; decide)
  have works : Works (atTime d s) (failAttempt z .window (atTime d s)) := (Works.refl _).failAttempt z _
  obtain ⟨failed, off, flag⟩ := failAttempt_fails z.isLt .window unqueued
  obtain ⟨stopped, waits⟩ := failAttempt_retries z.isLt .window unqueued
  refine ⟨_, exec_inrushTimerExpiry state timer, ?_, works.now, failed.attempts, failed.inrush, failed.acked,
    off.switchedOff, fun locked => ⟨(failed.lockout (beq_iff_eq.mpr locked)).1, stopped locked, flag locked⟩,
    fun unlocked delay => ?_, fun unlocked _ => failed.admitted (beq_eq_false_iff_ne.mpr unlocked)⟩
  · exact touches_of_erase (by simp [zoneBlocks])
  · rw [works.now]
    exact waits unlocked delay

/-- R72: a retry timer that runs out. -/
theorem retryTimer_frees {z : Fin 32} {d : Nat} {s : State}
    (state : (zoneAt s z).state = .queued) (timer : (zoneAt s z).retry = .running d) :
    ∃ t, exec (.retryTimerExpiry z) s = .next t ∧ Touches (.now :: zoneBlocks) s t ∧
      t.now = max s.now d ∧ (zoneAt t z).retry = .stopped ∧ Admitted t z ∧
      (zoneAt t z).attempts = (zoneAt s z).attempts := by
  have works : Works (atTime d s) (retryExpired z (atTime d s)) := works_retryExpired z _
  have run : WorksOn (fun _ => False) _ (retryExpired z (atTime d s)) := (WorksOn.refl _).runArbiter
  have record := zoneAt_modZone_same z.isLt (fun r => { r with retry := .stopped }) (atTime d s)
  refine ⟨_, exec_retryTimerExpiry timer, touches_of_erase (by simp [zoneBlocks, retryExpired]),
    works.now, ?_⟩
  have before : (zoneAt (atTime d s) z).state = .queued := state
  rcases run.others z z.isLt id with spared | ⟨from', -⟩
  · have after := spared.record.trans record
    exact ⟨by rw [after], .inl (by rw [after]; exact before), by rw [after]; rfl⟩
  · have after := from'.record.trans (congrArg granted record)
    exact ⟨by rw [after]; rfl, .inr (by rw [after]; rfl), by rw [after]; rfl⟩

/-- Settles O34: a failed attempt is counted, and the zone is locked out or queued behind its retry timer,
while which it may not be granted; a retry timer that runs out leaves it QUEUED or granted. -/
theorem failedAttemptRetriesOrLocksOut : Obligations.FailedAttemptRetriesOrLocksOut := by
  unfold Obligations.FailedAttemptRetriesOrLocksOut
  refine ⟨fun z d s lists state timer => inrushWindow_fails lists state timer,
    fun z d s _ state timer => retryTimer_frees state timer, fun z s => ⟨fun timer => ?_, fun timer => ?_⟩⟩
  · show Host.Outcome.next (onExpiry (zoneAt s z).inrush (inrushExpired z) s) = _
    rw [timer]
    rfl
  · show Host.Outcome.next (onExpiry (zoneAt s z).retry (retryExpired z) s) = _
    rw [timer]
    rfl

end Sys2Proof.Machine

namespace Sys2Proof.Machine

/-! ## The requests for a zone, and EPO_CLEAR (R83 to R85) -/

/-! ### Served at once -/

theorem request_of_ready (tag : Byte) (r : Request) {s : State} (ready : Ready s)
    (short : (requestPayload r).length ≤ 240) : request tag r s = serve tag r s := by
  unfold request
  rw [if_neg (Nat.not_lt.mpr short), if_pos (canTake_of_ready ready)]

/-- The command of a ZONE request. -/
def zoneCommand (tag zone : Byte) : ZoneAction → Instr
  | .on => .zoneOn tag zone
  | .off => .zoneOff tag zone
  | .reset => .zoneReset tag zone

/-- R149: a ZONE request that is taken at once is answered in the place kept for it. -/
theorem exec_zone (tag zone : Byte) {s : State} (ready : Ready s) (action : ZoneAction) :
    exec (zoneCommand tag zone action) s = .next (respond
      (answer tag 0x07#8 (zoneRequest zone.toNat action (keepPlace true s)).1 [])
      (zoneRequest zone.toNat action (keepPlace true s)).2) := by
  have served := request_of_ready tag (.zone zone action) ready (by simp [requestPayload])
  have command : exec (zoneCommand tag zone action) s = .next (request tag (.zone zone action) s) := by
    cases action <;> rfl
  rw [command, served]
  rfl

theorem exec_epoClear (tag : Byte) {s : State} (ready : Ready s) :
    exec (.epoClear tag) s = .next (respond
      (answer tag 0x0B#8 (epoClearRequest (keepPlace true s)).1 [])
      (epoClearRequest (keepPlace true s)).2) := by
  show Host.Outcome.next (request tag .epoClear s) = _
  rw [request_of_ready tag .epoClear ready (by simp [requestPayload])]
  rfl

theorem respond_keepPlace (r : Response) (kept : Bool) (s : State) :
    respond r (keepPlace kept s) = respond r s := rfl

theorem zoneRequest_of_range {z : Nat} (past : 31 < z) (action : ZoneAction) (s : State) :
    zoneRequest z action s = (.range, s) := if_pos past

theorem zoneRequest_within {z : Nat} (within : z ≤ 31) (s : State) :
    zoneRequest z .on s = zoneOnRequest z s ∧ zoneRequest z .off s = (.ok, zoneOffRequest z s) ∧
      zoneRequest z .reset s = zoneResetRequest z s := by
  have fits : ¬31 < z := Nat.not_lt.mpr within
  exact ⟨if_neg fits, if_neg fits, if_neg fits⟩

/-- A request beyond the zones is refused RANGE. -/
theorem exec_zone_of_range (tag zone : Byte) {s : State} (ready : Ready s) (past : 31 < zone.toNat)
    (action : ZoneAction) :
    exec (zoneCommand tag zone action) s = .next (respond (answer tag 0x07#8 .range []) s) := by
  rw [exec_zone tag zone ready, zoneRequest_of_range past, respond_keepPlace]

/-! ### An OFF zone that is queued (R84, R85) -/

/-- R84: the zone stands QUEUED at the tail of its tier, and the Sequencer is told; the arbiter's run is
still to come. -/
def queueEntered (z : Nat) (s : State) : State :=
  tellZoneChange z .off .queued
    (enqueueZone z (modZone z (fun r => { r with state := .queued, adoptPending := false }) s))

theorem queueZone_eq (z : Nat) (s : State) : queueZone z s = runArbiter (queueEntered z s) := rfl

theorem queueEntered_zc (z : Nat) (s : State) : (queueEntered z s).zc = (enqueueZone z
    (modZone z (fun r => { r with state := .queued, adoptPending := false }) s)).zc :=
  tellZoneChange_zc _ _ _ _

theorem zoneAt_queueEntered {z : Nat} (hz : z < 32) (s : State) : zoneAt (queueEntered z s) z =
    { zoneAt s z with state := .queued, adoptPending := false } := by
  rw [zoneAt_congr (queueEntered_zc z s)]
  exact zoneAt_modZone_same hz (fun r => { r with state := .queued, adoptPending := false }) s

theorem inrushZones_congr {s t : State}
    (same : ∀ z < 32, (zoneAt t z).state = .inrush ↔ (zoneAt s z).state = .inrush) :
    inrushZones t = inrushZones s := by
  refine List.filter_congr fun z hz => ?_
  have hz : z < 32 := List.mem_range.mp (List.mem_reverse.mp hz)
  rw [zoneIs_eq_decide, zoneIs_eq_decide]
  exact decide_eq_decide.mpr (same z hz)

/-- R63: a zone that goes from OFF to QUEUED leaves admission open or closed as it is. -/
theorem admissionOpen_queueEntered {z : Nat} {s : State} (state : (zoneAt s z).state = .off) :
    admissionOpen (queueEntered z s) = admissionOpen s := by
  have works : WorksOn (· = z) s (queueEntered z s) :=
    ((((WorksOn.refl s).modZone (Z := (· = z)) rfl _).enqueueZone rfl).tellZoneChange _ _ _)
  have zc := queueEntered_zc z s
  have inrush : inrushZones (queueEntered z s) = inrushZones s := by
    refine inrushZones_congr fun y hy => ?_
    by_cases here : y = z
    · subst here
      rw [zoneAt_queueEntered hy, state]
      simp
    · have other : zoneAt (queueEntered z s) y = zoneAt s y := by
        rw [zoneAt_congr zc]
        exact (zoneAt_modZone z (fun r => { r with state := .queued, adoptPending := false }) s y).trans
          (if_neg fun same => here same.1.symm)
      rw [other]
  have slots : slotCount (queueEntered z s) = slotCount s := works.setting _
  unfold admissionOpen inrushCount
  rw [inrush, slots, zc]
  rfl

/-- R84, R85: what the queueing of an OFF zone leaves. -/
theorem queueZone_admits {z : Nat} (hz : z < 32) (s : State) :
    Admitted (queueZone z s) z ∧ (zoneAt (queueZone z s) z).adoptPending = false := by
  have run : WorksOn (fun _ => False) (queueEntered z s) (queueZone z s) := (WorksOn.refl _).runArbiter
  have before := zoneAt_queueEntered hz s
  rcases run.others z hz id with spared | ⟨from', -⟩
  · have after := spared.record.trans before
    exact ⟨.inl (by rw [after]), by rw [after]⟩
  · have after := from'.record.trans (congrArg granted before)
    exact ⟨.inr (by rw [after]; rfl), by rw [after]; rfl⟩

theorem queueZone_of_closed {z : Nat} {s : State} (state : (zoneAt s z).state = .off)
    (closed : admissionOpen s = false) : queueZone z s = queueEntered z s := by
  rw [queueZone_eq, runArbiter_of_closed ((admissionOpen_queueEntered state).trans closed)]

/-! ### ZONE ON (R84) -/

section

variable {z : Nat} {s : State}

theorem zoneOnRequest_of_latch (latch : s.zc.epoLatch = true) : zoneOnRequest z s = (.epo, s) := by
  simp [zoneOnRequest, latch]

theorem zoneOnRequest_refused (latch : s.zc.epoLatch = false)
    (barred : (zoneCfg s z).inUse = false ∨ (zoneAt s z).state = .isolated ∨
      (zoneAt s z).state = .lockout ∨ ((zoneAt s z).state = .off ∧ leakHolds s z = true)) :
    zoneOnRequest z s = (.state, s) := by
  unfold zoneOnRequest
  rcases barred with unused | state | state | ⟨state, holds⟩
  · simp [latch, unused]
  · simp [latch, state]
  · simp [latch, state]
  · simp [latch, state, holds]

theorem zoneOnRequest_of_active (latch : s.zc.epoLatch = false) (inUse : (zoneCfg s z).inUse = true)
    (active : (zoneAt s z).state = .queued ∨ (zoneAt s z).state = .shed ∨ runs s z = true) :
    zoneOnRequest z s = (.ok, s) := by
  have state : (zoneAt s z).state ≠ .isolated ∧ (zoneAt s z).state ≠ .lockout ∧
      (zoneAt s z).state ≠ .off := by
    rcases active with state | state | running
    · rw [state]; decide
    · rw [state]; decide
    · unfold runs countsAllotment at running
      refine ⟨?_, ?_, ?_⟩ <;> intro state <;> simp [state] at running
  unfold zoneOnRequest
  cases here : (zoneAt s z).state <;> simp_all

theorem zoneOnRequest_of_off (latch : s.zc.epoLatch = false) (inUse : (zoneCfg s z).inUse = true)
    (state : (zoneAt s z).state = .off) (free : leakHolds s z = false) :
    zoneOnRequest z s = (.ok, queueZone z s) := by
  simp [zoneOnRequest, latch, inUse, state, free]

end

/-- R84: an OFF zone that may be queued. -/
theorem exec_zoneOn_of_off (tag zone : Byte) {s : State} (ready : Ready s) (within : zone.toNat ≤ 31)
    (latch : s.zc.epoLatch = false) (inUse : (zoneCfg s zone.toNat).inUse = true)
    (state : (zoneAt s zone.toNat).state = .off) (free : leakHolds s zone.toNat = false) :
    exec (.zoneOn tag zone) s =
      .next (respond (answer tag 0x07#8 .ok []) (queueZone zone.toNat (keepPlace true s))) := by
  have served := exec_zone tag zone ready .on
  rw [(zoneRequest_within within _).1, zoneOnRequest_of_off (s := keepPlace true s) latch inUse state free]
    at served
  exact served

/-! ### The Sequencer's request (R85) -/

section

variable {z : Nat} {s : State}

theorem seqQueueRequest_of_latch (latch : s.zc.epoLatch = true) :
    seqQueueRequest z s = (.refusedEpo, s) := by
  simp [seqQueueRequest, latch]

theorem seqQueueRequest_refused (latch : s.zc.epoLatch = false)
    (barred : (zoneCfg s z).inUse = false ∨ (zoneAt s z).state = .isolated ∨
      (zoneAt s z).state = .lockout ∨ ((zoneAt s z).state = .off ∧ leakHolds s z = true)) :
    seqQueueRequest z s = (.refused, s) := by
  unfold seqQueueRequest
  rcases barred with unused | state | state | ⟨state, holds⟩
  · simp [latch, unused]
  · simp [latch, state]
  · simp [latch, state]
  · simp [latch, state, holds]

theorem seqQueueRequest_of_off (latch : s.zc.epoLatch = false) (inUse : (zoneCfg s z).inUse = true)
    (state : (zoneAt s z).state = .off) (free : leakHolds s z = false) :
    seqQueueRequest z s = (.queued, queueZone z s) := by
  simp [seqQueueRequest, latch, inUse, state, free]

theorem seqQueueRequest_of_active (latch : s.zc.epoLatch = false) (inUse : (zoneCfg s z).inUse = true)
    (active : (zoneAt s z).state = .queued ∨ (zoneAt s z).state = .shed ∨ runs s z = true) :
    seqQueueRequest z s = (.present, s) := by
  have state : (zoneAt s z).state ≠ .isolated ∧ (zoneAt s z).state ≠ .lockout ∧
      (zoneAt s z).state ≠ .off := by
    rcases active with state | state | running
    · rw [state]; decide
    · rw [state]; decide
    · unfold runs countsAllotment at running
      refine ⟨?_, ?_, ?_⟩ <;> intro state <;> simp [state] at running
  unfold seqQueueRequest
  cases here : (zoneAt s z).state <;> simp_all

/-- R85: a request that queues no zone changes nothing. -/
theorem seqQueueRequest_unchanged (refused : (seqQueueRequest z s).1 ≠ .queued) :
    (seqQueueRequest z s).2 = s := by
  unfold seqQueueRequest at refused ⊢
  repeat' split
  all_goals simp_all

end

/-- The Sequencer's oldest request is taken and answered. -/
theorem exec_seqZoneQueueRequest {s : State} {ask : SeqAsk} {rest : List SeqAsk}
    (asked : s.mail.seqAsk = ask :: rest) : exec .seqZoneQueueRequest s =
      .next (answerSequencer ask (modMail (fun m => { m with seqAsk := rest }) s)) := by
  show Host.Outcome.next (onDelivery s.mail.seqAsk (fun x m => { m with seqAsk := x }) answerSequencer s) = _
  rw [asked]
  rfl

theorem answerSequencer_eq (ask : SeqAsk) (s : State) : answerSequencer ask s =
    modMail (fun m => { m with
        seqAnswer := m.seqAnswer ++ [⟨ask.stepInst, (seqQueueRequest ask.zone s).1⟩] })
      (seqQueueRequest ask.zone s).2 := rfl

theorem sends_seqQueueRequest (z : Nat) (s : State) : Sends s (seqQueueRequest z s).2 := by
  have queue : Sends s (queueZone z s) := ((WorksOn.refl (Z := (· = z)) s).queueZone rfl).sends
  unfold seqQueueRequest
  repeat' split
  all_goals first | exact .refl s | exact queue

/-- R85: the Sequencer's request is answered by its first row that holds. -/
theorem sequencer_answered (ask : SeqAsk) (s : State) (hz : ask.zone < 32) :
    ∃ reply, Touches zoneBlocks s (answerSequencer ask s) ∧
      (answerSequencer ask s).mail.seqAsk = s.mail.seqAsk ∧
      (answerSequencer ask s).mail.seqAnswer = s.mail.seqAnswer ++ [⟨ask.stepInst, reply⟩] ∧
      (s.zc.epoLatch = true → reply = .refusedEpo) ∧
      (s.zc.epoLatch = false →
        ((zoneCfg s ask.zone).inUse = false ∨ (zoneAt s ask.zone).state = .isolated ∨
          (zoneAt s ask.zone).state = .lockout ∨
          ((zoneAt s ask.zone).state = .off ∧ leakHolds s ask.zone = true)) → reply = .refused) ∧
      (s.zc.epoLatch = false → (zoneCfg s ask.zone).inUse = true →
        (zoneAt s ask.zone).state = .off → leakHolds s ask.zone = false →
        reply = .queued ∧ Admitted (answerSequencer ask s) ask.zone) ∧
      (s.zc.epoLatch = false → (zoneCfg s ask.zone).inUse = true →
        ((zoneAt s ask.zone).state = .queued ∨ (zoneAt s ask.zone).state = .shed ∨
          runs s ask.zone = true) → reply = .present) ∧
      (reply ≠ .queued → (answerSequencer ask s).zc = s.zc ∧ (answerSequencer ask s).cap = s.cap ∧
        (answerSequencer ask s).segs = s.segs ∧ (answerSequencer ask s).port = s.port) := by
  have sends := sends_seqQueueRequest ask.zone s
  refine ⟨(seqQueueRequest ask.zone s).1, ?_, sends.seqAsk, ?_, fun latch => ?_, fun latch barred => ?_,
    fun latch inUse state free => ?_, fun latch inUse active => ?_, fun other => ?_⟩
  · exact touches_of_erase (by simp [zoneBlocks, answerSequencer_eq])
  · rw [← sends.seqAnswer]
    rfl
  · rw [seqQueueRequest_of_latch latch]
  · rw [seqQueueRequest_refused latch barred]
  · have row := seqQueueRequest_of_off latch inUse state free
    rw [answerSequencer_eq, row]
    exact ⟨rfl, (queueZone_admits hz s).1⟩
  · rw [seqQueueRequest_of_active latch inUse active]
  · rw [answerSequencer_eq, seqQueueRequest_unchanged other]
    exact ⟨rfl, rfl, rfl, rfl⟩

/-- Settles O31: each row of R84 and R85 is a row of the request, and only the row of an OFF zone that may be
queued changes the zones. -/
theorem zoneIsQueuedOnRequest : Obligations.ZoneIsQueuedOnRequest := by
  unfold Obligations.ZoneIsQueuedOnRequest
  refine ⟨fun tag zone s ready => ?_, fun s ask rest asked hz => ?_⟩
  case refine_2 =>
    obtain ⟨reply, touches, answered⟩ :=
      sequencer_answered ask (modMail (fun m => { m with seqAsk := rest }) s) hz
    exact ⟨_, reply, exec_seqZoneQueueRequest asked,
      touches_of_erase ((erase_of_touches touches).trans (erase_modMail _ _ (by decide))), answered⟩
  have served := exec_zone tag zone ready .on
  refine ⟨fun past => exec_zone_of_range tag zone ready past .on, fun within latch => ?_,
    fun within latch barred => ?_, fun within latch inUse active => ?_,
    fun within latch inUse state free => ?_⟩
  · rw [(zoneRequest_within within _).1, zoneOnRequest_of_latch (s := keepPlace true s) latch] at served
    exact served
  · rw [(zoneRequest_within within _).1, zoneOnRequest_refused (s := keepPlace true s) latch barred] at served
    exact served
  · rw [(zoneRequest_within within _).1, zoneOnRequest_of_active (s := keepPlace true s) latch inUse active]
      at served
    exact served
  · have works : Works (keepPlace true s) (queueZone zone.toNat (keepPlace true s)) :=
      (Works.refl _).queueZone _
    obtain ⟨admitted, adopted⟩ := queueZone_admits (Nat.lt_succ_of_le within) (keepPlace true s)
    refine ⟨_, exec_zoneOn_of_off tag zone ready within latch inUse state free, ?_, ?_, admitted, adopted,
      fun closed => ?_⟩
    · exact touches_of_erase (by simp [zoneBlocks])
    · exact congrArg (· ++ _) works.responses
    · rw [queueZone_of_closed (s := keepPlace true s) state closed]
      refine ⟨congrArg ZoneRun.state (zoneAt_queueEntered (Nat.lt_succ_of_le within) (keepPlace true s)), ?_⟩
      exact congrArg ZoneCtl.queue (queueEntered_zc zone.toNat (keepPlace true s))

end Sys2Proof.Machine

namespace Sys2Proof.Machine

/-! ## A zone that is taken off, and one that is cleared (R69, R72, R78, R83, R84) -/

/-- What has left stays as it left while the other blocks are told and the arbiter runs. -/
theorem Leaves.settled {s t u : State} {z : Nat} {new : ZoneState} (h : Leaves s t z new) (hz : z < 32)
    (works : WorksOn (fun _ => False) t u) (unqueued : z ∉ t.zc.queue) : Leaves s u z new :=
  h.spared hz works id (works.spared hz id unqueued)

theorem leaves_switchZoneOff {s : State} {z : Nat} (hz : z < 32) (unqueued : z ∉ s.zc.queue) :
    Leaves s (switchZoneOff z s) z .off := by
  have left : Leaves s (queueDisable z (modZone z (leftRunning .off) s)).1 z .off :=
    leaves_queueDisable hz rfl (zoneAt_modZone_same hz _ s)
  exact left.settled hz (((WorksOn.refl _).tellZoneChange _ _ _).afterDeparture _)
    (by rw [queueDisable_queue]; exact unqueued)

theorem zoneAt_unqueueZone {z : Nat} (hz : z < 32) (new : ZoneState) (s : State) :
    zoneAt (unqueueZone z new s) z = { zoneAt s z with state := new, retry := .stopped } := by
  rw [unqueueZone, zoneAt_congr (tellZoneChange_zc _ _ _ _)]
  exact zoneAt_modZone_same hz (fun r => { r with state := new, retry := .stopped }) (dequeueZone z s)

theorem zoneAt_unshedZone {z : Nat} (hz : z < 32) (new : ZoneState) (s : State) :
    zoneAt (unshedZone z new s) z = { zoneAt s z with state := new } := by
  rw [unshedZone, zoneAt_congr (tellZoneChange_zc _ _ _ _)]
  exact zoneAt_modZone_same hz (fun r => { r with state := new }) (leaveReadmit z s)

/-- R62, R78: a zone in neither QUEUED nor SHED stands in neither list. -/
theorem unlisted_of_state {s : State} (law : ZoneListsLaw s) {z : Nat}
    (queued : (zoneAt s z).state ≠ .queued) (shed : (zoneAt s z).state ≠ .shed) :
    z ∉ s.zc.queue ∧ z ∉ s.zc.readmit :=
  ⟨not_queued_of_state law queued, not_shed_of_state law shed⟩

/-! ### ZONE OFF (R84) -/

theorem zoneOffRequest_of_resting {s : State} {z : Nat}
    (resting : (zoneAt s z).state = .off ∨ (zoneAt s z).state = .isolated ∨
      (zoneAt s z).state = .lockout) : zoneOffRequest z s = s := by
  unfold zoneOffRequest
  rcases resting with state | state | state <;> rw [state]

theorem zoneOffRequest_of_queued {s : State} {z : Nat} (state : (zoneAt s z).state = .queued) :
    zoneOffRequest z s = unqueueZone z .off s := by
  unfold zoneOffRequest
  rw [state]

theorem zoneOffRequest_of_shed {s : State} {z : Nat} (state : (zoneAt s z).state = .shed) :
    zoneOffRequest z s = unshedZone z .off s := by
  unfold zoneOffRequest
  rw [state]

theorem zoneLists_zoneOffRequest {s : State} (law : ZoneListsLaw s) (z : Nat) :
    ZoneListsLaw (zoneOffRequest z s) := by
  unfold zoneOffRequest
  split
  next state => exact zoneLists_unqueueZone law state (by decide)
  next state => exact zoneLists_switchZoneOff law (by rw [runs, state]; rfl)
  next state => exact zoneLists_switchZoneOff law (by rw [runs, state]; rfl)
  next state => exact zoneLists_unshedZone law state (by decide)
  all_goals exact law

/-- R69, R72, R78, R84: what ZONE OFF leaves of a zone that waits or runs. -/
theorem zoneOffRequest_takesOff {s : State} {z : Nat} (hz : z < 32) (law : ZoneListsLaw s)
    (active : (zoneAt s z).state = .queued ∨ (zoneAt s z).state = .shed ∨ runs s z = true) :
    (zoneAt (zoneOffRequest z s) z).state = .off ∧
      ((zoneAt s z).state = .queued → (zoneAt (zoneOffRequest z s) z).retry = .stopped) ∧
      (runs s z = true → Leaves s (zoneOffRequest z s) z .off) := by
  rcases active with state | state | running
  · rw [zoneOffRequest_of_queued state, zoneAt_unqueueZone hz]
    exact ⟨rfl, fun _ => rfl, fun running => by simp [runs, state, countsAllotment] at running⟩
  · rw [zoneOffRequest_of_shed state, zoneAt_unshedZone hz]
    exact ⟨rfl, fun queued => by simp [state] at queued,
      fun running => by simp [runs, state, countsAllotment] at running⟩
  · have leaves := leaves_switchZoneOff hz (not_queued_of_runs law running)
    rw [zoneOffRequest_of_runs running]
    exact ⟨leaves.state, fun queued => by simp [runs, queued, countsAllotment] at running, fun _ => leaves⟩

theorem exec_zoneOff (tag zone : Byte) {s : State} (ready : Ready s) (within : zone.toNat ≤ 31) :
    exec (.zoneOff tag zone) s = .next (respond (answer tag 0x07#8 .ok [])
      (zoneOffRequest zone.toNat (keepPlace true s))) := by
  have served := exec_zone tag zone ready .off
  rw [(zoneRequest_within within _).2.1] at served
  exact served

/-- R84: ZONE OFF of a zone that waits or runs. -/
theorem zoneOff_takesOff (tag zone : Byte) {s : State} (ready : Ready s) (law : ZoneListsLaw s)
    (within : zone.toNat ≤ 31)
    (active : (zoneAt s zone.toNat).state = .queued ∨ (zoneAt s zone.toNat).state = .shed ∨
      runs s zone.toNat = true) :
    ∃ t, exec (.zoneOff tag zone) s = .next t ∧ Touches zoneBlocks s t ∧
      t.port.responses = s.port.responses ++ [answer tag 0x07#8 .ok []] ∧
      (zoneAt t zone.toNat).state = .off ∧ zone.toNat ∉ t.zc.queue ∧ zone.toNat ∉ t.zc.readmit ∧
      ((zoneAt s zone.toNat).state = .queued → (zoneAt t zone.toNat).retry = .stopped) ∧
      (runs s zone.toNat = true → (zoneAt t zone.toNat).acked = false ∧
        (zoneAt t zone.toNat).inrush = .stopped ∧
        ((zoneAt t zone.toNat).disablePending = true ∨
          Carries (segAt t (nodeCfg s (zoneCfg s zone.toNat).feedEntry).segment)
            (isFeedSet (zoneCfg s zone.toNat).feedEntry (zoneCfg s zone.toNat).output false))) := by
  have lists : ZoneListsLaw (keepPlace true s) := law
  have works : Works (keepPlace true s) (zoneOffRequest zone.toNat (keepPlace true s)) :=
    (Works.refl _).zoneOffRequest _
  obtain ⟨state, retry, leaves⟩ := zoneOffRequest_takesOff (Nat.lt_succ_of_le within) lists active
  obtain ⟨unqueued, unshed⟩ := unlisted_of_state (zoneLists_zoneOffRequest lists zone.toNat)
    (z := zone.toNat) (by rw [state]; decide) (by rw [state]; decide)
  refine ⟨_, exec_zoneOff tag zone ready within, touches_of_erase (by simp [zoneBlocks]),
    congrArg (· ++ _) works.responses, state, unqueued, unshed, retry, fun running => ?_⟩
  obtain ⟨record, -, off⟩ := (leaves running).leftFor
  have node (k : Nat) : nodeCfg (zoneOffRequest zone.toNat (keepPlace true s)) k = nodeCfg s k := by
    simp only [nodeCfg, works.tables]
    rfl
  unfold SwitchedOff at off
  rw [node] at off
  exact ⟨(congrArg ZoneRun.acked record).trans rfl, (congrArg ZoneRun.inrush record).trans rfl, off⟩

/-! ### ZONE RESET and EPO_CLEAR -/

theorem zoneResetRequest_of_lockout {s : State} {z : Nat} (state : (zoneAt s z).state = .lockout) :
    zoneResetRequest z s = (.ok, modMail (fun m => { m with
        zoneToSeq := m.zoneToSeq ++ [⟨z, .lockout, .off⟩] })
      (modZone z (fun r => { r with state := .off, attempts := 0 }) s)) :=
  if_pos (beq_iff_eq.mpr state)

theorem zoneResetRequest_of_other {s : State} {z : Nat} (state : (zoneAt s z).state ≠ .lockout) :
    zoneResetRequest z s = (.state, s) :=
  if_neg fun same => state (beq_iff_eq.mp same)

/-- R84: ZONE RESET clears a LOCKOUT, and is answered STATE otherwise. -/
theorem zoneReset_clears (tag zone : Byte) {s : State} (ready : Ready s) :
    (31 < zone.toNat →
      exec (.zoneReset tag zone) s = .next (respond (answer tag 0x07#8 .range []) s)) ∧
    (zone.toNat ≤ 31 → (zoneAt s zone.toNat).state ≠ .lockout →
      exec (.zoneReset tag zone) s = .next (respond (answer tag 0x07#8 .state []) s)) ∧
    (zone.toNat ≤ 31 → (zoneAt s zone.toNat).state = .lockout →
      exec (.zoneReset tag zone) s = .next (respond (answer tag 0x07#8 .ok [])
        (modMail (fun m => { m with
            zoneToSeq := m.zoneToSeq ++ [⟨zone.toNat, .lockout, .off⟩] })
          (modZone zone.toNat (fun r => { r with state := .off, attempts := 0 }) s)))) := by
  have served := exec_zone tag zone ready .reset
  refine ⟨fun past => exec_zone_of_range tag zone ready past .reset, fun within other => ?_,
    fun within state => ?_⟩
  · rw [(zoneRequest_within within _).2.2, zoneResetRequest_of_other (s := keepPlace true s) other] at served
    exact served
  · rw [(zoneRequest_within within _).2.2, zoneResetRequest_of_lockout (s := keepPlace true s) state] at served
    exact served

theorem epoClearRequest_of_line {s : State} (latch : s.zc.epoLatch = true) (line : s.zc.epoLine = true) :
    epoClearRequest s = (.epo, s) := by
  simp [epoClearRequest, latch, line]

theorem epoClearRequest_of_latch {s : State} (latch : s.zc.epoLatch = true)
    (line : s.zc.epoLine = false) :
    epoClearRequest s = (.ok, runArbiter (modZc (fun c => { c with epoLatch := false }) s)) := by
  simp [epoClearRequest, latch, line]

theorem epoClearRequest_of_unlatched {s : State} (latch : s.zc.epoLatch = false) :
    epoClearRequest s = (.ok, s) := by
  simp [epoClearRequest, latch]

/-- R66, R83: the latch is cleared, and the arbiter runs. -/
theorem epoClear_runs (tag : Byte) {s : State} (ready : Ready s) (latch : s.zc.epoLatch = true)
    (line : s.zc.epoLine = false) :
    ∃ t, exec (.epoClear tag) s = .next t ∧ Touches zoneBlocks s t ∧ t.zc.epoLatch = false ∧
      t.zc.epoLine = false ∧
      t.port.responses = s.port.responses ++ [answer tag 0x0B#8 .ok []] ∧
      (∀ z < 32, (zoneAt s z).state ≠ .queued → ZoneListsLaw s → zoneAt t z = zoneAt s z) ∧
      (s.zc.queue = [] → t.zc = { s.zc with epoLatch := false }) := by
  have served := exec_epoClear tag ready
  rw [epoClearRequest_of_latch (s := keepPlace true s) latch line] at served
  have run : WorksOn (fun _ => False) (modZc (fun c => { c with epoLatch := false }) (keepPlace true s))
      (runArbiter (modZc (fun c => { c with epoLatch := false }) (keepPlace true s))) :=
    (WorksOn.refl _).runArbiter
  refine ⟨_, served, touches_of_erase (by simp [zoneBlocks]), ?_, ?_, congrArg (· ++ _) run.works.responses,
    fun z hz other law => ?_, fun empty => ?_⟩
  · exact congrArg ZoneCtl.epoLatch run.told
  · exact (congrArg ZoneCtl.epoLine run.told).trans line
  · exact (run.spared hz id (not_queued_of_state law other)).record
  · have rests : ArbiterRests (modZc (fun c => { c with epoLatch := false }) (keepPlace true s)) :=
      .inr (.inl (by rw [modZc_zc]; exact congrArg (List.find? _) empty))
    rw [runArbiter_of_rests rests]
    rfl

/-- Settles O32: ZONE OFF takes the zone out of the list that held it or switches its output off; ZONE RESET
and EPO_CLEAR act on LOCKOUT and on the latch alone, but for the arbiter's run. -/
theorem zonesAreTakenOffAndCleared : Obligations.ZonesAreTakenOffAndCleared := by
  unfold Obligations.ZonesAreTakenOffAndCleared
  refine ⟨fun tag zone s ready law => ⟨fun past => exec_zone_of_range tag zone ready past .off,
      fun within resting => ?_, fun within active => zoneOff_takesOff tag zone ready law within active⟩,
    fun tag zone s ready => zoneReset_clears tag zone ready,
    fun tag s ready => ⟨fun latch line => ?_, fun latch => ?_,
      fun latch line => epoClear_runs tag ready latch line⟩⟩
  · rw [exec_zoneOff tag zone ready within, zoneOffRequest_of_resting (s := keepPlace true s) resting,
      respond_keepPlace]
  · rw [exec_epoClear tag ready, epoClearRequest_of_line (s := keepPlace true s) latch line, respond_keepPlace]
  · rw [exec_epoClear tag ready, epoClearRequest_of_unlatched (s := keepPlace true s) latch, respond_keepPlace]

end Sys2Proof.Machine

namespace Sys2Proof.Machine

/-! ## Shed requests (R54, R75, R76, R78) -/

theorem shedList_nil (s : State) : shedList [] s = (s, ⟨[], []⟩) := rfl

theorem shedList_cons_runs {s : State} {z : Nat} (running : runs s z = true) (rest : List Nat) :
    shedList (z :: rest) s = ((shedList rest (shedZone s z)).1,
      { (shedList rest (shedZone s z)).2 with shed := z :: (shedList rest (shedZone s z)).2.shed }) := by
  simp only [runs] at running
  simp only [shedList, running, if_true]

theorem shedList_cons_idle {s : State} {z : Nat} (idle : runs s z = false) (rest : List Nat) :
    shedList (z :: rest) s = ((shedList rest s).1,
      { (shedList rest s).2 with passed := z :: (shedList rest s).2.passed }) := by
  have same := shedZone_of_not_runs idle
  simp only [runs] at idle
  simp only [shedList, same, idle, Bool.false_eq_true, if_false]

/-- A zone that runs is spared by work on others: it does not stand in the queue. -/
theorem WorksOn.spared_of_runs {Z : Nat → Prop} {s t : State} {z : Nat} (h : WorksOn Z s t)
    (law : ZoneListsLaw s) (free : ¬Z z) (running : runs s z = true) : Spared s t z :=
  h.spared (lt_of_runs running) free (not_queued_of_runs law running)

theorem Spared.runs {s t : State} {z : Nat} (h : Spared s t z) : runs t z = Machine.runs s z := by
  rw [Machine.runs, h.record, Machine.runs]

/-! ### While nothing may be granted -/

/-- R63, R79: neither a grant nor re-admission: capacity is short, or the ride-through state is not
NORMAL. -/
def Shut (s : State) : Prop := s.zc.cap ≠ .balanced ∨ s.zc.ride ≠ .normal

namespace Shut

variable {s : State}

theorem admission (h : Shut s) : admissionOpen s = false := by
  rcases h with cap | ride
  · simp [admissionOpen, cap]
  · simp [admissionOpen, ride]

theorem readmission (h : Shut s) : readmitOpen s = false := by
  rcases h with cap | ride
  · simp [readmitOpen, cap]
  · simp [readmitOpen, ride]

theorem barred (h : Shut s) (z : Nat) : ¬Grantable s z := fun may =>
  h.elim (fun cap => cap may.cap) fun ride => ride may.ride

theorem worksOn {Z : Nat → Prop} {t : State} (h : Shut s) (works : WorksOn Z s t) : Shut t := by
  have cap : t.zc.cap = s.zc.cap := by simpa only [told] using congrArg ZoneCtl.cap works.told
  have ride : t.zc.ride = s.zc.ride := by simpa only [told] using congrArg ZoneCtl.ride works.told
  rwa [Shut, cap, ride]

theorem shedZone (h : Shut s) {z : Nat} (running : runs s z = true) :
    shedZone s z = shedTold z s := by
  obtain ⟨departed, shed⟩ := shedZone_of_closed running h.readmission
  have shut : admissionOpen (shedTold z s) = false := (h.worksOn (worksOn_shedTold z s)).admission
  rw [shed, afterDeparture, runArbiter_of_closed shut, ite_self]

end Shut

/-- R75: what a shed request leaves while nothing may be granted. -/
structure ShedsAll (l : List Nat) (s t : State) (done : ShedDone) : Prop where
  works : WorksOn (fun z => z ∈ l ∧ runs s z = true) s t
  done : done = ⟨l.filter (runs s), l.filter (fun z => !runs s z)⟩
  readmit : t.zc.readmit = s.zc.readmit ++ l.filter (runs s)
  queue : t.zc.queue = s.zc.queue
  leaves : ∀ z ∈ l, runs s z = true → Leaves s t z .shed

theorem shedsAll (l : List Nat) {s : State} (shut : Shut s) (once : l.Nodup) (bound : ∀ z ∈ l, z < 32) :
    ShedsAll l s (shedList l s).1 (shedList l s).2 := by
  induction l generalizing s with
  | nil => exact ⟨.refl s, rfl, (List.append_nil _).symm, rfl, nofun⟩
  | cons z rest ih =>
    obtain ⟨fresh, once⟩ := List.nodup_cons.mp once
    have hz := bound z (.head _)
    have bound : ∀ y ∈ rest, y < 32 := fun y hy => bound y (.tail _ hy)
    cases running : runs s z with
    | false =>
      obtain ⟨works, done, readmit, queue, leaves⟩ := ih shut once bound
      rw [shedList_cons_idle running]
      refine ⟨works.mono fun y hy => ⟨.tail _ hy.1, hy.2⟩, ?_, ?_, queue, fun y hy hr => ?_⟩
      · rw [done]
        simp [running]
      · rw [readmit]
        simp [running]
      · rcases List.mem_cons.mp hy with rfl | hy
        · rw [running] at hr
          cases hr
        · exact leaves y hy hr
    | true =>
      have first : WorksOn (· = z) s (shedZone s z) := shut.shedZone running ▸ worksOn_shedTold z s
      have others (y : Nat) (hy : y ∈ rest) : Spared s (shedZone s z) y :=
        first.spared_of_barred (bound y hy) (fun same => fresh (same ▸ hy)) (shut.barred y)
      have ran : rest.filter (runs (shedZone s z)) = rest.filter (runs s) :=
        List.filter_congr fun y hy => (others y hy).runs
      have idled : rest.filter (fun y => !runs (shedZone s z) y) = rest.filter (fun y => !runs s y) :=
        List.filter_congr fun y hy => by rw [(others y hy).runs]
      obtain ⟨works, done, readmit, queue, leaves⟩ := ih (shut.worksOn first) once bound
      rw [shedList_cons_runs running]
      rw [ran] at readmit done
      rw [idled] at done
      refine ⟨(first.mono ?_).trans (works.mono ?_), ?_, ?_, ?_, fun y hy hr => ?_⟩
      · rintro _ rfl
        exact ⟨.head _, running⟩
      · rintro y ⟨hy, hr⟩
        exact ⟨.tail _ hy, (others y hy).runs ▸ hr⟩
      · rw [done]
        simp [running]
      · rw [readmit, shut.shedZone running, shedTold_readmit]
        simp [running]
      · rw [queue, shut.shedZone running, shedTold_queue]
      · rcases List.mem_cons.mp hy with rfl | hy
        · have left : Leaves s (shedZone s y) y .shed := shut.shedZone running ▸ leaves_shedTold hz
          have later := shut.worksOn first
          exact left.spared hz works (fun taken => fresh taken.1)
            (works.spared_of_barred hz (fun taken => fresh taken.1) (later.barred y))
        · have spared := others y hy
          exact (leaves y hy (spared.runs.trans hr)).of_granted (by rw [first.works.tables])
            (.inl spared.record)

/-- R75: the records of the zones after such a request. -/
theorem ShedsAll.records {l : List Nat} {s t : State} {done : ShedDone} (h : ShedsAll l s t done)
    (shut : Shut s) : ∀ z < 32, if z ∈ l ∧ runs s z = true then LeftFor s t z .shed
      else zoneAt t z = zoneAt s z := by
  intro z hz
  split
  next taken => exact (h.leaves z taken.1 taken.2).leftFor
  next free => exact (h.works.spared_of_barred hz free (shut.barred z)).record

/-! ### While re-admission is closed -/

/-- A sublist of a list without repetition is what the list has of its members. -/
theorem eq_filter_of_sublist {l l' : List Nat} (sub : l'.Sublist l) (once : l.Nodup) :
    l' = l.filter (fun z => l'.contains z) := by
  induction sub with
  | slnil => rfl
  | cons z sub ih =>
    obtain ⟨fresh, once⟩ := List.nodup_cons.mp once
    rw [List.filter_cons_of_neg (by simpa using fun hz => fresh (sub.subset hz))]
    exact ih once
  | cons_cons z sub ih =>
    rename_i l₁ l₂
    obtain ⟨fresh, once⟩ := List.nodup_cons.mp once
    rw [List.filter_cons_of_pos (by simp)]
    refine congrArg (z :: ·) ((ih once).trans (List.filter_congr fun y hy => ?_))
    have other : y ≠ z := by rintro rfl; exact fresh hy
    simp [other]

/-- R62: a queue that has only lost zones holds those still QUEUED. -/
theorem queue_eq_filter {s t : State} (before : ZoneListsLaw s) (after : ZoneListsLaw t)
    (sub : t.zc.queue.Sublist s.zc.queue) :
    t.zc.queue = s.zc.queue.filter (fun z => (zoneAt t z).state == .queued) := by
  obtain ⟨once, -, bound, -⟩ := before
  obtain ⟨-, -, -, -, lists, -⟩ := after
  refine (eq_filter_of_sublist sub once).trans (List.filter_congr fun z hz => ?_)
  rw [Bool.eq_iff_iff, List.contains_iff_mem, beq_iff_eq]
  exact lists z (bound z hz)

/-- R75, R66: what a shed request leaves while re-admission is closed. -/
structure ShedsClosed (l : List Nat) (s t : State) (done : ShedDone) : Prop where
  works : WorksOn (· ∈ done.shed) s t
  lists : ZoneListsLaw t
  readmit : t.zc.readmit = s.zc.readmit ++ done.shed
  queue : t.zc.queue.Sublist s.zc.queue
  sublist : done.shed.Sublist l
  passed : done.passed = l.filter (fun z => !done.shed.contains z)
  all : ∀ z ∈ l, runs s z = true → z ∈ done.shed
  only : ∀ z ∈ done.shed, runs s z = true ∨ (zoneAt s z).state = .queued
  leaves : ∀ z ∈ done.shed, Leaves s t z .shed

/-- A zone outside `Z` has the record it had, or that of a zone just granted from QUEUED. -/
theorem WorksOn.record {Z : Nat → Prop} {s t : State} (h : WorksOn Z s t) (law : ZoneListsLaw s) {z : Nat}
    (hz : z < 32) (free : ¬Z z) : zoneAt t z = zoneAt s z ∨
      ((zoneAt s z).state = .queued ∧ zoneAt t z = granted (zoneAt s z)) := by
  rcases h.others z hz free with spared | ⟨from', -⟩
  · exact .inl spared.record
  · exact .inr ⟨(queued_of_mem law from'.queued).2, from'.record⟩

theorem shedsClosed (l : List Nat) {s : State} (law : ZoneListsLaw s) (closed : readmitOpen s = false)
    (once : l.Nodup) (bound : ∀ z ∈ l, z < 32) :
    ShedsClosed l s (shedList l s).1 (shedList l s).2 := by
  induction l generalizing s with
  | nil => exact ⟨.refl s, law, (List.append_nil _).symm, .refl _, .slnil, rfl, nofun, nofun, nofun⟩
  | cons z rest ih =>
    obtain ⟨fresh, once⟩ := List.nodup_cons.mp once
    have hz := bound z (.head _)
    have bound : ∀ y ∈ rest, y < 32 := fun y hy => bound y (.tail _ hy)
    cases running : runs s z with
    | false =>
      obtain ⟨works, lists, readmit, queue, sublist, passed, all, only, leaves⟩ := ih law closed once bound
      rw [shedList_cons_idle running]
      refine ⟨works, lists, readmit, queue, sublist.cons z, ?_, fun y hy hr => ?_, only, leaves⟩
      · have out : z ∉ (shedList rest s).2.shed := fun hz => fresh (sublist.subset hz)
        rw [List.filter_cons_of_pos (by simpa using out), ← passed]
      · rcases List.mem_cons.mp hy with rfl | hy
        · rw [running] at hr
          cases hr
        · exact all y hy hr
    | true =>
      have first : WorksOn (· = z) s (shedZone s z) :=
        (WorksOn.refl s).shedZone rfl fun isOpen => by rw [closed] at isOpen; cases isOpen
      have unqueued := not_queued_of_runs law running
      obtain ⟨works, lists, readmit, queue, sublist, passed, all, only, leaves⟩ :=
        ih (zoneLists_shedZone law z) (first.readmitOpen.trans closed) once bound
      have away (y : Nat) (hy : y ∈ rest) : y ≠ z := by rintro rfl; exact fresh hy
      have out : z ∉ (shedList rest (shedZone s z)).2.shed := fun hz => fresh (sublist.subset hz)
      rw [shedList_cons_runs running]
      refine ⟨(first.mono ?_).trans (works.mono fun y hy => .tail _ hy), lists, ?_,
        queue.trans (sublist_shedZone_of_closed z closed), sublist.cons_cons z, ?_, fun y hy hr => ?_,
        fun y hy => ?_, fun y hy => ?_⟩
      · rintro _ rfl
        exact .head _
      · rw [readmit, readmit_shedZone_of_closed running closed, List.append_assoc]
        rfl
      · rw [List.filter_cons_of_neg (by simp), passed]
        refine List.filter_congr fun y hy => ?_
        simp [away y hy]
      · rcases List.mem_cons.mp hy with rfl | hy
        · exact .head _
        · exact .tail _ (all y hy ((first.spared_of_runs law (away y hy) hr).runs.trans hr))
      · rcases List.mem_cons.mp hy with rfl | hy
        · exact .inl running
        · have other := away y (sublist.subset hy)
          rcases first.record law (bound y (sublist.subset hy)) other with same | ⟨queued, -⟩
          · rw [runs, ← same]
            exact only y hy
          · exact .inr queued
      · rcases List.mem_cons.mp hy with rfl | hy
        · have left := leaves_shedZone_of_closed running closed unqueued
          refine left.spared hz works out (works.spared hz out fun queued => ?_)
          exact unqueued ((sublist_shedZone_of_closed y closed).subset queued)
        · have other := away y (sublist.subset hy)
          exact (leaves y hy).of_granted (by rw [first.works.tables])
            ((first.record law (bound y (sublist.subset hy)) other).imp_right And.right)

theorem ShedsClosed.shedWhileClosed {l : List Nat} {s t : State} {done : ShedDone}
    (h : ShedsClosed l s t done) (law : ZoneListsLaw s) : ShedWhileClosed s t l done := by
  refine ⟨h.sublist, h.passed, h.all, h.only, h.readmit, queue_eq_filter law h.lists h.queue,
    fun z hz => ?_⟩
  split
  next shed => exact (h.leaves z shed).leftFor
  next kept => exact h.works.record law hz kept

/-! ### While re-admission is open -/

/-- R75, R79: the zone has been shed and drained: it is QUEUED again, or granted, and its output has been
switched off. -/
structure Returns (s t : State) (z : Nat) : Prop where
  admitted : Admitted t z
  attempts : (zoneAt t z).attempts = (zoneAt s z).attempts
  acked : (zoneAt t z).acked = false
  inrush : (zoneAt t z).inrush = .stopped
  off : OffOrOwed t z (zoneCfg s z).feedEntry (zoneCfg s z).output

theorem Returns.works {Z : Nat → Prop} {s t u : State} {z : Nat} (h : Returns s t z) (hz : z < 32)
    (works : WorksOn Z t u) (free : ¬Z z) : Returns s u z := by
  have off := offOrOwed_of_worksOn works hz free h.off
  rcases works.others z hz free with spared | ⟨from', -⟩
  · have record := spared.record
    exact ⟨by rw [Admitted, record]; exact h.admitted, record ▸ h.attempts, record ▸ h.acked,
      record ▸ h.inrush, off⟩
  · have record := from'.record
    exact ⟨.inr (by rw [record]; rfl), record ▸ h.attempts, by rw [record]; rfl, record ▸ h.inrush, off⟩

theorem Returns.of_spared {s s' t : State} {z : Nat} (h : Returns s' t z) (tables : s'.tables = s.tables)
    (spared : Spared s s' z) : Returns s t z := by
  have cfg : zoneCfg s' z = zoneCfg s z := zoneCfg_congr (by rw [tables]) z
  exact ⟨h.admitted, by rw [h.attempts, spared.record], h.acked, h.inrush, cfg ▸ h.off⟩

/-- R79: a zone of the re-admit list whose output is switched off returns when the list drains. -/
theorem returns_of_listed {s t : State} {z : Nat} (hz : z < 32) (left : Leaves s t z .shed)
    (listed : z ∈ t.zc.readmit) (isOpen : readmitOpen t = true) : Returns s (evaluateReadmit t) z := by
  have works : Works t (evaluateReadmit t) := (Works.refl t).evaluateReadmit
  have record := left.record
  rcases returns_evaluateReadmit isOpen hz listed with queued | admitted
  · refine ⟨.inl (by rw [queued]), ?_, ?_, ?_, left.off.works works fun owed => by rw [queued]; exact owed⟩
    all_goals rw [queued, record]
    all_goals rfl
  · refine ⟨.inr (by rw [admitted]; rfl), ?_, ?_, ?_,
      left.off.works works fun owed => by rw [admitted]; exact owed⟩
    all_goals rw [admitted, record]
    all_goals rfl

theorem returns_shedZone {s : State} {z : Nat} (running : runs s z = true) (isOpen : readmitOpen s = true) :
    Returns s (shedZone s z) z ∧ (shedZone s z).zc.readmit = [] := by
  obtain ⟨departed, shed⟩ := shedZone_of_runs running
  have hz := lt_of_runs running
  have told : readmitOpen (shedTold z s) = true := (worksOn_shedTold z s).readmitOpen.trans isOpen
  have drained := returns_of_listed hz (leaves_shedTold hz)
    (by rw [shedTold_readmit]; exact List.mem_append_right _ (.head _)) told
  have run : WorksOn (fun _ => False) (evaluateReadmit (shedTold z s)) (shedZone s z) :=
    shed ▸ (WorksOn.refl _).afterDeparture departed
  refine ⟨drained.works hz run id, ?_⟩
  rw [shed, readmit_afterDeparture, readmit_evaluateReadmit, if_pos told]

/-- R79: a request that finds the re-admit list empty leaves it empty while re-admission is open. -/
theorem shedList_of_empty (l : List Nat) {s : State} (isOpen : readmitOpen s = true)
    (empty : s.zc.readmit = []) :
    WorksOn (· ∈ l) s (shedList l s).1 ∧ (shedList l s).1.zc.readmit = [] := by
  induction l generalizing s with
  | nil => exact ⟨.refl s, empty⟩
  | cons z rest ih =>
    cases running : runs s z with
    | false =>
      obtain ⟨works, after⟩ := ih isOpen empty
      rw [shedList_cons_idle running]
      exact ⟨works.mono fun y hy => .tail _ hy, after⟩
    | true =>
      have first : WorksOn (· = z) s (shedZone s z) :=
        (WorksOn.refl s).shedZone rfl fun _ y hy => by simp [empty] at hy
      obtain ⟨works, after⟩ := ih (first.readmitOpen.trans isOpen) (returns_shedZone running isOpen).2
      rw [shedList_cons_runs running]
      refine ⟨(first.mono ?_).trans (works.mono fun y hy => .tail _ hy), after⟩
      rintro _ rfl
      exact .head _

/-- R75, R79: what a shed request leaves with re-admission open. -/
structure ShedsOpen (l : List Nat) (s t : State) (done : ShedDone) : Prop where
  returns : ∀ z ∈ l, runs s z = true → Returns s t z
  emptied : (∃ z ∈ l, runs s z = true) → t.zc.readmit = []
  named : ∀ z, (z ∈ l ↔ z ∈ done.shed ∨ z ∈ done.passed) ∧ (z ∈ l → runs s z = true → z ∈ done.shed)

theorem shedsOpen (l : List Nat) {s : State} (law : ZoneListsLaw s) (isOpen : readmitOpen s = true)
    (once : l.Nodup) : ShedsOpen l s (shedList l s).1 (shedList l s).2 := by
  induction l generalizing s with
  | nil => exact ⟨nofun, (fun ⟨_, hz, _⟩ => by cases hz), fun z => ⟨by simp [shedList_nil], nofun⟩⟩
  | cons z rest ih =>
    obtain ⟨fresh, once⟩ := List.nodup_cons.mp once
    cases running : runs s z with
    | false =>
      obtain ⟨returns, emptied, named⟩ := ih law isOpen once
      have idle (y : Nat) (hy : y ∈ z :: rest) (hr : runs s y = true) : y ∈ rest := by
        rcases List.mem_cons.mp hy with rfl | hy
        · rw [running] at hr
          cases hr
        · exact hy
      rw [shedList_cons_idle running]
      refine ⟨fun y hy hr => returns y (idle y hy hr) hr, fun ⟨y, hy, hr⟩ => emptied ⟨y, idle y hy hr, hr⟩,
        fun y => ⟨?_, fun hy hr => (named y).2 (idle y hy hr) hr⟩⟩
      rw [List.mem_cons, List.mem_cons, (named y).1]
      tauto
    | true =>
      have first : WorksOn (fun y => y = z ∨ y ∈ s.zc.readmit) s (shedZone s z) :=
        (WorksOn.refl s).shedZone (.inl rfl) fun _ y hy => .inr hy
      obtain ⟨back, empty⟩ := returns_shedZone running isOpen
      have later : readmitOpen (shedZone s z) = true := first.readmitOpen.trans isOpen
      obtain ⟨works, after⟩ := shedList_of_empty rest later empty
      obtain ⟨returns, -, named⟩ := ih (zoneLists_shedZone law z) later once
      have spared (y : Nat) (hy : y ∈ rest) (hr : runs s y = true) : Spared s (shedZone s z) y := by
        refine first.spared_of_runs law ?_ hr
        rintro (rfl | listed)
        · exact fresh hy
        · exact (unlisted_of_runs hr).2 (shed_of_mem law listed).2
      rw [shedList_cons_runs running]
      refine ⟨fun y hy hr => ?_, fun _ => after, fun y => ⟨?_, fun hy hr => ?_⟩⟩
      · rcases List.mem_cons.mp hy with rfl | hy
        · exact back.works (lt_of_runs running) works fresh
        · have kept := spared y hy hr
          exact (returns y hy (kept.runs.trans hr)).of_spared first.works.tables kept
      · rw [List.mem_cons, List.mem_cons, (named y).1]
        tauto
      · rcases List.mem_cons.mp hy with rfl | hy
        · exact .head _
        · exact .tail _ ((named y).2 hy ((spared y hy hr).runs.trans hr))

/-! ### The commands -/

theorem exec_capacityShedTaken {s : State} {zones : List Nat} {rest : List (List Nat)}
    (sent : s.mail.capShed = zones :: rest) : exec .capacityShedTaken s =
      .next (takeCapacityShed zones (modMail (fun m => { m with capShed := rest }) s)) := by
  show Host.Outcome.next (onDelivery s.mail.capShed (fun x m => { m with capShed := x })
    takeCapacityShed s) = _
  rw [sent]
  rfl

theorem exec_planShedTaken {s : State} {zones : List Nat} {rest : List (List Nat)}
    (sent : s.mail.planShed = zones :: rest) : exec .planShedTaken s =
      .next (takePlanShed zones (modMail (fun m => { m with planShed := rest }) s)) := by
  show Host.Outcome.next (onDelivery s.mail.planShed (fun x m => { m with planShed := x })
    takePlanShed s) = _
  rw [sent]
  rfl

theorem takeCapacityShed_eq (zones : List Nat) (s : State) : takeCapacityShed zones s =
    modMail (fun m => { m with capShedDone := m.capShedDone ++ [(shedList zones s).2] })
      (shedList zones s).1 := rfl

theorem takePlanShed_eq (zones : List Nat) (s : State) : takePlanShed zones s =
    modMail (fun m => { m with planShedDone := m.planShedDone ++ [(shedList zones s).2] })
      (shedList zones s).1 := rfl

theorem sends_shedList (l : List Nat) (s : State) : Sends s (shedList l s).1 := by
  induction l generalizing s with
  | nil => exact .refl s
  | cons z rest ih =>
    exact ((WorksOn.refl (Z := fun _ => True) s).shedZone (z := z) trivial fun _ _ _ => trivial).sends.trans
      (ih (shedZone s z))

/-- R54, R124: both commands carry their request out alike, and send its completion. -/
theorem requests_carriedOut {s : State} {zones : List Nat} {Q : State → ShedDone → Prop}
    (carried : ∀ f g : Mail → Mail,
      Q (modMail f (shedList zones (modMail g s)).1) (shedList zones (modMail g s)).2) :
    (∀ rest, s.mail.capShed = zones :: rest →
      ∃ t done, exec .capacityShedTaken s = .next t ∧ Touches zoneBlocks s t ∧
        (∃ later, t.mail.capShed = rest ++ later) ∧
        t.mail.capShedDone = s.mail.capShedDone ++ [done] ∧ Q t done) ∧
    (∀ rest, s.mail.planShed = zones :: rest →
      ∃ t done, exec .planShedTaken s = .next t ∧ Touches zoneBlocks s t ∧ t.mail.planShed = rest ∧
        t.mail.planShedDone = s.mail.planShedDone ++ [done] ∧ Q t done) := by
  refine ⟨fun rest sent => ?_, fun rest sent => ?_⟩
  · have sends := sends_shedList zones (modMail (fun m => { m with capShed := rest }) s)
    exact ⟨_, _, (exec_capacityShedTaken sent).trans (congrArg _ (takeCapacityShed_eq _ _)),
      touches_of_erase (by simp [zoneBlocks]), sends.capShed, congrArg (· ++ _) sends.capShedDone, carried _ _⟩
  · have sends := sends_shedList zones (modMail (fun m => { m with planShed := rest }) s)
    exact ⟨_, _, (exec_planShedTaken sent).trans (congrArg _ (takePlanShed_eq _ _)),
      touches_of_erase (by simp [zoneBlocks]), sends.planShed, congrArg (· ++ _) sends.planShedDone, carried _ _⟩

/-! ### BRIDGING (R76) -/

theorem dropFirst_split {α : Type} {p : α → Bool} {l : List α} {x : α} (hx : x ∈ l) (hp : p x = true) :
    ∃ before y after, p y = true ∧ l = before ++ y :: after ∧ dropFirst p l = before ++ after := by
  induction l with
  | nil => cases hx
  | cons a rest ih =>
    cases ha : p a with
    | true => exact ⟨[], a, rest, ha, rfl, by simp [dropFirst, ha]⟩
    | false =>
      have later : x ∈ rest := by
        rcases List.mem_cons.mp hx with rfl | later
        · rw [hp] at ha
          cases ha
        · exact later
      obtain ⟨before, y, after, hy, split, dropped⟩ := ih later
      exact ⟨a :: before, y, after, hy, by rw [split]; rfl, by simp [dropFirst, ha, dropped]⟩

theorem mem_inrushZones {s : State} {z : Nat} :
    z ∈ inrushZones s ↔ z < 32 ∧ (zoneAt s z).state = .inrush := by
  unfold inrushZones allZonesDown allZones
  rw [List.mem_filter, List.mem_reverse, List.mem_range, zoneIs_eq_decide, decide_eq_true_iff]

theorem nodup_inrushZones (s : State) : (inrushZones s).Nodup :=
  (List.nodup_reverse.mpr List.nodup_range).filter _

theorem runs_of_inrush {s : State} {z : Nat} (state : (zoneAt s z).state = .inrush) : runs s z = true := by
  rw [runs, state]
  rfl

/-- R76: what the news of BRIDGING leaves: every INRUSH zone is shed, and no other zone changes. -/
theorem takeBridging_sheds (s : State) :
    (takeBridging s).zc.ride = .bridging ∧
      (takeBridging s).ride = { s.ride with inrushShed := some (inrushZones s) } ∧
      (takeBridging s).mail.rideToZone = s.mail.rideToZone ∧
      (takeBridging s).zc.readmit = s.zc.readmit ++ inrushZones s ∧
      ∀ z < 32, if (zoneAt s z).state = .inrush then LeftFor s (takeBridging s) z .shed
        else zoneAt (takeBridging s) z = zoneAt s z := by
  have shut : Shut (modZc (fun c => { c with ride := .bridging }) s) :=
    .inr (show RideState.bridging ≠ .normal by decide)
  have sheds := shedsAll (inrushZones s) shut (nodup_inrushZones s) fun z hz => (mem_inrushZones.mp hz).1
  have all : (inrushZones s).filter (runs (modZc (fun c => { c with ride := .bridging }) s)) =
      inrushZones s :=
    List.filter_eq_self.mpr fun z hz => runs_of_inrush (s := s) (mem_inrushZones.mp hz).2
  have records := sheds.records shut
  have done := sheds.done
  have readmit := sheds.readmit
  rw [all] at done readmit
  have ride : (shedList (inrushZones s) (modZc (fun c => { c with ride := .bridging }) s)).1.ride =
      s.ride := touches_of_erase (bs := zoneBlocks) (by simp [zoneBlocks]) .ride (by decide)
  have taken : takeBridging s = inrushShedDone
      (shedList (inrushZones s) (modZc (fun c => { c with ride := .bridging }) s)).2.shed
      (shedList (inrushZones s) (modZc (fun c => { c with ride := .bridging }) s)).1 := rfl
  rw [taken, done]
  refine ⟨congrArg ZoneCtl.ride sheds.works.told, ?_, sheds.works.sends.rideToZone, readmit, fun z hz => ?_⟩
  · rw [← ride]
    rfl
  · by_cases state : (zoneAt s z).state = .inrush
    · rw [if_pos state]
      have left := records z hz
      rw [if_pos ⟨mem_inrushZones.mpr ⟨hz, state⟩, runs_of_inrush (s := s) state⟩] at left
      exact left
    · rw [if_neg state]
      have kept := records z hz
      rw [if_neg fun taken => state (mem_inrushZones.mp taken.1).2] at kept
      exact kept

theorem exec_bridgingInrushShed {s : State}
    (oldest : s.mail.rideToZone.find? (fun x => !isConserve x) = some (.state .bridging)) :
    exec .bridgingInrushShed s = .next (takeBridging
      (modMail (fun m => { m with rideToZone := dropFirst isBridging m.rideToZone }) s)) := by
  show Host.Outcome.next (takeInrushShed s) = _
  unfold takeInrushShed
  rw [oldest]

theorem bridging_sheds {s : State}
    (oldest : s.mail.rideToZone.find? (fun x => !isConserve x) = some (.state .bridging)) :
    ∃ t, exec .bridgingInrushShed s = .next t ∧ Touches (.ride :: zoneBlocks) s t ∧
      t.zc.ride = .bridging ∧ t.ride = { s.ride with inrushShed := some (inrushZones s) } ∧
      (∃ before after, s.mail.rideToZone = before ++ .state .bridging :: after ∧
        t.mail.rideToZone = before ++ after) ∧
      t.zc.readmit = s.zc.readmit ++ inrushZones s ∧
      ∀ z < 32, if (zoneAt s z).state = .inrush then LeftFor s t z .shed
        else zoneAt t z = zoneAt s z := by
  obtain ⟨held, ride, mail, readmit, records⟩ := takeBridging_sheds
    (modMail (fun m => { m with rideToZone := dropFirst isBridging m.rideToZone }) s)
  obtain ⟨before, news, after, found, split, dropped⟩ := dropFirst_split (p := isBridging)
    (List.mem_of_find?_eq_some oldest) rfl
  obtain rfl : news = .state .bridging := beq_iff_eq.mp found
  refine ⟨_, exec_bridgingInrushShed oldest, touches_of_erase (by simp [zoneBlocks]), held, ride,
    ⟨before, after, split, mail.trans dropped⟩, readmit, records⟩

/-- Settles O36: a request is carried out zone by zone; what comes between two zones is nothing where capacity
is short or the ride-through state is not NORMAL, grants alone where re-admission is closed, and the whole
drain where it is open. -/
theorem shedRequestsAreCarriedOut : Obligations.ShedRequestsAreCarriedOut := by
  unfold Obligations.ShedRequestsAreCarriedOut
  refine ⟨fun s zones once bound shut => ?_, fun s zones once bound law closed => ?_,
    fun s zones once bound law isOpen some => ?_, fun s => ⟨bridging_sheds, fun other => ?_⟩⟩
  · obtain ⟨capacity, plan⟩ := requests_carriedOut (s := s) (zones := zones) (Q := fun t done =>
        done = ⟨zones.filter (runs s), zones.filter (fun z => !runs s z)⟩ ∧
        t.zc.readmit = s.zc.readmit ++ zones.filter (runs s) ∧ t.zc.queue = s.zc.queue ∧
        ∀ z < 32, if z ∈ zones ∧ runs s z = true then LeftFor s t z .shed
          else zoneAt t z = zoneAt s z)
      fun f g => by
        have shut : Shut (modMail g s) := shut
        have sheds := shedsAll zones shut once bound
        exact ⟨sheds.done, sheds.readmit, sheds.queue, sheds.records shut⟩
    refine ⟨fun rest sent => ?_, fun rest sent => ?_⟩
    · obtain ⟨t, done, run, touches, later, told, rfl, leaves⟩ := capacity rest sent
      exact ⟨t, run, touches, later, told, leaves⟩
    · obtain ⟨t, done, run, touches, later, told, rfl, leaves⟩ := plan rest sent
      exact ⟨t, run, touches, later, told, leaves⟩
  · exact requests_carriedOut (Q := fun t done => ShedWhileClosed s t zones done) fun f g =>
      (shedsClosed zones (s := modMail g s) law closed once bound).shedWhileClosed law
  · obtain ⟨capacity, plan⟩ := requests_carriedOut (s := s) (zones := zones) (Q := fun t done =>
        (t.zc.readmit = [] ∧
          ∀ z ∈ zones, runs s z = true → Admitted t z ∧ (zoneAt t z).attempts = (zoneAt s z).attempts ∧
            (zoneAt t z).acked = false ∧ (zoneAt t z).inrush = .stopped ∧
            SwitchedOff t z (zoneCfg s z).feedEntry (zoneCfg s z).output) ∧
        ∀ z, (z ∈ zones ↔ z ∈ done.shed ∨ z ∈ done.passed) ∧
          (z ∈ zones → runs s z = true → z ∈ done.shed))
      fun f g => by
        have sheds := shedsOpen zones (s := modMail g s) law isOpen once
        refine ⟨⟨sheds.emptied some, fun z hz running => ?_⟩, sheds.named⟩
        obtain ⟨admitted, attempts, acked, inrush, off⟩ := sheds.returns z hz running
        exact ⟨admitted, attempts, acked, inrush, off.switchedOff⟩
    refine ⟨fun rest sent => ?_, fun rest sent => ?_⟩
    · obtain ⟨t, done, run, touches, -, told, ⟨empty, returns⟩, named⟩ := capacity rest sent
      exact ⟨t, run, touches, empty, returns, done, told, named⟩
    · obtain ⟨t, done, run, touches, -, told, ⟨empty, returns⟩, named⟩ := plan rest sent
      exact ⟨t, run, touches, empty, returns, done, told, named⟩
  · show Host.Outcome.next (takeInrushShed s) = _
    unfold takeInrushShed
    split
    next oldest => exact absurd oldest other
    · rfl

end Sys2Proof.Machine

namespace Sys2Proof.Machine

/-! ## Isolation and release (R80, R81) -/

/-- R69, R80: what the isolation of zone `z` leaves of it. -/
structure Isolates (s t : State) (z : Nat) : Prop where
  state : (zoneAt t z).state = if (zoneAt s z).state = .lockout then .lockout else .isolated
  attempts : (zoneAt t z).attempts = (zoneAt s z).attempts
  kept : (zoneAt s z).state = .lockout ∨ (zoneAt s z).state = .isolated → zoneAt t z = zoneAt s z
  left : runs s z = true → Leaves s t z .isolated
  dequeued : (zoneAt s z).state = .queued → (zoneAt t z).retry = .stopped
  unshed : (zoneAt s z).state = .shed → zoneAt t z = { zoneAt s z with state := .isolated }
  resting : (zoneAt s z).state = .off → (zoneAt s z).adoptPending = false →
    zoneAt t z = { zoneAt s z with state := .isolated }
  unadopted : (zoneAt s z).state = .off → (zoneAt s z).adoptPending = true →
    zoneAt t z = { zoneAt s z with
      state := .isolated, adoptPending := false, disablePending := (zoneAt t z).disablePending } ∧
    OffOrOwed t z (zoneCfg s z).feedEntry (zoneCfg s z).output

theorem runs_eq (s : State) (z : Nat) :
    runs s z = ((zoneAt s z).state == .inrush || (zoneAt s z).state == .on) := rfl

theorem isolates_of_leaves {s t : State} {z : Nat} (running : runs s z = true)
    (left : Leaves s t z .isolated) : Isolates s t z := by
  have state : (zoneAt s z).state = .inrush ∨ (zoneAt s z).state = .on := by
    simpa [runs_eq] using running
  have record := left.record
  have other : (zoneAt s z).state ≠ .lockout ∧ (zoneAt s z).state ≠ .isolated ∧
      (zoneAt s z).state ≠ .queued ∧ (zoneAt s z).state ≠ .shed ∧ (zoneAt s z).state ≠ .off := by
    rcases state with state | state <;> rw [state] <;> decide
  obtain ⟨lockout, isolated, queued, shed, off⟩ := other
  refine ⟨by rw [left.state, if_neg lockout], by rw [record]; rfl, fun h => ?_, fun _ => left,
    fun h => absurd h queued, fun h => absurd h shed, fun h => absurd h off, fun h => absurd h off⟩
  exact absurd h (not_or.mpr ⟨lockout, isolated⟩)

theorem Isolates.state_ne {s t : State} {z : Nat} (h : Isolates s t z) :
    (zoneAt t z).state ≠ .queued ∧ (zoneAt t z).state ≠ .shed := by
  rw [h.state]
  split <;> decide

/-- What has been isolated stays so while other zones are worked on. -/
theorem Isolates.works {Z : Nat → Prop} {s t u : State} {z : Nat} (h : Isolates s t z) (hz : z < 32)
    (works : WorksOn Z t u) (free : ¬Z z) (unqueued : z ∉ t.zc.queue) : Isolates s u z := by
  have spared := works.spared hz free unqueued
  have record := spared.record
  refine ⟨record ▸ h.state, record ▸ h.attempts, fun kept => record.trans (h.kept kept),
    fun running => (h.left running).spared hz works free spared, fun queued => record ▸ h.dequeued queued,
    fun shed => record.trans (h.unshed shed), fun off adopted => record.trans (h.resting off adopted),
    fun off adopted => ?_⟩
  obtain ⟨after, owed⟩ := h.unadopted off adopted
  exact ⟨by rw [record]; exact after, offOrOwed_of_worksOn works hz free owed⟩

theorem Isolates.of_same {s s' t : State} {z : Nat} (h : Isolates s' t z) (tables : s'.tables = s.tables)
    (record : zoneAt s' z = zoneAt s z) : Isolates s t z := by
  have cfg : zoneCfg s' z = zoneCfg s z := zoneCfg_congr (by rw [tables]) z
  have running : runs s' z = runs s z := by rw [runs, record, runs]
  obtain ⟨state, attempts, kept, left, dequeued, unshed, resting, unadopted⟩ := h
  rw [record] at state attempts kept dequeued unshed resting unadopted
  rw [cfg] at unadopted
  exact ⟨state, attempts, kept, fun ran => (left (running.trans ran)).of_granted tables (.inl record),
    dequeued, unshed, resting, unadopted⟩

/-- R64: the isolation of a zone that has been granted meanwhile is that of the QUEUED zone it was: its retry
timer did not run. -/
theorem Isolates.of_works {Z : Nat → Prop} {s s' t : State} {z : Nat} (h : Isolates s' t z)
    (law : ZoneListsLaw s) (hz : z < 32) (works : WorksOn Z s s') (free : ¬Z z) : Isolates s t z := by
  rcases works.others z hz free with spared | ⟨from', -⟩
  · exact h.of_same works.works.tables spared.record
  · have queued := (queued_of_mem law from'.queued).2
    have left := (h.left (runs_of_inrush (by rw [from'.record]; rfl))).of_granted works.works.tables
      (.inr from'.record)
    have record := left.record
    have retry : (zoneAt s z).retry = .stopped := by
      have stopped := from'.grantable.retry
      cases timer : (zoneAt s z).retry with
      | stopped => rfl
      | running d => simp [timer, isRunning] at stopped
    refine ⟨by rw [left.state, queued]; rfl, by rw [record]; rfl, ?_, ?_,
      fun _ => by rw [record]; exact retry, ?_, ?_, ?_⟩
    all_goals intro other
    all_goals simp [queued, runs_eq] at other

/-- R80: a zone in ISOLATED or LOCKOUT stays as it is. -/
theorem isolates_refl {s : State} {z : Nat}
    (state : (zoneAt s z).state = .lockout ∨ (zoneAt s z).state = .isolated) : Isolates s s z := by
  refine ⟨?_, rfl, fun _ => rfl, ?_, ?_, ?_, ?_, ?_⟩
  · rcases state with state | state <;> simp [state]
  all_goals intro other
  all_goals rcases state with state | state <;> simp [state, runs_eq] at other

/-- R80: the record of an OFF zone that is isolated. -/
def restIsolated (r : ZoneRun) : ZoneRun := { r with state := .isolated, adoptPending := false }

theorem isolateZone_of_resting {s : State} {z : Nat} (state : (zoneAt s z).state = .off)
    (adopted : (zoneAt s z).adoptPending = false) :
    isolateZone s z = tellZoneChange z .off .isolated (modZone z restIsolated s) := by
  simp only [isolateZone, state, adopted]
  rfl

theorem isolateZone_of_unadopted {s : State} {z : Nat} (state : (zoneAt s z).state = .off)
    (waiting : (zoneAt s z).adoptPending = true) :
    isolateZone s z = afterDeparture (queueDisable z (modZone z restIsolated s)).2
      (tellZoneChange z .off .isolated (queueDisable z (modZone z restIsolated s)).1) := by
  simp only [isolateZone, state, waiting]
  rfl

theorem isolates_resting {s : State} {z : Nat} (hz : z < 32) (state : (zoneAt s z).state = .off)
    (adopted : (zoneAt s z).adoptPending = false) : Isolates s (isolateZone s z) z := by
  have record : zoneAt (isolateZone s z) z = { zoneAt s z with state := .isolated } := by
    rw [isolateZone_of_resting state adopted, zoneAt_congr (tellZoneChange_zc _ _ _ _),
      zoneAt_modZone_same hz, restIsolated, ← adopted]
  refine ⟨by rw [record, state]; rfl, by rw [record], ?_, ?_, ?_, ?_, fun _ _ => record, fun _ waiting => ?_⟩
  case refine_5 => simp [adopted] at waiting
  all_goals intro other
  all_goals simp [state, runs_eq] at other

theorem isolates_unadopted {s : State} {z : Nat} (hz : z < 32) (unqueued : z ∉ s.zc.queue)
    (state : (zoneAt s z).state = .off) (waiting : (zoneAt s z).adoptPending = true) :
    Isolates s (isolateZone s z) z := by
  obtain ⟨queue, owed, record⟩ := queueDisable_zone z (modZone z restIsolated s) z
  have off := offOrOwed_queueDisable hz (modZone z restIsolated s)
  have run : WorksOn (fun _ => False) (queueDisable z (modZone z restIsolated s)).1 (isolateZone s z) := by
    rw [isolateZone_of_unadopted state waiting]
    exact ((WorksOn.refl _).tellZoneChange _ _ _).afterDeparture _
  have spared := run.spared hz id (by rw [queue]; exact unqueued)
  rw [zoneAt_modZone_same hz, ← spared.record] at record
  refine ⟨by rw [record, state]; rfl, by rw [record]; rfl, ?_, ?_, ?_, ?_, fun _ adopted => ?_,
    fun _ _ => ⟨?_, ?_⟩⟩
  case refine_5 => simp [waiting] at adopted
  case refine_6 => rw [record]; rfl
  case refine_7 => exact offOrOwed_of_worksOn run hz id off
  all_goals intro other
  all_goals simp [state, runs_eq] at other

/-- R80: one zone is isolated. -/
theorem isolates_isolateZone {s : State} (law : ZoneListsLaw s) {z : Nat} (hz : z < 32) :
    Isolates s (isolateZone s z) z := by
  have unqueued := not_queued_of_state law (z := z)
  have switched := leaves_queueDisable (s := s) (u := modZone z (leftRunning .isolated) s) hz rfl
    (zoneAt_modZone_same hz _ s)
  have queue : (queueDisable z (modZone z (leftRunning .isolated) s)).1.zc.queue = s.zc.queue :=
    queueDisable_queue z _
  cases state : (zoneAt s z).state with
  | off =>
    cases waiting : (zoneAt s z).adoptPending with
    | false => exact isolates_resting hz state waiting
    | true => exact isolates_unadopted hz (unqueued (by rw [state]; decide)) state waiting
  | queued =>
    have result : isolateZone s z = unqueueZone z .isolated s := by simp only [isolateZone, state]
    have record := zoneAt_unqueueZone hz .isolated s
    rw [result]
    refine ⟨by rw [record, state]; rfl, by rw [record], ?_, ?_, fun _ => by rw [record], ?_, ?_, ?_⟩
    all_goals intro other
    all_goals simp [state, runs_eq] at other
  | inrush =>
    have result : isolateZone s z = runArbiter (tellZoneChange z .inrush .isolated
        (queueDisable z (modZone z (leftRunning .isolated) s)).1) := by simp only [isolateZone, state]
    rw [result]
    exact isolates_of_leaves (runs_of_inrush state) (switched.settled hz
      ((WorksOn.refl _).tellZoneChange _ _ _).runArbiter
      (by rw [queue]; exact unqueued (by rw [state]; decide)))
  | on =>
    have result : isolateZone s z = afterDeparture (queueDisable z (modZone z (leftRunning .isolated) s)).2
        (tellZoneChange z .on .isolated (queueDisable z (modZone z (leftRunning .isolated) s)).1) := by
      simp only [isolateZone, state]
    rw [result]
    exact isolates_of_leaves (by rw [runs, state]; rfl) (switched.settled hz
      (((WorksOn.refl _).tellZoneChange _ _ _).afterDeparture _)
      (by rw [queue]; exact unqueued (by rw [state]; decide)))
  | shed =>
    have result : isolateZone s z = unshedZone z .isolated s := by simp only [isolateZone, state]
    have record := zoneAt_unshedZone hz .isolated s
    rw [result]
    refine ⟨by rw [record, state]; rfl, by rw [record], ?_, ?_, ?_, fun _ => record, ?_, ?_⟩
    all_goals intro other
    all_goals simp [state, runs_eq] at other
  | isolated =>
    have result : isolateZone s z = s := by simp only [isolateZone, state]
    rw [result]
    exact isolates_refl (.inr state)
  | lockout =>
    have result : isolateZone s z = s := by simp only [isolateZone, state]
    rw [result]
    exact isolates_refl (.inl state)

/-- R80: the zones of `l` are isolated in turn. -/
theorem isolates_foldl (l : List Nat) {s : State} (law : ZoneListsLaw s) (once : l.Nodup)
    (bound : ∀ z ∈ l, z < 32) : WorksOn (· ∈ l) s (l.foldl isolateZone s) ∧
      ZoneListsLaw (l.foldl isolateZone s) ∧ ∀ z ∈ l, Isolates s (l.foldl isolateZone s) z := by
  induction l generalizing s with
  | nil => exact ⟨.refl s, law, nofun⟩
  | cons z rest ih =>
    obtain ⟨fresh, once⟩ := List.nodup_cons.mp once
    have hz := bound z (.head _)
    have bound : ∀ y ∈ rest, y < 32 := fun y hy => bound y (.tail _ hy)
    have first : WorksOn (· = z) s (isolateZone s z) := (WorksOn.refl s).isolateZone rfl
    have isolated := isolates_isolateZone law hz
    have lists := zoneLists_isolateZone law z
    obtain ⟨works, after, others⟩ := ih lists once bound
    refine ⟨(first.mono ?_).trans (works.mono fun y hy => .tail _ hy), after, fun y hy => ?_⟩
    · rintro _ rfl
      exact .head _
    · rcases List.mem_cons.mp hy with rfl | hy
      · exact isolated.works hz works fresh (not_queued_of_state lists isolated.state_ne.1)
      · exact (others y hy).of_works law (bound y hy) first fun same => fresh (same ▸ hy)

/-! ### Release -/

theorem releaseZone_of_other {s : State} {z : Nat} (state : (zoneAt s z).state ≠ .isolated) :
    releaseZone s z = s := by
  unfold releaseZone
  rw [zoneIs_eq_decide, decide_eq_false state]
  rfl

theorem leakHeld_congr {s t : State} (tables : t.tables = s.tables) (news : told t = told s) (z : Nat) :
    leakHeld t z = leakHeld s z := by
  have groups : t.zc.groups = s.zc.groups := by simpa only [told] using congrArg ZoneCtl.groups news
  simp only [leakHeld, groupHolds, tables, groups]

/-- R81: an ISOLATED zone that no group holds is OFF again. -/
theorem zoneAt_releaseZone {s : State} {z : Nat} (state : (zoneAt s z).state = .isolated) :
    zoneAt (releaseZone s z) z =
      { zoneAt s z with state := if leakHeld s z = true then .isolated else .off } := by
  have hz : z < 32 := zone_lt_of_state (by rw [state]; decide)
  unfold releaseZone
  rw [zoneIs_eq_decide, decide_eq_true state]
  cases held : leakHeld s z with
  | true => rw [← state]; rfl
  | false =>
    show zoneAt (tellZoneChange z .isolated .off (modZone z (fun r => { r with state := .off }) s)) z = _
    rw [zoneAt_congr (tellZoneChange_zc _ _ _ _), zoneAt_modZone_same hz]
    rfl

/-- R81: the zones of `l` are released in turn. -/
theorem releases_foldl (l : List Nat) {s : State} (law : ZoneListsLaw s) (once : l.Nodup) :
    WorksOn (fun z => z ∈ l ∧ (zoneAt s z).state = .isolated) s (l.foldl releaseZone s) ∧
      ZoneListsLaw (l.foldl releaseZone s) ∧
      ∀ z ∈ l, (zoneAt s z).state = .isolated → zoneAt (l.foldl releaseZone s) z =
        { zoneAt s z with state := if leakHeld s z = true then .isolated else .off } := by
  induction l generalizing s with
  | nil => exact ⟨.refl s, law, nofun⟩
  | cons z rest ih =>
    obtain ⟨fresh, once⟩ := List.nodup_cons.mp once
    have other (y : Nat) (hy : y ∈ rest) : y ≠ z := by rintro rfl; exact fresh hy
    have lists := zoneLists_releaseZone law z
    obtain ⟨works, after, others⟩ := ih lists once
    by_cases state : (zoneAt s z).state = .isolated
    · have first : WorksOn (· = z) s (releaseZone s z) := (WorksOn.refl s).releaseZone rfl
      have hz : z < 32 := zone_lt_of_state (by rw [state]; decide)
      have record := zoneAt_releaseZone state
      refine ⟨(first.mono ?_).trans (works.mono ?_), after, fun y hy isolated => ?_⟩
      · rintro _ rfl
        exact ⟨.head _, state⟩
      · rintro y ⟨hy, isolated⟩
        refine ⟨.tail _ hy, ?_⟩
        rcases first.record law (zone_lt_of_state (by rw [isolated]; decide)) (other y hy) with same | ⟨-, same⟩
        · rw [← same]
          exact isolated
        · rw [same] at isolated
          cases isolated
      · rcases List.mem_cons.mp hy with rfl | hy
        · refine (works.spared hz (fun taken => fresh taken.1) (not_queued_of_state lists ?_)).record.trans record
          rw [record]
          dsimp only
          split <;> decide
        · have kept := first.spared (zone_lt_of_state (by rw [isolated]; decide)) (other y hy)
            (not_queued_of_state law (by rw [isolated]; decide))
          have released := others y hy (by rw [kept.record]; exact isolated)
          rwa [kept.record, leakHeld_congr first.works.tables first.told] at released
    · rw [releaseZone_of_other state] at works after others
      rw [List.foldl_cons, releaseZone_of_other state]
      refine ⟨works.mono fun y hy => ⟨.tail _ hy.1, hy.2⟩, after, fun y hy isolated => ?_⟩
      rcases List.mem_cons.mp hy with rfl | hy
      · exact absurd isolated state
      · exact others y hy isolated

/-! ### The news of a group -/

/-- R142: the Zone Controller holds the group's new state; its zones are still to be taken. -/
def groupTaken (news : GroupNews) (s : State) : State :=
  modZc (fun c => { c with groups := put c.groups news.group news.new }) s

/-- The zones of a group's set. -/
def zonesOf (s : State) (g : Nat) : List Nat := allZones.filter (groupHolds s g)

theorem mem_zonesOf {s : State} {g z : Nat} : z ∈ zonesOf s g ↔ z < 32 ∧ groupHolds s g z = true := by
  unfold zonesOf allZones
  rw [List.mem_filter, List.mem_range]

theorem nodup_zonesOf (s : State) (g : Nat) : (zonesOf s g).Nodup := List.nodup_range.filter _

theorem takeGroupNews_of_alarm {s : State} {news : GroupNews} (alarm : news.new = .alarm) :
    takeGroupNews s news = runArbiter (((zonesOf s news.group).filter
      (fun z => (zoneCfg s z).inUse)).foldl isolateZone (groupTaken news s)) := by
  unfold takeGroupNews
  dsimp only
  rw [if_pos (beq_iff_eq.mpr alarm)]
  rfl

theorem takeGroupNews_of_release {s : State} {news : GroupNews} (other : news.new ≠ .alarm)
    (drying : news.old = .drying) :
    takeGroupNews s news = runArbiter ((zonesOf s news.group).foldl releaseZone (groupTaken news s)) := by
  unfold takeGroupNews
  dsimp only
  rw [if_neg fun alarm => other (beq_iff_eq.mp alarm), if_pos (beq_iff_eq.mpr drying)]
  rfl

theorem takeGroupNews_of_other {s : State} {news : GroupNews} (other : news.new ≠ .alarm)
    (wet : news.old ≠ .drying) : takeGroupNews s news = runArbiter (groupTaken news s) := by
  unfold takeGroupNews
  dsimp only
  rw [if_neg fun alarm => other (beq_iff_eq.mp alarm), if_neg fun drying => wet (beq_iff_eq.mp drying)]
  rfl

/-- R66: what follows the news is work on the zones that it takes, and the arbiter's runs. -/
theorem group_alarm {s : State} (law : ZoneListsLaw s) (news : GroupNews) (alarm : news.new = .alarm) :
    WorksOn (fun z => groupHolds s news.group z = true ∧ (zoneCfg s z).inUse = true)
        (groupTaken news s) (takeGroupNews s news) ∧
      ∀ z < 32, groupHolds s news.group z = true → (zoneCfg s z).inUse = true →
        Isolates s (takeGroupNews s news) z ∧ z ∉ (takeGroupNews s news).zc.queue ∧
          z ∉ (takeGroupNews s news).zc.readmit := by
  have taken : ZoneListsLaw (groupTaken news s) := law
  obtain ⟨works, lists, isolated⟩ := isolates_foldl
    ((zonesOf s news.group).filter (fun z => (zoneCfg s z).inUse)) taken ((nodup_zonesOf s _).filter _)
    fun z hz => (mem_zonesOf.mp (List.mem_filter.mp hz).1).1
  rw [takeGroupNews_of_alarm alarm]
  refine ⟨WorksOn.runArbiter (works.mono fun z hz => ?_), fun z hz holds inUse => ?_⟩
  · obtain ⟨member, inUse⟩ := List.mem_filter.mp hz
    exact ⟨(mem_zonesOf.mp member).2, inUse⟩
  · have left := isolated z (List.mem_filter.mpr ⟨mem_zonesOf.mpr ⟨hz, holds⟩, inUse⟩)
    have after := left.works hz (WorksOn.refl (Z := fun _ => False) _).runArbiter id
      (not_queued_of_state lists left.state_ne.1)
    obtain ⟨unqueued, unshed⟩ := unlisted_of_state (zoneLists_runArbiter lists) after.state_ne.1
      after.state_ne.2
    exact ⟨after.of_same rfl rfl, unqueued, unshed⟩

theorem group_release {s : State} (law : ZoneListsLaw s) (news : GroupNews) (other : news.new ≠ .alarm)
    (drying : news.old = .drying) :
    WorksOn (fun z => groupHolds s news.group z = true ∧ (zoneAt s z).state = .isolated)
        (groupTaken news s) (takeGroupNews s news) ∧
      ∀ z < 32, groupHolds s news.group z = true → (zoneAt s z).state = .isolated →
        zoneAt (takeGroupNews s news) z = { zoneAt s z with
          state := if leakHeld (takeGroupNews s news) z = true then .isolated else .off } := by
  have taken : ZoneListsLaw (groupTaken news s) := law
  obtain ⟨works, lists, released⟩ := releases_foldl (zonesOf s news.group) taken (nodup_zonesOf s _)
  rw [takeGroupNews_of_release other drying]
  have run := WorksOn.runArbiter works
  refine ⟨run.mono fun z hz => ⟨(mem_zonesOf.mp hz.1).2, hz.2⟩, fun z hz holds isolated => ?_⟩
  have record := released z (mem_zonesOf.mpr ⟨hz, holds⟩) isolated
  have last := (WorksOn.refl (Z := fun _ => False)
    ((zonesOf s news.group).foldl releaseZone (groupTaken news s))).runArbiter
  rw [leakHeld_congr run.works.tables run.told]
  refine (last.spared hz id (not_queued_of_state lists ?_)).record.trans record
  rw [record]
  dsimp only
  split <;> decide

theorem exec_leakGroupDelivery {s : State} {news : GroupNews} {rest : List GroupNews}
    (sent : s.mail.leakToZone = news :: rest) : exec .leakGroupDelivery s =
      .next (takeGroupNews (modMail (fun m => { m with leakToZone := rest }) s) news) := by
  show Host.Outcome.next (onDelivery s.mail.leakToZone (fun x m => { m with leakToZone := x })
    (fun news s => takeGroupNews s news) s) = _
  rw [sent]
  rfl

/-- R66: whatever the news, the zones outside those it takes are granted from QUEUED or stay as they are. -/
theorem group_spares {Z : Nat → Prop} {s t : State} {news : GroupNews} (law : ZoneListsLaw s)
    (works : WorksOn Z (groupTaken news s) t) {z : Nat} (hz : z < 32) (free : ¬Z z)
    (state : (zoneAt s z).state ≠ .queued) : zoneAt t z = zoneAt s z :=
  (works.spared hz free (not_queued_of_state law state)).record

/-- R80, R81: what the news of a group leaves, for each of its kinds. -/
structure TakesGroup (news : GroupNews) (s t : State) : Prop where
  groups : t.zc.groups = put s.zc.groups news.group news.new
  mail : t.mail.leakToZone = s.mail.leakToZone
  alarm : news.new = .alarm → ∀ z < 32, groupHolds s news.group z = true →
    (zoneCfg s z).inUse = true → Isolates s t z ∧ z ∉ t.zc.queue ∧ z ∉ t.zc.readmit
  release : news.new ≠ .alarm → news.old = .drying → ∀ z < 32, groupHolds s news.group z = true →
    (zoneAt s z).state = .isolated → zoneAt t z = { zoneAt s z with
      state := if leakHeld t z = true then .isolated else .off }
  others : ∀ z < 32, (zoneAt s z).state ≠ .queued →
    ¬(news.new = .alarm ∧ groupHolds s news.group z = true ∧ (zoneCfg s z).inUse = true) →
    ¬(news.new ≠ .alarm ∧ news.old = .drying ∧ groupHolds s news.group z = true ∧
      (zoneAt s z).state = .isolated) → zoneAt t z = zoneAt s z

theorem takesGroup {s : State} (law : ZoneListsLaw s) (news : GroupNews) :
    TakesGroup news s (takeGroupNews s news) := by
  have held {Z : Nat → Prop} (works : WorksOn Z (groupTaken news s) (takeGroupNews s news)) :
      (takeGroupNews s news).zc.groups = put s.zc.groups news.group news.new :=
    congrArg ZoneCtl.groups works.told
  by_cases alarm : news.new = .alarm
  · obtain ⟨works, isolated⟩ := group_alarm law news alarm
    exact ⟨held works, works.sends.leakToZone, fun _ => isolated, fun other => absurd alarm other,
      fun z hz state free _ => group_spares law works hz (fun taken => free ⟨alarm, taken⟩) state⟩
  · by_cases drying : news.old = .drying
    · obtain ⟨works, released⟩ := group_release law news alarm drying
      exact ⟨held works, works.sends.leakToZone, fun here => absurd here alarm, fun _ _ => released,
        fun z hz state _ free => group_spares law works hz (fun taken => free ⟨alarm, drying, taken⟩) state⟩
    · have works : WorksOn (fun _ => False) (groupTaken news s) (takeGroupNews s news) :=
        takeGroupNews_of_other alarm drying ▸ (WorksOn.refl _).runArbiter
      exact ⟨held works, works.sends.leakToZone, fun here => absurd here alarm,
        fun _ here => absurd here drying, fun z hz state _ _ => group_spares law works hz id state⟩

/-- Settles O37: the zones of a group in ALARM are isolated in turn, and a grant in between is undone by the
zone's own turn; those of a group that leaves DRYING are released, where no group holds them. -/
theorem leakNewsIsolatesAndReleases : Obligations.LeakNewsIsolatesAndReleases := by
  unfold Obligations.LeakNewsIsolatesAndReleases
  intro s news rest law _ sent
  have takes := takesGroup (s := modMail (fun m => { m with leakToZone := rest }) s) law news
  refine ⟨_, exec_leakGroupDelivery sent, touches_of_erase (by simp [zoneBlocks]), takes.mail, takes.groups,
    fun alarm z hz holds inUse => ?_, takes.release, takes.others⟩
  obtain ⟨isolated, unqueued, unshed⟩ := takes.alarm alarm z hz holds inUse
  refine ⟨isolated.state, isolated.attempts, unqueued, unshed, isolated.kept,
    fun running => (isolated.left running).leftFor, isolated.dequeued, isolated.unshed, isolated.resting,
    fun off waiting => ?_⟩
  obtain ⟨record, owed⟩ := isolated.unadopted off waiting
  exact ⟨record, owed.switchedOff⟩

end Sys2Proof.Machine

namespace Sys2Proof.Machine

/-! ## News taken from the other blocks (R56, R66, R74, R77, R79) -/

/-! ### Re-admission after a change -/

/-- R79: what an evaluation of re-admission after the arbiter's runs leaves of the news that `u` holds. -/
structure Evaluates (u t : State) : Prop where
  news : told t = told u
  sends : Sends u t
  readmit : t.zc.readmit = if readmitOpen u = true then [] else u.zc.readmit

theorem evaluates_readmit {u v : State} (works : WorksOn (fun _ => True) u v)
    (same : v.zc.readmit = u.zc.readmit) : Evaluates u (evaluateReadmit v) := by
  have after := works.evaluateReadmit fun _ _ _ => trivial
  refine ⟨after.told, after.sends, ?_⟩
  rw [readmit_evaluateReadmit, works.readmitOpen, same]

theorem Evaluates.runArbiter {u t : State} (h : Evaluates u t) : Evaluates u (runArbiter t) := by
  have run : WorksOn (fun _ => False) t (Machine.runArbiter t) := (WorksOn.refl t).runArbiter
  exact ⟨run.told.trans h.news, h.sends.trans run.sends, (readmit_runArbiter t).trans h.readmit⟩

theorem evaluates_takeCapNews (news : CapNews) (s : State) :
    Evaluates (modZc (fun c => { c with cap := news.state }) s) (takeCapNews news s) :=
  (evaluates_readmit (.refl _) rfl).runArbiter

theorem evaluates_takeEnergyNews (figure : Nat) (s : State) :
    Evaluates (modZc (fun c => { c with energy := figure }) s) (takeEnergyNews figure s) :=
  evaluates_readmit (.refl _) rfl

theorem evaluates_rideState (x : RideState) (s : State) :
    Evaluates (modZc (fun c => { c with ride := x }) s) (takeRideNews s (.state x)) :=
  evaluates_readmit (WorksOn.refl _).runArbiter (readmit_runArbiter _)

theorem evaluates_conserve (x : Bool) (s : State) :
    Evaluates (modZc (fun c => { c with conserve := x }) s) (takeRideNews s (.conserve x)) :=
  evaluates_readmit (.refl _) rfl

/-! ### The link (R77) -/

/-- The Zone Controller holds the news of the link. -/
def linkTaken (news : LinkNews) (s : State) : State :=
  modZc (fun c => { c with link := news.state, action := news.action, shedTier := news.shedTier }) s

/-- R77: the zones that a lost link sheds, in shed order. -/
def linkShed (news : LinkNews) (s : State) : List Nat :=
  (shedSequence s).filter fun z => decide (news.shedTier ≤ (zoneCfg s z).tier)

theorem shedList_fst (l : List Nat) (s : State) : (shedList l s).1 = l.foldl shedZone s := by
  induction l generalizing s with
  | nil => rfl
  | cons z rest ih => exact ih (shedZone s z)

theorem takeLinkNews_of_lost {s : State} {news : LinkNews} (lost : news.state = .autonomous)
    (sheds : news.action = .shed) : takeLinkNews news s =
      runArbiter (shedList (linkShed news s) (linkTaken news s)).1 := by
  have order : linkShed news s = (shedOrder (linkTaken news s)).filter
      (fun z => decide (news.shedTier ≤ (zoneCfg (linkTaken news s) z).tier)) := by
    rw [linkShed, shedSequence_eq_shedOrder]
    rfl
  rw [shedList_fst, order]
  unfold takeLinkNews
  dsimp only
  rw [if_pos (by simp [lost, sheds])]
  rfl

theorem takeLinkNews_of_other {s : State} {news : LinkNews}
    (other : news.state ≠ .autonomous ∨ news.action ≠ .shed) :
    takeLinkNews news s = evaluateReadmit (runArbiter (linkTaken news s)) := by
  unfold takeLinkNews
  dsimp only
  rw [if_neg (by simp only [Bool.and_eq_true, beq_iff_eq]; exact not_and_or.mpr other)]
  rfl

/-- R74: the shed order names the INRUSH zones, and the ON zones of tiers 1 to 3. -/
theorem mem_shedSequence {s : State} {z : Nat} : z ∈ shedSequence s ↔ z < 32 ∧
    ((zoneAt s z).state = .inrush ∨ (zoneAt s z).state = .on ∧
      ((zoneCfg s z).tier = 3 ∨ (zoneCfg s z).tier = 2 ∨ (zoneCfg s z).tier = 1)) := by
  simp only [shedSequence, List.mem_append, List.mem_filter, List.mem_reverse, List.mem_range,
    decide_eq_true_eq]
  tauto

theorem nodup_shedSequence (s : State) : (shedSequence s).Nodup := by
  have down : (List.range 32).reverse.Nodup := List.nodup_reverse.mpr List.nodup_range
  have apart {p q : Nat → Bool} (h : ∀ z, p z = true → q z = false) :
      List.Disjoint ((List.range 32).reverse.filter p) ((List.range 32).reverse.filter q) := by
    intro z hp hq
    have off := h z (List.mem_filter.mp hp).2
    rw [(List.mem_filter.mp hq).2] at off
    cases off
  simp only [shedSequence, List.nodup_append', List.disjoint_append_left]
  refine ⟨⟨⟨down.filter _, down.filter _, apart fun z => ?_⟩, down.filter _, apart fun z => ?_,
    apart fun z => ?_⟩, down.filter _, ⟨apart fun z => ?_, apart fun z => ?_⟩, apart fun z => ?_⟩
  all_goals simp only [decide_eq_true_eq, decide_eq_false_iff_not]
  · intro inrush on
    simp [inrush] at on
  · intro inrush on
    simp [inrush] at on
  · intro on on'
    omega
  · intro inrush on
    simp [inrush] at on
  · intro on on'
    omega
  · intro on on'
    omega

/-- What a lost link leaves. -/
structure LinkLost (news : LinkNews) (s t : State) : Prop where
  readmit : t.zc.readmit = s.zc.readmit ++ linkShed news s
  sheds : ∀ z < 32, news.shedTier ≤ (zoneCfg s z).tier → (zoneCfg s z).tier ≤ 3 →
    runs t z = false ∧ (runs s z = true → LeftFor s t z .shed)
  others : ∀ z < 32, (zoneCfg s z).tier < news.shedTier → (zoneAt s z).state ≠ .queued →
    zoneAt t z = zoneAt s z

theorem mem_linkShed {news : LinkNews} {s : State} {z : Nat} (tier : 1 ≤ news.shedTier)
    (running : runs s z = true) (reached : news.shedTier ≤ (zoneCfg s z).tier)
    (bound : (zoneCfg s z).tier ≤ 3) : z ∈ linkShed news s := by
  have state : (zoneAt s z).state = .inrush ∨ (zoneAt s z).state = .on := by
    simpa [runs_eq] using running
  refine List.mem_filter.mpr ⟨mem_shedSequence.mpr ⟨lt_of_runs running, ?_⟩, decide_eq_true reached⟩
  rcases state with inrush | on
  · exact .inl inrush
  · exact .inr ⟨on, by omega⟩

theorem of_mem_linkShed {news : LinkNews} {s : State} {z : Nat} (h : z ∈ linkShed news s) :
    z < 32 ∧ runs s z = true ∧ news.shedTier ≤ (zoneCfg s z).tier := by
  obtain ⟨member, reached⟩ := List.mem_filter.mp h
  obtain ⟨hz, state⟩ := mem_shedSequence.mp member
  refine ⟨hz, ?_, of_decide_eq_true reached⟩
  rcases state with state | ⟨state, -⟩
  · exact runs_of_inrush state
  · rw [runs, state]
    rfl

/-- R64: with the link lost and the action SHED no zone of the shed tier or above may be granted. -/
theorem not_grantable_of_lost {s : State} {news : LinkNews} {z : Nat} (lost : news.state = .autonomous)
    (sheds : news.action = .shed) (reached : news.shedTier ≤ (zoneCfg s z).tier) :
    ¬Grantable (linkTaken news s) z := fun may => by
  have bars : linkBars (linkTaken news s) z = true := by
    have tier : news.shedTier ≤ (zoneCfg (linkTaken news s) z).tier := reached
    unfold linkBars
    simp only [linkTaken, modZc_zc, lost, sheds, Bool.and_eq_true, decide_eq_true_eq]
    exact ⟨⟨rfl, rfl⟩, tier⟩
  rw [may.link] at bars
  cases bars

theorem linkLost_takeLinkNews {s : State} {news : LinkNews} (law : ZoneListsLaw s)
    (tier : 1 ≤ news.shedTier) (lost : news.state = .autonomous) (sheds : news.action = .shed) :
    LinkLost news s (takeLinkNews news s) := by
  have closed : readmitOpen (linkTaken news s) = false := by
    simp [readmitOpen, linkTaken, lost, sheds]
  have once : (linkShed news s).Nodup := (nodup_shedSequence s).filter _
  have shed := shedsClosed (linkShed news s) (s := linkTaken news s) law closed once
    fun z hz => (of_mem_linkShed hz).1
  have all : (shedList (linkShed news s) (linkTaken news s)).2.shed = linkShed news s :=
    (eq_filter_of_sublist shed.sublist once).trans (List.filter_eq_self.mpr fun z hz =>
      List.contains_iff_mem.mpr (shed.all z hz (of_mem_linkShed hz).2.1))
  have works := shed.works
  have readmit := shed.readmit
  have leaves := shed.leaves
  rw [all] at works readmit leaves
  have last : WorksOn (fun _ => False) _ (runArbiter (shedList (linkShed news s) (linkTaken news s)).1) :=
    (WorksOn.refl _).runArbiter
  have whole := WorksOn.runArbiter works
  rw [takeLinkNews_of_lost lost sheds]
  refine ⟨(readmit_runArbiter _).trans readmit, fun z hz reached bound => ?_, fun z hz below state => ?_⟩
  · cases running : runs s z with
    | true =>
      have left := (leaves z (mem_linkShed tier running reached bound)).settled hz last
        (not_queued_of_state shed.lists (by
          rw [(leaves z (mem_linkShed tier running reached bound)).state]
          decide))
      exact ⟨by rw [runs, left.state]; rfl, fun _ => left.leftFor⟩
    | false =>
      have free : z ∉ linkShed news s := fun member => by
        rw [(of_mem_linkShed member).2.1] at running
        cases running
      have kept := whole.spared_of_barred hz free (not_grantable_of_lost lost sheds reached)
      exact ⟨kept.runs.trans running, fun ran => by cases ran⟩
  · have free : z ∉ linkShed news s := fun member => by
      have reached := (of_mem_linkShed member).2.2
      omega
    exact (whole.spared hz free (not_queued_of_state law state)).record

theorem worksOn_takeLinkNews (news : LinkNews) (s : State) :
    WorksOn (fun _ => True) (linkTaken news s) (takeLinkNews news s) := by
  by_cases lost : news.state = .autonomous ∧ news.action = .shed
  · rw [takeLinkNews_of_lost lost.1 lost.2, shedList_fst]
    exact (WorksOn.foldl _ (fun t z _ => (WorksOn.refl t).shedZone trivial fun _ _ _ => trivial) _).runArbiter
  · rw [takeLinkNews_of_other (not_and_or.mp lost)]
    exact (WorksOn.refl _).runArbiter.evaluateReadmit fun _ _ _ => trivial

/-- R66: the arbiter has run last. -/
theorem rests_takeLinkNews (news : LinkNews) (s : State) : ArbiterRests (takeLinkNews news s) := by
  by_cases lost : news.state = .autonomous ∧ news.action = .shed
  · rw [takeLinkNews_of_lost lost.1 lost.2]
    exact rests_runArbiter _
  · rw [takeLinkNews_of_other (not_and_or.mp lost)]
    cases evaluated : readmitOpen (runArbiter (linkTaken news s)) with
    | false =>
      rw [evaluateReadmit_of_closed evaluated]
      exact rests_runArbiter _
    | true =>
      rcases evaluateReadmit_of_open evaluated with ⟨-, same⟩ | drained
      · rw [same]
        exact rests_runArbiter _
      · rw [drained]
        exact rests_runArbiter _

/-- R77, R79: what any other change of the link leaves. -/
theorem takeLinkNews_evaluates {s : State} {news : LinkNews} (law : ZoneListsLaw s)
    (other : news.state ≠ .autonomous ∨ news.action ≠ .shed) :
    Evaluates (linkTaken news s) (takeLinkNews news s) ∧
      ((takeLinkNews news s).zc.readmit = [] → ∀ z ∈ s.zc.readmit, Admitted (takeLinkNews news s) z) ∧
      ∀ z < 32, runs s z = true → zoneAt (takeLinkNews news s) z = zoneAt s z := by
  have run : WorksOn (· ∈ s.zc.readmit) (linkTaken news s) (runArbiter (linkTaken news s)) :=
    (WorksOn.refl _).runArbiter
  have readmit : (runArbiter (linkTaken news s)).zc.readmit = s.zc.readmit := readmit_runArbiter _
  have whole := run.evaluateReadmit fun _ z hz => readmit ▸ hz
  rw [takeLinkNews_of_other other]
  refine ⟨evaluates_readmit (run.mono fun _ _ => trivial) readmit, fun empty z hz => ?_,
    fun z hz running => ?_⟩
  · have bound := (shed_of_mem law hz).1
    cases evaluated : readmitOpen (runArbiter (linkTaken news s)) with
    | false =>
      rw [evaluateReadmit_of_closed evaluated, readmit] at empty
      rw [empty] at hz
      cases hz
    | true =>
      rcases returns_evaluateReadmit evaluated bound (readmit.symm ▸ hz) with queued | admitted
      · exact .inl (by rw [queued])
      · exact .inr (by rw [admitted]; rfl)
  · have away : z ∉ s.zc.readmit := fun listed =>
      (unlisted_of_runs running).2 (shed_of_mem law listed).2
    exact (whole.spared hz away (not_queued_of_runs law running)).record

/-! ### The commands -/

theorem exec_linkStateDelivery {s : State} {news : LinkNews} {rest : List LinkNews}
    (sent : s.mail.linkToZone = news :: rest) : exec .linkStateDelivery s =
      .next (takeLinkNews news (modMail (fun m => { m with linkToZone := rest }) s)) := by
  show Host.Outcome.next (onDelivery s.mail.linkToZone (fun x m => { m with linkToZone := x })
    takeLinkNews s) = _
  rw [sent]
  rfl

theorem exec_capacityDelivery_zone {s : State} {news : CapNews} {rest : List CapNews}
    (sent : s.mail.capToZone = news :: rest) : exec (.capacityDelivery .zoneController) s =
      .next (takeCapNews news (modMail (fun m => { m with capToZone := rest }) s)) := by
  show Host.Outcome.next (onDelivery s.mail.capToZone (fun x m => { m with capToZone := x })
    takeCapNews s) = _
  rw [sent]
  rfl

theorem exec_energyFigureDelivery_zone {s : State} {figure : Nat} {rest : List Nat}
    (sent : s.mail.energyToZone = figure :: rest) : exec (.energyFigureDelivery .zoneController) s =
      .next (takeEnergyNews figure (modMail (fun m => { m with energyToZone := rest }) s)) := by
  show Host.Outcome.next (onDelivery s.mail.energyToZone (fun x m => { m with energyToZone := x })
    takeEnergyNews s) = _
  rw [sent]
  rfl

/-- The news that R79 takes as the oldest of its path. -/
theorem exec_rideDeliveryZone {s : State} {news : RideNews} {rest : List RideNews}
    (sent : s.mail.rideToZone = news :: rest) (other : news ≠ .state .bridging) :
    exec .rideDeliveryZone s =
      .next (takeRideNews (modMail (fun m => { m with rideToZone := rest }) s) news) := by
  show Host.Outcome.next (takeRideDelivery s) = _
  unfold takeRideDelivery
  rw [sent]
  split
  next none => cases none
  next waits =>
    obtain ⟨rfl, -⟩ := List.cons.inj waits
    exact absurd rfl other
  next taken =>
    obtain ⟨rfl, rfl⟩ := List.cons.inj taken
    rfl

/-- A CONSERVE change is taken past a BRIDGING that waits (log entry 32). -/
theorem exec_rideDeliveryZone_past {s : State} {x : Bool} {rest : List RideNews}
    (sent : s.mail.rideToZone = .state .bridging :: .conserve x :: rest) :
    exec .rideDeliveryZone s = .next (takeRideNews
      (modMail (fun m => { m with rideToZone := .state .bridging :: rest }) s) (.conserve x)) := by
  show Host.Outcome.next (takeRideDelivery s) = _
  unfold takeRideDelivery
  rw [sent]
  rfl

theorem link_news {s : State} {news : LinkNews} {rest : List LinkNews} (law : ZoneListsLaw s)
    (tier : 1 ≤ news.shedTier) (sent : s.mail.linkToZone = news :: rest) :
    ∃ t, exec .linkStateDelivery s = .next t ∧ Touches zoneBlocks s t ∧
      t.mail.linkToZone = rest ∧ t.zc.link = news.state ∧ t.zc.action = news.action ∧
      t.zc.shedTier = news.shedTier ∧ ArbiterRests t ∧
      (news.state = .autonomous → news.action = .shed →
        t.zc.readmit = s.zc.readmit ++
          (shedSequence s).filter (fun z => decide (news.shedTier ≤ (zoneCfg s z).tier)) ∧
        (∀ z < 32, news.shedTier ≤ (zoneCfg s z).tier → (zoneCfg s z).tier ≤ 3 →
          runs t z = false ∧ (runs s z = true → LeftFor s t z .shed)) ∧
        ∀ z < 32, (zoneCfg s z).tier < news.shedTier → (zoneAt s z).state ≠ .queued →
          zoneAt t z = zoneAt s z) ∧
      (news.state ≠ .autonomous ∨ news.action ≠ .shed →
        (t.zc.readmit = if readmitOpen (modZc (fun c => { c with
            link := news.state, action := news.action, shedTier := news.shedTier }) s) = true
          then [] else s.zc.readmit) ∧
        (t.zc.readmit = [] → ∀ z ∈ s.zc.readmit, Admitted t z) ∧
        ∀ z < 32, runs s z = true → zoneAt t z = zoneAt s z) := by
  have held := worksOn_takeLinkNews news (modMail (fun m => { m with linkToZone := rest }) s)
  refine ⟨_, exec_linkStateDelivery sent, touches_of_erase (by simp [zoneBlocks]), held.sends.linkToZone,
    congrArg ZoneCtl.link held.told, congrArg ZoneCtl.action held.told, congrArg ZoneCtl.shedTier held.told,
    rests_takeLinkNews _ _, fun lost sheds => ?_, fun other => ?_⟩
  · obtain ⟨readmit, shed, others⟩ := linkLost_takeLinkNews
      (s := modMail (fun m => { m with linkToZone := rest }) s) law tier lost sheds
    exact ⟨readmit, shed, others⟩
  · obtain ⟨evaluates, returns, others⟩ := takeLinkNews_evaluates
      (s := modMail (fun m => { m with linkToZone := rest }) s) law other
    exact ⟨evaluates.readmit, returns, others⟩

/-- Settles O38: the news is held; a lost link sheds its tiers in shed order, none of whose zones the arbiter
may grant meanwhile, and every other news has re-admission evaluated. -/
theorem newsShedsAndReadmits : Obligations.NewsShedsAndReadmits := by
  unfold Obligations.NewsShedsAndReadmits
  refine ⟨fun s news rest law tier sent => link_news law tier sent, fun s news rest sent => ?_,
    fun s figure rest sent => ?_, fun s x rest other sent => ?_, fun s x rest sent => ?_,
    fun s x rest sent => ?_⟩
  · have after := evaluates_takeCapNews news (modMail (fun m => { m with capToZone := rest }) s)
    exact ⟨_, exec_capacityDelivery_zone sent, touches_of_erase (by simp [zoneBlocks]),
      congrArg ZoneCtl.cap after.news, after.sends.capToZone, after.readmit⟩
  · have after := evaluates_takeEnergyNews figure (modMail (fun m => { m with energyToZone := rest }) s)
    exact ⟨_, exec_energyFigureDelivery_zone sent, touches_of_erase (by simp [zoneBlocks]),
      congrArg ZoneCtl.energy after.news, after.sends.energyToZone, after.readmit⟩
  · have after := evaluates_rideState x (modMail (fun m => { m with rideToZone := rest }) s)
    exact ⟨_, exec_rideDeliveryZone sent (by simpa using other), touches_of_erase (by simp [zoneBlocks]),
      congrArg ZoneCtl.ride after.news, after.sends.rideToZone, after.readmit⟩
  · have after := evaluates_conserve x (modMail (fun m => { m with rideToZone := rest }) s)
    exact ⟨_, exec_rideDeliveryZone sent (by simp), touches_of_erase (by simp [zoneBlocks]),
      congrArg ZoneCtl.conserve after.news, after.sends.rideToZone, after.readmit⟩
  · have after := evaluates_conserve x
      (modMail (fun m => { m with rideToZone := .state .bridging :: rest }) s)
    exact ⟨_, exec_rideDeliveryZone_past sent, congrArg ZoneCtl.conserve after.news, after.sends.rideToZone⟩

end Sys2Proof.Machine

namespace Sys2Proof.Machine

/-! ## A run of the arbiter against its limits (R63 to R65) -/

/-! ### Eligibility -/

theorem eligible_iff (s : State) (z : Nat) : eligible s z = true ↔
    feedReady s z = true ∧ groupsClear s z = true ∧ isRunning (zoneAt s z).retry = false ∧
      (zoneAt s z).disablePending = false ∧ feedRoom s z = true ∧ linkBars s z = false := by
  unfold eligible ineligible
  cases feedReady s z <;> cases groupsClear s z <;> cases isRunning (zoneAt s z).retry <;>
    cases (zoneAt s z).disablePending <;> cases feedRoom s z <;> cases linkBars s z <;> simp

theorem feedReady_iff (s : State) (z : Nat) : feedReady s z = true ↔
    (nodeCfg s (zoneCfg s z).feedEntry).inUse = true ∧
      (nodeCfg s (zoneCfg s z).feedEntry).kind = .feed ∧
      ((nodeAt s (zoneCfg s z).feedEntry).state = .active ∨
        (nodeAt s (zoneCfg s z).feedEntry).state = .degraded) := by
  simp only [feedReady, Bool.and_eq_true, Bool.or_eq_true, beq_iff_eq, and_assoc]

theorem groupsClear_iff (s : State) (z : Nat) : groupsClear s z = true ↔
    ∀ x < 8, groupHolds s x z = true → groupAt s x = .clear := by
  simp only [groupsClear, allGroups, List.all_eq_true, List.mem_range, Bool.or_eq_true, Bool.not_eq_true',
    beq_iff_eq]
  refine forall₂_congr fun x _ => ?_
  cases groupHolds s x z <;> simp [groupAt]

theorem feedRoom_iff (s : State) (z : Nat) : feedRoom s z = true ↔
    (segAt s (feedSegment s z)).state ≠ .disabled ∧
      ((segAt s (feedSegment s z)).queue.length < 20 ∨ (segAt s (feedSegment s z)).queue.any
        (isFeedSet (zoneCfg s z).feedEntry (zoneCfg s z).output true) = true) ∧
      (segAt s (feedSegment s z)).queue.any
        (isFeedSet (zoneCfg s z).feedEntry (zoneCfg s z).output false) = false := by
  simp only [feedRoom, controlRoom, feedSegment, Bool.and_eq_true, Bool.or_eq_true, bne_iff_ne,
    Bool.not_eq_true', decide_eq_true_eq, and_assoc]

theorem linkBars_iff (s : State) (z : Nat) : linkBars s z = true ↔
    s.zc.link = .autonomous ∧ s.zc.action = .shed ∧ s.zc.shedTier ≤ (zoneCfg s z).tier := by
  simp only [linkBars, Bool.and_eq_true, beq_iff_eq, decide_eq_true_eq, and_assoc]

/-- R64: the six conditions. -/
theorem eligible_iff_mayBeGranted (s : State) (z : Nat) : eligible s z = true ↔ MayBeGranted s z := by
  rw [eligible_iff, feedReady_iff, groupsClear_iff, feedRoom_iff, ← Bool.not_eq_true (linkBars s z),
    linkBars_iff]
  exact Iff.rfl

/-- R3 to R5: the join of an enable gives no room to another: a queue in which a FEED_SET finds none holds
its disable, which no enable removes, or is full, and then no enable joins it. -/
theorem controlRoom_joined {s : State} {i k o : Nat} {e : Exchange} {g : Segment} (he : IsEnable e)
    (law : LawfulSegment g) (full : controlRoom g k o = false) : controlRoom (joined s i e g) k o = false := by
  cases state : g.state with
  | disabled => rw [joined_of_disabled s i e state]; exact full
  | idle =>
    obtain ⟨-, ⟨-, empty, -⟩, -⟩ := law
    have none : g.queue = [] := empty (by rw [state]; decide)
    simp [controlRoom, state, none] at full
  | exchange =>
    rw [joined_of_exchange s i e state]
    have outcome := offerTo_outcome e g.queue
    generalize offerTo e g.queue = o' at outcome
    cases outcome with
    | refused => exact full
    | stands => exact full
    | joins room =>
      obtain ⟨target, output, rfl⟩ := he
      have space : g.queue.length < 20 := of_decide_eq_true room
      simp only [controlRoom, state, space, decide_true, Bool.true_or, Bool.and_true, Bool.not_eq_false',
        show (SegState.exchange != SegState.disabled) = true from rfl, Bool.true_and] at full
      obtain ⟨x, hx, off⟩ := List.any_eq_true.mp full
      have still : (joinTail (feedExchange target output true) g.queue).any (isFeedSet k o false) = true :=
        List.any_eq_true.mpr ⟨x, mem_joinTail.mpr (.inr hx), off⟩
      simp [controlRoom, still]
    | replaces output kind =>
      obtain ⟨_, _, rfl⟩ := he
      simp [feedExchange] at kind

/-- R64: a grant makes no other zone eligible. -/
theorem not_eligible_grantOf {s : State} (law : SegmentLaw s) {x z : Nat} (goes : Goes s z)
    (barred : eligible s x = false) : eligible (grantOf z s) x = false := by
  have works : WorksOn (fun _ => False) s (grantOf z s) := .grantOf goes
  have other : z ≠ x := fun same => by
    have may := goes.eligible
    rw [same, barred] at may
    cases may
  have record : zoneAt (grantOf z s) x = zoneAt s x := by
    rw [zoneAt_grantOf, if_neg fun same => other same.1]
  rw [Bool.eq_false_iff] at barred ⊢
  refine fun may => barred ?_
  rw [eligible_iff, record] at may
  obtain ⟨ready, clear, retry, free, room, link⟩ := may
  have tables := works.works.tables
  have nodes := works.nodes
  have leak := works.leak
  rw [eligible_iff]
  refine ⟨?_, ?_, retry, free, ?_, ?_⟩
  · simpa only [feedReady, zoneCfg, nodeCfg, nodeAt, tables, nodes] using ready
  · simpa only [groupsClear, groupHolds, tables, leak] using clear
  · have segment : feedSegment (grantOf z s) x = feedSegment s x := by
      simp only [feedSegment, nodeCfg, zoneCfg, tables]
    by_contra tight
    have room' : controlRoom (segAt (grantOf z s) (feedSegment s x)) (zoneCfg s x).feedEntry
        (zoneCfg s x).output = true := by
      rw [← segment, ← works.zoneCfg x]
      exact room
    rw [segAt_grantOf] at room'
    split at room'
    · have lawful : LawfulSegment (segAt s (feedSegment s x)) := by
        by_cases hi : feedSegment s x < 4
        · exact law _ hi
        · rw [segAt_of_le s (Nat.le_of_not_lt hi)]
          exact ⟨⟨by decide, by decide, .nil, .nil, nofun⟩, ⟨by decide, fun _ => rfl, by decide⟩, nofun⟩
      have full := controlRoom_joined (s := s) (i := feedSegment s z) (e := enableOf s z) ⟨_, _, rfl⟩ lawful
        (Bool.eq_false_iff.mpr tight)
      rw [full] at room'
      cases room'
    · exact tight room'
  · have held : told (grantOf z s) = told s := works.told
    have link' : (grantOf z s).zc.link = s.zc.link := by simpa only [told] using congrArg ZoneCtl.link held
    have action : (grantOf z s).zc.action = s.zc.action := by
      simpa only [told] using congrArg ZoneCtl.action held
    have tier : (grantOf z s).zc.shedTier = s.zc.shedTier := by
      simpa only [told] using congrArg ZoneCtl.shedTier held
    unfold linkBars zoneCfg at link ⊢
    rwa [tables, link', action, tier] at link

/-! ### The slot count and available power -/

/-- The length of a filtered list, where the test changes at one member. -/
theorem length_filter_change {l : List Nat} (once : l.Nodup) {z : Nat} (hz : z ∈ l) {p q : Nat → Bool}
    (same : ∀ y, y ≠ z → q y = p y) :
    (l.filter q).length + (if p z then 1 else 0) = (l.filter p).length + (if q z then 1 else 0) := by
  induction l with
  | nil => cases hz
  | cons a rest ih =>
    obtain ⟨fresh, once⟩ := List.nodup_cons.mp once
    by_cases here : a = z
    · subst here
      have tail : rest.filter q = rest.filter p :=
        List.filter_congr fun y hy => same y fun at' => fresh (at' ▸ hy)
      rw [List.filter_cons, List.filter_cons, tail]
      cases p a <;> cases q a <;> simp
    · have later : z ∈ rest := (List.mem_cons.mp hz).resolve_left (Ne.symm here)
      have rest' := ih once later
      rw [List.filter_cons, List.filter_cons, same a here]
      cases p a
      · exact rest'
      · simp only [if_true, List.length_cons]
        omega

/-- R63: the count of the INRUSH zones, where one zone changes. -/
theorem inrushCount_change {s t : State} {z : Nat} (hz : z < 32)
    (others : ∀ y, y ≠ z → ((zoneAt t y).state = .inrush ↔ (zoneAt s y).state = .inrush)) :
    inrushCount t + (if (zoneAt s z).state = .inrush then 1 else 0) =
      inrushCount s + (if (zoneAt t z).state = .inrush then 1 else 0) := by
  have change := length_filter_change (l := allZonesDown) (p := zoneIs s .inrush) (q := zoneIs t .inrush)
    (List.nodup_reverse.mpr List.nodup_range) (List.mem_reverse.mpr (List.mem_range.mpr hz)) fun y hy => by
      rw [zoneIs_eq_decide, zoneIs_eq_decide]
      exact decide_eq_decide.mpr (others y hy)
  simpa only [zoneIs_eq_decide, decide_eq_true_eq, inrushCount, inrushZones] using change

/-- The sum over a list, where one term rises. -/
theorem sum_map_rise {l : List Nat} (once : l.Nodup) {z k : Nat} {f g : Nat → Nat}
    (same : ∀ y, y ≠ z → g y = f y) (rise : g z ≤ f z + k) : (l.map g).sum ≤ (l.map f).sum + k := by
  induction l with
  | nil => exact Nat.zero_le _
  | cons a rest ih =>
    obtain ⟨fresh, once⟩ := List.nodup_cons.mp once
    rw [List.map_cons, List.map_cons, List.sum_cons, List.sum_cons]
    by_cases here : a = z
    · subst here
      have tail : rest.map g = rest.map f :=
        List.map_congr_left fun y hy => same y fun at' => fresh (at' ▸ hy)
      rw [tail]
      omega
    · have rest' := ih once
      rw [same a here]
      omega

/-- R65: the effective inrush bounds what a zone's grant adds. -/
theorem allotment_le (s : State) (z : Nat) : allotment s z ≤ effectiveInrush (zoneCfg s z) := by
  unfold allotment effectiveInrush
  dsimp only
  split
  · split
    all_goals omega
  · exact Nat.zero_le _

/-- R49: committed power, once the Capacity Unit has been told of an allotment. -/
theorem committed_tellZoneChange {old new : ZoneState}
    (alters : (countsAllotment old || countsAllotment new) = true)
    (z : Nat) (s : State) :
    (tellZoneChange z old new s).cap.committed = committedSum (tellZoneChange z old new s) := by
  have tables : (tellZoneChange z old new s).tables = s.tables :=
    ((Works.refl s).tellZoneChange z old new).tables
  have sum : committedSum (tellZoneChange z old new s) = committedSum s :=
    committedSum_congr fun y _ => allotment_congr (zoneCfg_congr (by rw [tables]) y)
      (by rw [zoneAt_congr (tellZoneChange_zc z old new s)])
  rw [sum]
  unfold tellZoneChange
  rw [if_pos alters]
  have quiet : (recomputeCommitted s).cap =
      (evaluateCapacity (modCap (fun c => { c with committed := committedSum s }) s)).cap :=
    touches_of_erase (bs := [.mail]) (by simp [recomputeCommitted]) .cap (by decide)
  show (recomputeCommitted s).cap.committed = _
  rw [quiet, committed_evaluateCapacity]
  rfl

/-- R63, R65: within the slot count and available power, as the Capacity Unit holds them. -/
structure WithinLimits (s : State) : Prop where
  slots : inrushCount s ≤ slotCount s
  power : committedSum s ≤ s.cap.available
  committed : s.cap.committed = committedSum s

theorem inrushCount_grantOf {s : State} {z : Nat} (hz : z < 32) :
    inrushCount (grantOf z s) + (if (zoneAt s z).state = .inrush then 1 else 0) = inrushCount s + 1 := by
  have change := inrushCount_change (s := s) (t := grantOf z s) hz fun y hy => by
    rw [zoneAt_grantOf, if_neg fun same => hy same.1.symm]
  have here : (zoneAt (grantOf z s) z).state = .inrush := by
    rw [zoneAt_grantOf, if_pos ⟨rfl, hz⟩]
    rfl
  rwa [if_pos here] at change

theorem available_grantOf (z : Nat) (s : State) : (grantOf z s).cap.available = s.cap.available := by
  have same : shown (grantOf z s) = shown s := by simp [grantOf, grantZone, dequeueZone]
  exact congrArg Shown.available same

/-- R63, R65: a grant keeps the limits, whatever it found. -/
theorem withinLimits_grantOf {s : State} {z : Nat} (hz : z < 32) (goes : Goes s z) :
    WithinLimits (grantOf z s) where
  slots := by
    have admits := goes.admits
    simp only [admissionOpen, Bool.and_eq_true, decide_eq_true_eq] at admits
    have grown := inrushCount_grantOf (s := s) hz
    have slots : slotCount (grantOf z s) = slotCount s := (WorksOn.grantOf (Z := fun _ => False) goes).setting _
    rw [slots]
    omega
  power := by
    have room := fits_iff.mp goes.room
    have tables := grantOf_tables z s
    have config (y : Nat) : zoneCfg (grantOf z s) y = zoneCfg s y := zoneCfg_congr (by rw [tables]) y
    have rise : committedSum (grantOf z s) ≤ committedSum s + effectiveInrush (zoneCfg s z) := by
      refine sum_map_rise List.nodup_range (z := z) (fun y hy => allotment_congr (config y) ?_) ?_
      · rw [zoneAt_grantOf, if_neg fun same => hy same.1.symm]
      · have bound := allotment_le (grantOf z s) z
        rw [config] at bound
        omega
    rw [available_grantOf]
    exact rise.trans room
  committed := committed_tellZoneChange (by rfl) z _

/-- R65: what holds of the first grant, and is kept by the grants after it, holds after a run that does not
rest at once. -/
theorem runArbiter_from_first {P : State → Prop} {s : State} {z : Nat} (goes : Goes s z)
    (first : P (grantOf z s)) (grant : ∀ t y, P t → Goes t y → P (grantOf y t)) : P (runArbiter s) := by
  rw [runArbiter_of_goes goes]
  exact runArbiter_induct grant first

/-- What stands before the first that meets `p` does not meet it. -/
theorem barred_of_takeWhile {p : Nat → Bool} {l : List Nat} {x y : Nat} (found : l.find? p = some y)
    (hx : x ∈ l.takeWhile (fun x => x != y)) : p x = false := by
  induction l with
  | nil => cases hx
  | cons a rest ih =>
    cases meets : p a with
    | true =>
      obtain rfl : a = y := by simpa [List.find?_cons, meets] using found
      simp at hx
    | false =>
      rw [List.find?_cons, meets] at found
      rw [List.takeWhile_cons] at hx
      split at hx
      · rcases List.mem_cons.mp hx with rfl | hx
        · exact meets
        · exact ih found hx
      · cases hx

/-- What a run that grants keeps to. -/
structure RunKeeps (u : State) (y : Nat) (t : State) : Prop where
  lists : ZoneListsLaw t
  segments : SegmentLaw t
  within : WithinLimits t
  available : t.cap.available = u.cap.available
  left : y ∉ t.zc.queue
  passed : ∀ x ∈ u.zc.queue.takeWhile (fun x => x != y),
    eligible t x = false ∧ x ∈ t.zc.queue ∧ zoneAt t x = zoneAt u x

/-- A grant leaves the zones that are not eligible where they are. -/
theorem passed_grantOf {s : State} (law : SegmentLaw s) {x z : Nat} (goes : Goes s z)
    (barred : eligible s x = false) (queued : x ∈ s.zc.queue) : eligible (grantOf z s) x = false ∧
      x ∈ (grantOf z s).zc.queue ∧ zoneAt (grantOf z s) x = zoneAt s x := by
  have other : x ≠ z := fun same => by
    have may := goes.eligible
    rw [← same, barred] at may
    cases may
  refine ⟨not_eligible_grantOf law goes barred, ?_, ?_⟩
  · rw [grantOf_queue]
    exact List.mem_filter.mpr ⟨queued, by simpa using other⟩
  · rw [zoneAt_grantOf, if_neg fun same => other same.1.symm]

theorem zoneLists_grantOf {s : State} (law : ZoneListsLaw s) {z : Nat} (goes : Goes s z) :
    ZoneListsLaw (grantOf z s) :=
  zoneLists_grantZone (zoneLists_join law _ _) (by rw [joinSegment_state]; exact goes.queued)

theorem segmentLaw_grantOf {s : State} (law : SegmentLaw s) {z : Nat} (goes : Goes s z) :
    SegmentLaw (grantOf z s) :=
  (WorksOn.grantOf (Z := fun _ => False) goes).works.segmentLaw law

theorem runKeeps_runArbiter {u : State} {y : Nat} (lists : ZoneListsLaw u) (law : SegmentLaw u)
    (goes : Goes u y) : RunKeeps u y (runArbiter u) := by
  refine runArbiter_from_first goes ⟨zoneLists_grantOf lists goes, segmentLaw_grantOf law goes,
    withinLimits_grantOf (queued_of_mem lists goes.queued).1 goes, available_grantOf y u, ?_, fun x hx => ?_⟩
    fun t z keeps next => ⟨zoneLists_grantOf keeps.lists next, segmentLaw_grantOf keeps.segments next,
      withinLimits_grantOf (queued_of_mem keeps.lists next.queued).1 next,
      (available_grantOf z t).trans keeps.available, ?_, fun x hx => ?_⟩
  · rw [grantOf_queue]
    simp
  · have queued : x ∈ u.zc.queue := (List.takeWhile_sublist _).subset hx
    have barred : eligible u x = false := barred_of_takeWhile goes.found hx
    exact passed_grantOf law goes barred queued
  · rw [grantOf_queue]
    exact fun queued => keeps.left (List.mem_filter.mp queued).1
  · obtain ⟨barred, queued, record⟩ := keeps.passed x hx
    obtain ⟨barred', queued', record'⟩ := passed_grantOf keeps.segments next barred queued
    exact ⟨barred', queued', record'.trans record⟩

/-- R63, R65: a run that starts with one slot left makes one grant. -/
theorem runArbiter_of_last {u : State} {y : Nat} (lists : ZoneListsLaw u) (goes : Goes u y)
    (last : slotCount u = inrushCount u + 1) : runArbiter u = grantOf y u := by
  obtain ⟨hy, state⟩ := queued_of_mem lists goes.queued
  have grown := inrushCount_grantOf (s := u) hy
  rw [if_neg (by rw [state]; decide)] at grown
  have slots : slotCount (grantOf y u) = slotCount u := (WorksOn.grantOf (Z := fun _ => False) goes).setting _
  rw [runArbiter_of_goes goes]
  refine runArbiter_of_closed ?_
  have full : decide (inrushCount (grantOf y u) < slotCount (grantOf y u)) = false :=
    decide_eq_false (by omega)
  rw [admissionOpen, full, Bool.and_false]

/-- R63 to R66: a run of the arbiter that does not rest at once. -/
theorem runArbiter_grantsFirst {u : State} {y : Nat} (lists : ZoneListsLaw u) (law : SegmentLaw u)
    (goes : Goes u y) :
    zoneAt (runArbiter u) y = granted (zoneAt u y) ∧ y ∉ (runArbiter u).zc.queue ∧
      Carries (segAt (runArbiter u) (feedSegment u y))
        (isFeedSet (zoneCfg u y).feedEntry (zoneCfg u y).output true) ∧
      (∀ x < 32, x ∉ u.zc.queue → zoneAt (runArbiter u) x = zoneAt u x) ∧
      RunKeeps u y (runArbiter u) := by
  have keeps := runKeeps_runArbiter lists law goes
  have run : WorksOn (fun _ => False) u (runArbiter u) := (WorksOn.refl u).runArbiter
  rcases run.others y (queued_of_mem lists goes.queued).1 id with spared | ⟨from', stands⟩
  · exact absurd (spared.queue.mpr goes.queued) keeps.left
  · exact ⟨from'.record, keeps.left, (stands nofun).2, fun x hx out => (run.spared hx id out).record, keeps⟩

theorem retryExpired_eq {z : Fin 32} {s u : State} {d : Nat} (timer : (zoneAt s z).retry = .running d)
    (hu : u = modZone z (fun r => { r with retry := .stopped }) (atTime d s)) :
    exec (.retryTimerExpiry z) s = .next (runArbiter u) := by
  rw [exec_retryTimerExpiry timer, hu]
  rfl

/-- Settles O33: the run is a chain of grants, each within the slot count and available power; a grant makes
no other zone eligible, so that the zones passed over stay, and the run ends at rest. -/
theorem arbiterGrantsTheFirstThatFits : Obligations.ArbiterGrantsTheFirstThatFits := by
  unfold Obligations.ArbiterGrantsTheFirstThatFits
  refine ⟨eligible_iff_mayBeGranted, fun z d s u lists law timer hu => ⟨fun rests => ?_, fun goes y found => ?_⟩⟩
  · rw [retryExpired_eq timer hu, runArbiter_of_rests rests]
  · have lists' : ZoneListsLaw u := hu ▸ zoneLists_mark (s := atTime d s) lists z fun _ => rfl
    have law' : SegmentLaw u := hu ▸ law
    obtain ⟨admits, room⟩ := goes_of_not_rests found goes
    have first : Goes u y := ⟨admits, found, room⟩
    obtain ⟨record, left, carries, others, keeps⟩ := runArbiter_grantsFirst lists' law' first
    have touches : Touches (.now :: zoneBlocks) s (runArbiter u) :=
      touches_of_erase (by rw [hu]; simp [zoneBlocks])
    have tables : u.tables = s.tables := by rw [hu]; rfl
    have cap : u.cap = s.cap := by rw [hu]; rfl
    have config : zoneCfg u y = zoneCfg s y := zoneCfg_congr (by rw [tables]) y
    have segment : feedSegment u y = (nodeCfg s (zoneCfg s y).feedEntry).segment := by
      simp only [feedSegment, nodeCfg, config, tables]
    have slots : slotCount u = slotCount s := by simp only [slotCount, setting, tables]
    rw [segment, config] at carries
    refine ⟨_, retryExpired_eq timer hu, touches, rests_runArbiter u, record, left, carries,
      keeps.within.slots, keeps.within.power, keeps.within.committed, by rw [keeps.available, cap],
      fun x hx => (keeps.passed x hx).2, others, fun last => ?_⟩
    rw [← slots] at last
    rw [runArbiter_of_last lists' first last]
    refine ⟨grantOf_queue y u, fun x _ other => ?_⟩
    rw [zoneAt_grantOf, if_neg fun same => other same.1.symm]

end Sys2Proof.Machine

namespace Sys2Proof.Machine

/-! ## A zone while the outcome of an exchange is handed on (R9, R10, R66) -/

/-- The segment holds the same exchanges, and stands in the same state. -/
def SameWire (g g' : Segment) : Prop :=
  g'.queue = g.queue ∧ g'.state = g.state ∧ g'.current = g.current

theorem SameWire.of_eq {g g' : Segment} (h : g' = g) : SameWire g g' := by
  subst h
  exact ⟨rfl, rfl, rfl⟩

theorem SameWire.trans {g g' g'' : Segment} (h : SameWire g g') (h' : SameWire g' g'') : SameWire g g'' :=
  ⟨h'.1.trans h.1, h'.2.1.trans h.2.1, h'.2.2.trans h.2.2⟩

theorem SameWire.stands {g g' : Segment} (h : SameWire g g') {p : Exchange → Bool} (stands : Stands g p) :
    Stands g' p := by
  obtain ⟨queue, state, current⟩ := h
  unfold Stands Carries at stands ⊢
  rwa [queue, state, current]

theorem sameWire_modSeg {i : Nat} {f : Segment → Segment} (hf : ∀ g, SameWire g (f g)) (s : State) (j : Nat) :
    SameWire (segAt s j) (segAt (modSeg i f s) j) := by
  rw [segAt_modSeg]
  split
  next here => exact here.1 ▸ hf _
  · exact .of_eq rfl

/-- R10, R14: the end of a POLL takes the marks of its segment alone. -/
theorem sameWire_pollEnded (i : Nat) (c : Current) (s : State) (j : Nat) :
    SameWire (segAt s j) (segAt (pollEnded i c s) j) := by
  unfold pollEnded
  dsimp only
  have tested (u : State) (h : SameWire (segAt s j) (segAt u j)) :
      SameWire (segAt s j) (segAt (firstScanTest false i u) j) := by
    obtain ⟨x, segs⟩ := firstScanTest_segs false i u
    rw [segAt_congr segs]
    exact h.trans (sameWire_modSeg (f := fun g => { g with firstScan := x }) (fun _ => ⟨rfl, rfl, rfl⟩) u j)
  refine tested _ ?_
  split
  · exact .of_eq rfl
  · exact sameWire_modSeg (f := fun g => { g with polled := put g.polled c.ex.target true })
      (fun _ => ⟨rfl, rfl, rfl⟩) s j

/-- The zones stand as they did, and so do the queues and wires. -/
structure Trails (s t : State) : Prop where
  zc : t.zc = s.zc
  tables : t.tables = s.tables
  leak : t.leak = s.leak
  wires : ∀ j, SameWire (segAt s j) (segAt t j)
  flags : ∀ f, inFlagSet s.port.flags f = true → inFlagSet t.port.flags f = true

theorem Trails.trans {s t u : State} (h : Trails s t) (h' : Trails t u) : Trails s u where
  zc := h'.zc.trans h.zc
  tables := h'.tables.trans h.tables
  leak := h'.leak.trans h.leak
  wires j := (h.wires j).trans (h'.wires j)
  flags f hf := h'.flags f (h.flags f hf)

theorem trails_of_erase {s t : State}
    (flags : ∀ f, inFlagSet s.port.flags f = true → inFlagSet t.port.flags f = true)
    (same : erase [.port, .nodes] t = erase [.port, .nodes] s) : Trails s t where
  zc := touches_of_erase same .zc (by decide)
  tables := touches_of_erase same .tables (by decide)
  leak := touches_of_erase same .leak (by decide)
  wires j := .of_eq (segAt_congr (touches_of_erase same .segs (by decide)) j)
  flags := flags

/-- R10: with no FEED_SET on the wire, what its owner is told leaves the zones and the queues alone. -/
theorem trails_tellGood {i : Nat} (hi : i < 4) {c : Current} (reply : Frame) (s : State)
    (other : ∀ output on, c.ex.kind ≠ .feedSet output on) : Trails s (tellGood i c reply s) := by
  have flags := (handsOn_tellGood hi c reply s).flags
  unfold tellGood at flags ⊢
  split at flags
  · have touches := touches_of_erase (erase_pollEnded (bs := [.segs, .mail]) i c s (by decide) (by decide))
    exact ⟨touches .zc (by decide), touches .tables (by decide), touches .leak (by decide),
      sameWire_pollEnded i c s, flags⟩
  next output on kind => exact absurd kind (other output on)
  · split at flags
    all_goals exact trails_of_erase flags (by simp)

/-! ### From the reports of the outputs to the end of the handling -/

/-- From `s` on, zone `z` is spared or granted, and what is switched off, or enabled, stays so. -/
structure Ends (z : Nat) (s t : State) : Prop where
  zone : Spared s t z ∨ (GrantedFrom s t z ∧ Carries (segAt t (feedSegment s z))
    (isFeedSet (zoneCfg s z).feedEntry (zoneCfg s z).output true))
  enable : Stands (segAt s (feedSegment s z)) (isFeedSet (zoneCfg s z).feedEntry (zoneCfg s z).output true) →
    Carries (segAt t (feedSegment s z)) (isFeedSet (zoneCfg s z).feedEntry (zoneCfg s z).output true)
  off : ∀ entry output, OffOrOwed s z entry output → SwitchedOff t z entry output
  flags : ∀ f, inFlagSet s.port.flags f = true → inFlagSet t.port.flags f = true

theorem feedSegment_congr {s t : State} (tables : t.tables = s.tables) (z : Nat) :
    feedSegment t z = feedSegment s z := by
  simp only [feedSegment, zoneCfg, nodeCfg, tables]

theorem GrantedFrom.congr {s s' t : State} {z : Nat} (h : GrantedFrom s' t z) (tables : s'.tables = s.tables)
    (leak : s'.leak = s.leak) (news : told s' = told s) (spared : Spared s s' z) : GrantedFrom s t z where
  queued := spared.queue.mp h.queued
  left := h.left
  grantable := grantable_congr tables leak news spared.record h.grantable
  record := by rw [h.record, spared.record]

namespace Ends

variable {s t u : State} {z : Nat}

theorem of_worksOn {Z : Nat → Prop} (h : WorksOn Z s t) (hz : z < 32) (free : ¬Z z)
    (apart : ∀ y, Z y → disableOf s y ≠ disableOf s z) (e : Ends z t u) : Ends z s u := by
  have tables := h.works.tables
  have seg := feedSegment_congr tables z
  have cfg := h.zoneCfg z
  refine ⟨?_, fun stands => ?_, fun entry output off => e.off entry output (offOrOwed_of_worksOn h hz free off),
    fun f hf => e.flags f (h.works.flags f hf)⟩
  · have enable := e.enable
    have zone := e.zone
    rw [seg, cfg] at enable zone
    rcases h.others z hz free with first | ⟨first, stands⟩
    · rcases zone with second | ⟨second, carries⟩
      · exact .inl (first.trans second)
      · exact .inr ⟨second.congr tables h.leak h.told first, carries⟩
    · rcases zone with second | ⟨second, -⟩
      · exact .inr ⟨⟨first.queued, fun queued => first.left (second.queue.mp queued), first.grantable,
          second.record.trans first.record⟩, enable (stands apart)⟩
      · exact absurd second.queued first.left
  · have enable := e.enable
    rw [seg, cfg] at enable
    exact enable (enable_stands (h.joins _) apart stands)

theorem of_trails (h : Trails s t) (e : Ends z t u) : Ends z s u := by
  have seg := feedSegment_congr h.tables z
  have cfg : zoneCfg t z = zoneCfg s z := zoneCfg_congr (by rw [h.tables]) z
  obtain ⟨zone, enable, off, flags⟩ := e
  rw [seg, cfg] at zone enable
  have same : Spared s t z := ⟨zoneAt_congr h.zc z, by rw [h.zc]⟩
  refine ⟨zone.imp same.trans (And.imp_left fun granted => ?_), fun stands => enable ((h.wires _).stands stands),
    fun entry output owes => off entry output (owes.imp (fun owed => ?_) fun stands => ?_),
    fun f hf => flags f (h.flags f hf)⟩
  · exact granted.congr h.tables h.leak (by rw [told, told, h.zc]) same
  · rwa [same.record]
  · simp only [nodeCfg, h.tables]
    exact (h.wires _).stands stands

end Ends

/-- R6: what stands in the queue of a segment goes on the wire, or stays, when it returns to IDLE. -/
theorem stands_handedBack {i j : Nat} {s : State} {p : Exchange → Bool}
    (held : HeldSegment (segAt s i)) (stands : Stands (segAt s j) p) : Stands (segAt (handedBack i s) j) p := by
  unfold handedBack
  rw [segAt_modSeg]
  split
  next h =>
    obtain ⟨rfl, -⟩ := h
    have queued : (segAt s i).queue.any p = true := by
      rcases stands.2 with h | h
      · exact h
      · simp [held.current] at h
    refine ⟨?_, carries_arbitrated s i (.inl queued)⟩
    cases queue : (segAt s i).queue with
    | nil => simp [queue] at queued
    | cons e rest => rw [arbitrated_of_cons s i (by rfl) (by rfl)]; simp
  · exact stands

/-- R6, R66: the segment returns to IDLE, and the arbiter runs for what leaves its queue. -/
theorem ends_returnToIdle {i z : Nat} {s : State} (held : HeldSegment (segAt s i)) (hz : z < 32) :
    Ends z s (returnToIdle i s) := by
  have hi : i < 4 := lt_of_state_ne_disabled (by rw [held.state]; simp)
  have run : WorksOn (fun _ => False) (handedBack i s) (returnToIdle i s) := by
    rw [returnToIdle_eq i s hi]
    exact (WorksOn.refl _).afterDeparture _
  refine ⟨?_, fun stands => (enable_stands (run.joins _) nofun (stands_handedBack held stands)).2,
    fun entry output off => off.returnToIdle held, run.works.flags⟩
  rcases run.others z hz id with spared | ⟨granted, stands⟩
  · exact .inl ⟨spared.record, spared.queue⟩
  · exact .inr ⟨granted.congr rfl rfl rfl ⟨rfl, Iff.rfl⟩, (stands nofun).2⟩

/-! ## The reports of a FEED entry's reply (R41) -/

/-- R41: the zones of an entry's outputs, but one. -/
def BesideOutput (s : State) (k output y : Nat) : Prop :=
  (zoneCfg s y).feedEntry = k ∧ (zoneCfg s y).output ≠ output

/-- R27: of an item's code one item is taken. -/
theorem find_itemsTaken {k : NodeKind} {payload : List Byte} {x : Item} (taken : x ∈ itemsTaken k payload) :
    (itemsTaken k payload).find? (fun y => y.code == x.code) = some x := by
  have once : ((itemsTaken k payload).map Item.code).Nodup := List.pairwise_map.mpr (pairwise_lastOfEach _)
  cases found : (itemsTaken k payload).find? (fun y => y.code == x.code) with
  | none => simpa using List.find?_eq_none.mp found x taken
  | some y =>
    have same : y.code = x.code := by simpa using List.find?_some found
    rw [List.inj_on_of_nodup_map once (List.mem_of_find?_eq_some found) taken same]

/-- R41: the report of one output. -/
def outputReport (taken : List Item) (output : Nat) : Option (Nat × Nat) :=
  (taken.find? (fun x => x.code == 16 + output)).map (fun x => (output, threeWay x.value))

theorem outputReport_fst {taken : List Item} {output : Nat} {r : Nat × Nat}
    (h : outputReport taken output = some r) : r.1 = output := by
  obtain ⟨x, -, rfl⟩ := Option.map_eq_some_iff.mp h
  rfl

/-- R27, R41: an output is reported once, with the item taken for it. -/
theorem outputReports_split {k : NodeKind} {payload : List Byte} {output : Nat} {x : Item} (outputs : output ≤ 3)
    (taken : x ∈ itemsTaken k payload) (code : x.code = 16 + output) : ∃ before after,
      outputReports (itemsTaken k payload) = before ++ (output, threeWay x.value) :: after ∧
      (∀ r ∈ before, r.1 ≠ output) ∧ ∀ r ∈ after, r.1 ≠ output := by
  have reports : outputReports (itemsTaken k payload) =
      [0, 1, 2, 3].filterMap (outputReport (itemsTaken k payload)) := rfl
  have report : outputReport (itemsTaken k payload) output = some (output, threeWay x.value) := by
    rw [outputReport, ← code, find_itemsTaken taken]
    rfl
  have member : output ∈ [0, 1, 2, 3] := by simp; omega
  obtain ⟨lower, higher, split⟩ := List.append_of_mem member
  have once : (lower ++ output :: higher).Nodup := split ▸ (by decide : [0, 1, 2, 3].Nodup)
  have absent (l : List Nat) (h : output ∉ l) :
      ∀ r ∈ l.filterMap (outputReport (itemsTaken k payload)), r.1 ≠ output := by
    intro r hr same
    obtain ⟨o, ho, found⟩ := List.mem_filterMap.mp hr
    exact h (same ▸ outputReport_fst found ▸ ho)
  rw [reports, split, List.filterMap_append, List.filterMap_cons_some report]
  have apart := List.nodup_middle.mp once
  obtain ⟨unlisted, -⟩ := List.nodup_cons.mp apart
  simp only [List.mem_append, not_or] at unlisted
  exact ⟨_, _, rfl, absent lower unlisted.1, absent higher unlisted.2⟩

/-- R41: reports of other outputs are work on the zones of other outputs. -/
theorem worksOn_zoneReports {k output : Nat} {s : State} {l : List (Nat × Nat)} (other : ∀ r ∈ l, r.1 ≠ output)
    {u : State} (tables : u.tables = s.tables) :
    WorksOn (BesideOutput s k output) u (l.foldl (zoneReport k) u) := by
  induction l generalizing u with
  | nil => exact .refl u
  | cons r rest ih =>
    have one : WorksOn (BesideOutput s k output) u (zoneReport k u r) := by
      refine (WorksOn.refl u).zoneReport k r fun y pair => ?_
      rw [zoneOfPair_congr tables] at pair
      obtain ⟨-, entry, named⟩ := zoneOfPair_some pair
      exact ⟨entry, named ▸ other r (.head _)⟩
    exact one.trans (ih (fun y hy => other y (.tail _ hy)) (one.works.tables.trans tables))

theorem besideOutput_apart {s : State} {k output y z : Nat} (named : (zoneCfg s z).output = output)
    (h : BesideOutput s k output y) : disableOf s y ≠ disableOf s z := by
  intro same
  simp only [disableOf, feedExchange, Exchange.mk.injEq, ExKind.feedSet.injEq] at same
  exact h.2 (by rw [← named]; simp [same])

/-! ## The reading of one output (R26, R41) -/

/-- In the handling of a reply, `u` is the state in which the reading `v` of zone `z` is taken, and `t` the
state at its end. -/
structure Reads (k output z v : Nat) (s u t : State) : Prop where
  tables : u.tables = s.tables
  leak : u.leak = s.leak
  news : told u = told s
  lists : ZoneListsLaw u
  before : Spared s u z ∨ (GrantedFrom s u z ∧ Stands (segAt u (feedSegment s z))
    (isFeedSet (zoneCfg s z).feedEntry (zoneCfg s z).output true))
  ends : Ends z (zoneReport k u (output, v)) t

/-- R41: the arbiter has run for the change of state of a FEED entry. -/
def feedChanged (k : Nat) (before : NodeRun) (s : State) : State :=
  if (nodeAt s k).state != before.state then tellConsumers k .feed (some (nodeAt s k).state) s else s

theorem worksOn_feedChanged (k : Nat) (before : NodeRun) (s : State) :
    WorksOn (fun _ => False) s (feedChanged k before s) :=
  .ite (WorksOn.refl s).runArbiter (.refl s)

theorem replyNews_of_feed {k : Nat} {s : State} (before : NodeRun) (taken : List Item)
    (feed : (nodeCfg s k).kind = .feed) :
    replyNews k before taken s = (outputReports taken).foldl (zoneReport k) (feedChanged k before s) := by
  unfold replyNews
  dsimp only
  rw [feed]
  rfl

/-- R26: what an applied TELEMETRY of a FEED entry does to the zones is in its reports. -/
theorem trails_inspectReply {k : Nat} {payload : List Byte} (poll : Bool) {s : State} (applies : Applies k false s)
    (feed : (nodeCfg s k).kind = .feed) :
    Trails ((outputReports (itemsTaken .feed payload)).foldl (zoneReport k)
        (feedChanged k (nodeAt s k) (settled k telemetryByte payload s)))
      (inspectReply k telemetryByte payload poll false s) := by
  have cfg : nodeCfg (settled k telemetryByte payload s) k = nodeCfg s k := by
    rw [nodeCfg, (works_settled k telemetryByte payload s).tables]
    rfl
  rw [inspectReply_of_applies applies]
  unfold announced
  simp only [BEq.rfl, if_true, feed, replyNews_of_feed _ _ (cfg ▸ feed)]
  generalize List.foldl _ _ _ = w
  have changed : Trails w (if (nodeAt w k).state == (nodeAt s k).state then w
      else raiseNodeChange k (some (nodeAt s k).state) (some (nodeAt w k).state) .reply w) := by
    split
    · exact trails_of_erase (fun _ h => h) rfl
    · exact trails_of_erase ((Works.refl w).raiseFlag _ _).flags (by simp)
  split
  · exact changed.trans (trails_of_erase ((Works.refl _).makeReport _ _).flags (by simp))
  · exact changed

/-- R26: the storing of the items touches no zone. -/
theorem erase_settled {bs : List Block} (k : Nat) (kind : Byte) (payload : List Byte) (s : State)
    (port : Block.port ∈ bs) (nodes : Block.nodes ∈ bs) :
    erase bs (settled k kind payload s) = erase bs s := by
  unfold settled
  simp [port, nodes]

/-- R26: the state in which the reply's items have been stored, and the arbiter has run for a change of state. -/
def storedFor (i k : Nat) (payload : List Byte) (s : State) : State :=
  feedChanged k (nodeAt (goodCounted i s) k) (settled k telemetryByte payload (goodCounted i s))

theorem worksOn_storedFor (i k : Nat) (payload : List Byte) (s : State) : ∃ v,
    v.zc = s.zc ∧ v.tables = s.tables ∧ v.leak = s.leak ∧
      WorksOn (fun _ => False) v (storedFor i k payload s) := by
  have same := touches_of_erase (s := s) (bs := [.port, .segs, .nodes])
    (t := settled k telemetryByte payload (goodCounted i s))
    ((erase_settled _ _ _ _ (by decide) (by decide)).trans (by simp [goodCounted]))
  exact ⟨_, same .zc (by decide), same .tables (by decide), same .leak (by decide), worksOn_feedChanged _ _ _⟩

theorem zoneLists_storedFor (i k : Nat) (payload : List Byte) {s : State} (lists : ZoneListsLaw s) :
    ZoneListsLaw (storedFor i k payload s) := by
  have stored : ZoneListsLaw (settled k telemetryByte payload (goodCounted i s)) :=
    zoneLists_of_erase (bs := [.port, .segs, .nodes]) lists
      ((erase_settled _ _ _ _ (by decide) (by decide)).trans (by simp [goodCounted])) (by decide)
  exact zonal_zoneLists.ite (zoneLists_runArbiter stored) stored

/-- R41: the reports of an entry before that of one output, as work on the zones of the others. -/
theorem reads_of_ends {i k output z v : Nat} {payload : List Byte} {s t : State} {l : List (Nat × Nat)}
    (lists : ZoneListsLaw s) (hz : z < 32) (named : (zoneCfg s z).output = output)
    (lower : ∀ r ∈ l, r.1 ≠ output)
    (ends : Ends z (zoneReport k (l.foldl (zoneReport k) (storedFor i k payload s)) (output, v)) t) :
    Reads k output z v s (l.foldl (zoneReport k) (storedFor i k payload s)) t := by
  obtain ⟨v, zc, tables, leak, start⟩ := worksOn_storedFor i k payload s
  have reported := (start.mono (Z' := BesideOutput s k output) nofun).trans
    (worksOn_zoneReports lower (start.works.tables.trans tables))
  have record : Spared s v z := ⟨zoneAt_congr zc z, by rw [zc]⟩
  have news : told v = told s := by rw [told, told, zc]
  refine ⟨reported.works.tables.trans tables, reported.leak.trans leak, reported.told.trans news, ?_, ?_, ends⟩
  · exact zonal_zoneLists.foldl (fun _ r => zonal_zoneLists.zoneReport k r) l
      (zoneLists_storedFor i k payload lists)
  · have cfg : zoneCfg v z = zoneCfg s z := zoneCfg_congr (by rw [tables]) z
    have stands := reported.others z hz fun beside => beside.2 named
    rw [feedSegment_congr tables, cfg] at stands
    rcases stands with spared | ⟨granted, stands⟩
    · exact .inl (record.trans spared)
    · refine .inr ⟨granted.congr tables leak news record, stands fun y beside => ?_⟩
      simp only [disableOf_congr tables]
      exact besideOutput_apart named beside

/-- R10: the outcome of a TELEMETRY is handed on, from the last report of an output to the end. -/
theorem ends_endGood {i : Fin 4} {s w : State} {c : Current} {bytes : List Byte} {f : Frame} {z : Nat}
    (current : (segAt s i).current = some c) (good : goodReply c bytes = some f)
    (telemetry : f.kind = telemetryByte) (segments : SegmentLaw s) (hz : z < 32)
    (inspected : Trails w (goodInspected i c f s)) : Ends z w (endGood i c f s) := by
  have other (o : Nat) (on : Bool) : c.ex.kind ≠ .feedSet o on := by
    intro kind
    have expected := expectsReply_of_good good
    simp [kind, expectsReply, telemetry, telemetryByte, feedAckByte] at expected
  have held := ((lawBut_goodInspected f segments current).tellGood c f).held
  rw [endGood_eq]
  exact .of_trails (inspected.trans (trails_tellGood i.isLt f _ other)) (ends_returnToIdle held hz)

/-- R26, R41: the reading of one output, in the handling of a TELEMETRY. -/
theorem endGood_reads {i : Fin 4} {s : State} {c : Current} {bytes : List Byte} {f : Frame} {output z : Nat}
    {x : Item}
    (current : (segAt s i).current = some c) (good : goodReply c bytes = some f)
    (telemetry : f.kind = telemetryByte) (fresh : c.stale = false) (lists : ZoneListsLaw s)
    (segments : SegmentLaw s)
    (inUse : (nodeCfg s c.ex.target).inUse = true) (feed : (nodeCfg s c.ex.target).kind = .feed)
    (enabled : (nodeAt s c.ex.target).state ≠ .disabled) (outputs : output ≤ 3)
    (pair : zoneOfPair s c.ex.target output = some z) (taken : x ∈ itemsTaken .feed f.payload)
    (code : x.code = 16 + output) :
    ∃ u, Reads c.ex.target output z (threeWay x.value) s u (endGood i c f s) := by
  obtain ⟨hz, -, named⟩ := zoneOfPair_some pair
  have applies : Applies c.ex.target false (goodCounted i s) := ⟨rfl, inUse, enabled⟩
  obtain ⟨lower, higher, split, below, above⟩ := outputReports_split outputs taken code
  have inspected := trails_inspectReply (payload := f.payload) (c.ex.kind == .poll) applies feed
  rw [split, List.foldl_append, List.foldl_cons] at inspected
  have ends : Ends z _ (endGood i c f s) :=
    ends_endGood current good telemetry segments hz (by rwa [goodInspected, telemetry, fresh])
  refine ⟨_, reads_of_ends (i := i) (payload := f.payload) lists hz named below ?_⟩
  obtain ⟨v, -, tables, -, start⟩ := worksOn_storedFor i c.ex.target f.payload s
  have read : (lower.foldl (zoneReport c.ex.target) (storedFor i c.ex.target f.payload s)).tables = s.tables :=
    (worksOn_zoneReports below (start.works.tables.trans tables)).works.tables.trans
      (start.works.tables.trans tables)
  have reported := read ▸ ((Works.refl _).zoneReport c.ex.target (output, threeWay x.value)).tables
  refine .of_worksOn (worksOn_zoneReports (k := c.ex.target) above reported) hz
    (fun beside => beside.2 named) (fun y beside => ?_) ends
  simp only [disableOf_congr reported]
  exact besideOutput_apart named beside

end Sys2Proof.Machine

namespace Sys2Proof.Machine

/-! ## The zone's rows for a reading (R70, R71, R73, R87) -/

theorem Ends.record {s t : State} {z : Nat} (h : Ends z s t) (unqueued : z ∉ s.zc.queue) :
    zoneAt t z = zoneAt s z := by
  rcases h.zone with spared | ⟨granted, -⟩
  · exact spared.record
  · exact absurd granted.queued unqueued

/-- R71: a zone whose attempt failed may be granted again before the handling ends. -/
theorem Ends.failed {s t : State} {z a : Nat} {locked : Bool} (h : Ends z s t) (failed : Failed z a locked s) :
    Failed z a locked t := by
  rcases h.zone with spared | ⟨granted, -⟩
  · refine ⟨?_, ?_, ?_, fun lock => ⟨?_, ?_⟩, fun admitted => ?_⟩
    · rw [spared.record, failed.attempts]
    · rw [spared.record, failed.acked]
    · rw [spared.record, failed.inrush]
    · rw [spared.record, (failed.lockout lock).1]
    · exact fun queued => (failed.lockout lock).2 (spared.queue.mp queued)
    · rw [Admitted, spared.record]
      exact failed.admitted admitted
  · refine ⟨?_, ?_, ?_, fun lock => absurd granted.queued (failed.lockout lock).2, fun _ => .inr ?_⟩
    · rw [granted.record, ← failed.attempts]
      rfl
    · rw [granted.record]
      rfl
    · rw [granted.record, ← failed.inrush]
      rfl
    · rw [granted.record]
      rfl

section
variable {k output z v : Nat} {s : State}

/-! ### The row that a reading meets -/

/-- R70, R71: a reading of an acknowledged INRUSH zone. -/
def inrushRead (z v : Nat) (s : State) : State :=
  if v = 0 then s else if v = 1 then powerGood z s else failAttempt z .trip s

theorem zoneReport_of_inrush (pair : zoneOfPair s k output = some z) (state : (zoneAt s z).state = .inrush)
    (acked : (zoneAt s z).acked = true) : zoneReport k s (output, v) = inrushRead z v s := by
  match v with
  | 0 => simp [zoneReport, pair, state, inrushRead]
  | 1 => simp [zoneReport, pair, state, acked, inrushRead]
  | v + 2 => simp [zoneReport, pair, state, acked, inrushRead]

theorem zoneReport_of_on (pair : zoneOfPair s k output = some z) (state : (zoneAt s z).state = .on) :
    zoneReport k s (output, v) = if v = 1 then s else tripZone z v s := by
  simp [zoneReport, pair, state]

theorem zoneReport_of_off (pair : zoneOfPair s k output = some z) (state : (zoneAt s z).state = .off)
    (pending : (zoneAt s z).adoptPending = true) : zoneReport k s (output, v) = adoptZone z v s := by
  simp [zoneReport, pair, state, pending]

/-- The zone stands in no row that acts on a reading. -/
def Unread (r : ZoneRun) : Prop :=
  (r.state = .inrush → r.acked = false) ∧ r.state ≠ .on ∧ (r.state = .off → r.adoptPending = false)

theorem unread_of_idle {r : ZoneRun} (h : (r.state = .inrush ∧ r.acked = false) ∨
    (r.state = .off ∧ r.adoptPending = false) ∨ r.state = .shed ∨ r.state = .isolated ∨ r.state = .lockout) :
    r.state ≠ .queued ∧ Unread r := by
  unfold Unread
  rcases h with ⟨state, flag⟩ | ⟨state, flag⟩ | state | state | state
  all_goals simp_all

theorem zoneReport_of_unread (pair : zoneOfPair s k output = some z) (unread : Unread (zoneAt s z)) :
    zoneReport k s (output, v) = s := by
  obtain ⟨inrush, on, off⟩ := unread
  cases state : (zoneAt s z).state with
  | inrush => simp [zoneReport, pair, state, inrush state]
  | on => exact absurd state on
  | off => simp [zoneReport, pair, state, off state]
  | _ => simp [zoneReport, pair, state]

/-- R70: the record of a zone that has reached ON. -/
theorem record_powerGood (hz : z < 32) (unqueued : z ∉ s.zc.queue) :
    zoneAt (powerGood z s) z = { leftRunning .on (zoneAt s z) with attempts := 0 } ∧
      z ∉ (powerGood z s).zc.queue := by
  have run : WorksOn (fun _ => False) _ (powerGood z s) :=
    ((WorksOn.refl _).tellZoneChange z .inrush .on).runArbiter
  have spared := run.spared hz id unqueued
  rw [spared.record, spared.queue, zoneAt_modZone_same hz]
  exact ⟨rfl, unqueued⟩

/-- R73: the zone has left ON and ZONE_TRIP has been raised; its disable is still to be queued. -/
def tripRaised (z v : Nat) (s : State) : State :=
  raiseFlag .zoneTrip (be1 z ++ be1 (zoneCfg s z).feedEntry ++ be1 (zoneCfg s z).output ++ be1 v)
    (modZone z (leftRunning .off) s)

/-- R73: a zone that trips. -/
theorem tripZone_leaves (hz : z < 32) (unqueued : z ∉ s.zc.queue) :
    Leaves s (tripZone z v s) z .off ∧ inFlagSet (tripZone z v s).port.flags .zoneTrip = true ∧
      z ∉ (tripZone z v s).zc.queue := by
  have zc : (tripRaised z v s).zc = (modZone z (leftRunning .off) s).zc := raiseFlag_zc _ _ _
  have leaves : Leaves s (queueDisable z (tripRaised z v s)).1 z .off := by
    refine leaves_queueDisable hz ((WorksOn.refl (Z := fun _ => False) _).raiseFlag _ _).works.tables ?_
    rw [zoneAt_congr zc]
    exact zoneAt_modZone_same hz _ s
  have unlisted : z ∉ (queueDisable z (tripRaised z v s)).1.zc.queue := by
    rw [queueDisable_queue, zc]
    exact unqueued
  have run : WorksOn (fun _ => False) (queueDisable z (tripRaised z v s)).1 (tripZone z v s) :=
    ((WorksOn.refl _).tellZoneChange z .on .off).runArbiter
  have spared := run.spared hz id unlisted
  have off : WorksOn (· = z) (tripRaised z v s) (queueDisable z (tripRaised z v s)).1 :=
    (WorksOn.refl _).queueDisable rfl
  exact ⟨leaves.spared hz run id spared, run.works.flags _ (off.works.flags _ (flag_raiseFlag _ _ _)),
    fun queued => unlisted (spared.queue.mp queued)⟩

/-- R87: what adoption leaves of a zone that it switches off. -/
structure AdoptedOff (z : Nat) (new : ZoneState) (s t : State) : Prop where
  state : (zoneAt t z).state = new
  adoptPending : (zoneAt t z).adoptPending = false
  unqueued : z ∉ t.zc.queue
  off : OffOrOwed t z (zoneCfg s z).feedEntry (zoneCfg s z).output

theorem AdoptedOff.works {new : ZoneState} {t u : State} (h : AdoptedOff z new s t) (hz : z < 32)
    (works : WorksOn (fun _ => False) t u) : AdoptedOff z new s u := by
  have spared := works.spared hz id h.unqueued
  exact ⟨by rw [spared.record, h.state], by rw [spared.record, h.adoptPending],
    fun queued => h.unqueued (spared.queue.mp queued), offOrOwed_of_worksOn works hz id h.off⟩

/-- R87: the zone has entered the state that adoption gives it; its disable is still to be queued. -/
def adoptEntered (z : Nat) (new : ZoneState) (s : State) : State :=
  if new == .shed then
    modZc (fun c => { c with readmit := c.readmit ++ [z] })
      (modZone z (fun r => { r with state := new, adoptPending := false }) s)
  else modZone z (fun r => { r with state := new, adoptPending := false }) s

theorem zoneAt_adoptEntered {new : ZoneState} (hz : z < 32) :
    zoneAt (adoptEntered z new s) z = { zoneAt s z with state := new, adoptPending := false } := by
  unfold adoptEntered
  split
  all_goals exact zoneAt_modZone_same hz (fun r => { r with state := new, adoptPending := false }) s

theorem worksOn_adoptEntered (new : ZoneState) : WorksOn (· = z) s (adoptEntered z new s) := by
  have entered := (WorksOn.refl (Z := (· = z)) s).modZone rfl fun r =>
    { r with state := new, adoptPending := false }
  exact .ite (entered.modReadmit (· ++ [z])) entered

theorem adoptEntered_queue (new : ZoneState) : (adoptEntered z new s).zc.queue = s.zc.queue := by
  unfold adoptEntered
  split <;> rfl

/-- R87: the zone's disable has been queued, and the other blocks are told. -/
def adoptTold (z : Nat) (new : ZoneState) (s : State) : State :=
  if new == .off then (queueDisable z (adoptEntered z new s)).1
  else tellZoneChange z .off new (queueDisable z (adoptEntered z new s)).1

theorem adoptOff_eq (z : Nat) (new : ZoneState) (s : State) : adoptOff z new s =
    afterDeparture (queueDisable z (adoptEntered z new s)).2
      (if new == .shed then evaluateReadmit (adoptTold z new s) else adoptTold z new s) := rfl

/-- R87: after the disable, adoption works on no other zone, where re-admission is not open for it. -/
theorem worksOn_adoptOff {new : ZoneState} (closed : new = .shed → readmitOpen s = false) :
    WorksOn (fun _ => False) (queueDisable z (adoptEntered z new s)).1 (adoptOff z new s) := by
  have told : WorksOn (fun _ => False) (queueDisable z (adoptEntered z new s)).1 (adoptTold z new s) :=
    .ite (.refl _) ((WorksOn.refl _).tellZoneChange z .off new)
  have off := (worksOn_adoptEntered (z := z) (s := s) new).queueDisable rfl
  rw [adoptOff_eq]
  refine WorksOn.afterDeparture ?_ _
  split
  next shed =>
    refine told.evaluateReadmit fun isOpen => ?_
    rw [told.readmitOpen, off.readmitOpen, closed (beq_iff_eq.mp shed)] at isOpen
    cases isOpen
  · exact told

/-- R87: a zone that adoption switches off. -/
theorem adoptOff_adopts {new : ZoneState} (hz : z < 32) (unqueued : z ∉ s.zc.queue)
    (closed : new = .shed → readmitOpen s = false) : AdoptedOff z new s (adoptOff z new s) := by
  obtain ⟨queue, owed, record⟩ := queueDisable_zone z (adoptEntered z new s) z
  rw [zoneAt_adoptEntered hz] at record
  rw [adoptEntered_queue] at queue
  have off := offOrOwed_queueDisable hz (adoptEntered z new s)
  rw [(worksOn_adoptEntered new).zoneCfg] at off
  exact AdoptedOff.works ⟨by rw [record], by rw [record], queue ▸ unqueued, off⟩ hz (worksOn_adoptOff closed)

end


/-! ## The zone's rows, over the handling of a reply -/

namespace Reads

variable {k output z v : Nat} {s u t : State}

theorem record (h : Reads k output z v s u t) (lists : ZoneListsLaw s) (unqueued : (zoneAt s z).state ≠ .queued) :
    zoneAt u z = zoneAt s z := by
  rcases h.before with spared | ⟨granted, -⟩
  · exact spared.record
  · exact absurd granted.queued (not_queued_of_state lists unqueued)

theorem unqueued (h : Reads k output z v s u t) (lists : ZoneListsLaw s)
    (unqueued : (zoneAt s z).state ≠ .queued) : z ∉ u.zc.queue :=
  not_queued_of_state h.lists (by rwa [h.record lists unqueued])

theorem zoneOf (h : Reads k output z v s u t) (pair : zoneOfPair s k output = some z) :
    zoneOfPair u k output = some z := by
  rw [zoneOfPair_congr h.tables, pair]

theorem unread (h : Reads k output z v s u t) (pair : zoneOfPair s k output = some z) (lists : ZoneListsLaw s)
    (unqueued : (zoneAt s z).state ≠ .queued) (unread : Unread (zoneAt s z)) : zoneAt t z = zoneAt s z := by
  have same := h.record lists unqueued
  have ends := h.ends
  rw [zoneReport_of_unread (h.zoneOf pair) (same ▸ unread)] at ends
  rw [ends.record (h.unqueued lists unqueued), same]

/-- R66: a QUEUED zone stays as it was, or is granted by a run of the arbiter. -/
theorem queued (h : Reads k output z v s u t) (pair : zoneOfPair s k output = some z) (lists : ZoneListsLaw s)
    (state : (zoneAt s z).state = .queued) :
    (zoneAt t z = zoneAt s z ∧ z ∈ t.zc.queue) ∨
      (zoneAt t z = granted (zoneAt s z) ∧ z ∉ t.zc.queue ∧
        Carries (segAt t (nodeCfg s k).segment) (isFeedSet k output true)) := by
  obtain ⟨hz, entry, named⟩ := zoneOfPair_some pair
  have listed : z ∈ s.zc.queue := by
    obtain ⟨-, -, -, -, queue, -⟩ := lists
    exact (queue z hz).mpr state
  have seg : feedSegment s z = (nodeCfg s k).segment := by rw [feedSegment, entry]
  have ends := h.ends
  have same : zoneReport k u (output, v) = u := by
    refine zoneReport_of_unread (h.zoneOf pair) ?_
    rcases h.before with spared | ⟨granted, -⟩
    · rw [spared.record]
      exact ⟨by simp [state], by simp [state], by simp [state]⟩
    · rw [granted.record]
      exact ⟨fun _ => rfl, nofun, nofun⟩
  rw [same] at ends
  have cfg : zoneCfg u z = zoneCfg s z := zoneCfg_congr (by rw [h.tables]) z
  have zone := ends.zone
  have enable := ends.enable
  rw [feedSegment_congr h.tables, cfg, seg, entry, named] at zone enable
  have before := h.before
  rw [seg, entry, named] at before
  rcases before with first | ⟨first, stands⟩
  · rcases zone with second | ⟨second, carries⟩
    · exact .inl ⟨(first.trans second).record, (first.trans second).queue.mpr listed⟩
    · exact .inr ⟨second.record.trans (congrArg granted first.record), second.left, carries⟩
  · rcases zone with second | ⟨second, -⟩
    · exact .inr ⟨second.record.trans first.record, fun queued => first.left (second.queue.mp queued),
        enable stands⟩
    · exact absurd second.queued first.left

/-- R70, R71: the rows of an acknowledged INRUSH zone. -/
theorem inrush (h : Reads k output z v s u t) (pair : zoneOfPair s k output = some z) (lists : ZoneListsLaw s)
    (state : (zoneAt s z).state = .inrush) (acked : (zoneAt s z).acked = true) :
    (v = 0 → zoneAt t z = zoneAt s z) ∧
    (v = 1 → zoneAt t z = { leftRunning .on (zoneAt s z) with attempts := 0 }) ∧
    (v = 2 → Failed z ((zoneAt s z).attempts + 1) ((zoneAt s z).attempts + 1 == (zoneCfg s z).lockout) t ∧
      SwitchedOff t z k output ∧ ((zoneAt s z).attempts + 1 = (zoneCfg s z).lockout →
        inFlagSet t.port.flags .zoneLockout = true)) := by
  obtain ⟨hz, entry, named⟩ := zoneOfPair_some pair
  have other : (zoneAt s z).state ≠ .queued := by rw [state]; decide
  have same := h.record lists other
  have unlisted := h.unqueued lists other
  have ends := h.ends
  rw [zoneReport_of_inrush (h.zoneOf pair) (by rw [same, state]) (by rw [same, acked])] at ends
  refine ⟨?_, ?_, ?_⟩
  · rintro rfl
    exact (Ends.record ends unlisted).trans same
  · rintro rfl
    obtain ⟨record, left⟩ := record_powerGood hz unlisted
    exact (Ends.record ends left).trans (record.trans (by rw [same]))
  · rintro rfl
    have cfg : zoneCfg u z = zoneCfg s z := zoneCfg_congr (by rw [h.tables]) z
    obtain ⟨failed, off, flag⟩ := failAttempt_fails hz .trip unlisted
    rw [same, cfg] at failed flag
    rw [cfg, entry, named] at off
    exact ⟨ends.failed failed, ends.off _ _ off, fun locked => ends.flags _ (flag locked)⟩

/-- R73: the rows of an ON zone. -/
theorem on (h : Reads k output z v s u t) (pair : zoneOfPair s k output = some z) (lists : ZoneListsLaw s)
    (state : (zoneAt s z).state = .on) :
    (v = 1 → zoneAt t z = zoneAt s z) ∧
    (v ≠ 1 → (zoneAt t z).state = .off ∧ (zoneAt t z).attempts = (zoneAt s z).attempts ∧
      inFlagSet t.port.flags .zoneTrip = true ∧ SwitchedOff t z k output) := by
  obtain ⟨hz, entry, named⟩ := zoneOfPair_some (h.zoneOf pair)
  have other : (zoneAt s z).state ≠ .queued := by rw [state]; decide
  have same := h.record lists other
  have unlisted := h.unqueued lists other
  have ends := h.ends
  rw [zoneReport_of_on (h.zoneOf pair) (by rw [same, state])] at ends
  refine ⟨?_, fun tripped => ?_⟩
  · rintro rfl
    exact (Ends.record ends unlisted).trans same
  · rw [if_neg tripped] at ends
    obtain ⟨leaves, flag, left⟩ := tripZone_leaves (v := v) hz unlisted
    have off := leaves.off
    rw [entry, named] at off
    have record := ends.record left
    refine ⟨by rw [record, leaves.state], ?_, ends.flags _ flag, ends.off _ _ off⟩
    rw [record, leaves.record, same]
    rfl

theorem leakHolds_eq (h : Reads k output z v s u t) : leakHolds u z = leakHolds s z := by
  simp only [leakHolds, groupHolds, h.tables, h.leak]

theorem epoLatch_eq (h : Reads k output z v s u t) : u.zc.epoLatch = s.zc.epoLatch :=
  show (told u).epoLatch = (told s).epoLatch from congrArg ZoneCtl.epoLatch h.news

theorem linkBars_eq (h : Reads k output z v s u t) : linkBars u z = linkBars s z := by
  have news {α : Type} (f : ZoneCtl → α) : f (told u) = f (told s) := congrArg f h.news
  have link : u.zc.link = s.zc.link := news ZoneCtl.link
  have action : u.zc.action = s.zc.action := news ZoneCtl.action
  have tier : u.zc.shedTier = s.zc.shedTier := news ZoneCtl.shedTier
  have cfg : zoneCfg u z = zoneCfg s z := zoneCfg_congr (by rw [h.tables]) z
  rw [linkBars, linkBars, cfg, link, action, tier]

/-- R86, R87: what the adoption of an OFF zone leaves. -/
theorem adopts (h : Reads k output z v s u t) (pair : zoneOfPair s k output = some z) (lists : ZoneListsLaw s)
    (state : (zoneAt s z).state = .off) (pending : (zoneAt s z).adoptPending = true) :
    Ends z (adoptZone z v u) t ∧ zoneAt u z = zoneAt s z ∧ z ∉ u.zc.queue := by
  have other : (zoneAt s z).state ≠ .queued := by rw [state]; decide
  have same := h.record lists other
  have ends := h.ends
  rw [zoneReport_of_off (h.zoneOf pair) (by rw [same, state]) (by rw [same, pending])] at ends
  exact ⟨ends, same, h.unqueued lists other⟩

/-- R87: a zone that adoption switches off stays so to the end of the handling. -/
theorem adoptedOff (h : Reads k output z v s u t) (pair : zoneOfPair s k output = some z) {new : ZoneState}
    {w : State} (adopted : AdoptedOff z new u w) (ends : Ends z w t) :
    (zoneAt t z).state = new ∧ (zoneAt t z).adoptPending = false ∧ SwitchedOff t z k output := by
  obtain ⟨-, entry, named⟩ := zoneOfPair_some (h.zoneOf pair)
  have off := adopted.off
  rw [entry, named] at off
  have record := ends.record adopted.unqueued
  exact ⟨by rw [record, adopted.state], by rw [record, adopted.adoptPending], ends.off _ _ off⟩

/-- R87: the rows of a zone found on. -/
theorem adopts_on (h : Reads k output z 1 s u t) (pair : zoneOfPair s k output = some z) (lists : ZoneListsLaw s)
    (state : (zoneAt s z).state = .off) (pending : (zoneAt s z).adoptPending = true) :
    (zoneAt t z).adoptPending = false ∧
    (leakHolds s z = true → (zoneAt t z).state = .isolated ∧ SwitchedOff t z k output) ∧
    (leakHolds s z = false → s.zc.epoLatch = true → (zoneAt t z).state = .off ∧ SwitchedOff t z k output) ∧
    (leakHolds s z = false → s.zc.epoLatch = false → linkBars s z = true →
      (zoneAt t z).state = .shed ∧ SwitchedOff t z k output) ∧
    (leakHolds s z = false → s.zc.epoLatch = false → linkBars s z = false →
      zoneAt t z = { zoneAt s z with state := .on, attempts := 0, adoptPending := false }) := by
  obtain ⟨hz, -, -⟩ := zoneOfPair_some pair
  obtain ⟨ends, same, unlisted⟩ := h.adopts pair lists state pending
  unfold adoptZone at ends
  simp only [h.leakHolds_eq, h.epoLatch_eq, h.linkBars_eq] at ends
  split at ends
  next holds =>
    obtain ⟨state, pending, off⟩ := h.adoptedOff pair (adoptOff_adopts (new := .isolated) hz unlisted nofun) ends
    simp [holds, state, pending, off]
  next free =>
  split at ends
  next latched =>
    obtain ⟨state, pending, off⟩ := h.adoptedOff pair (adoptOff_adopts (new := .off) hz unlisted nofun) ends
    simp [free, latched, state, pending, off]
  next unlatched =>
  split at ends
  next bars =>
    have closed := readmit_closed_of_linkBars (h.linkBars_eq.trans bars)
    obtain ⟨state, pending, off⟩ := h.adoptedOff pair (adoptOff_adopts hz unlisted fun _ => closed) ends
    simp [free, unlatched, bars, state, pending, off]
  next spares =>
    have record : zoneAt t z = { zoneAt s z with state := .on, attempts := 0, adoptPending := false } := by
      rw [ends.record (by rwa [tellZoneChange_zc]), zoneAt_congr (tellZoneChange_zc _ _ _ _),
        zoneAt_modZone_same hz, same]
    simp [free, unlatched, spares, record]

/-- R86, R87: the rows of a zone that awaits adoption. -/
theorem off (h : Reads k output z v s u t) (pair : zoneOfPair s k output = some z) (lists : ZoneListsLaw s)
    (state : (zoneAt s z).state = .off) (pending : (zoneAt s z).adoptPending = true) :
    (v = 0 → zoneAt t z = { zoneAt s z with adoptPending := false }) ∧
    (v = 2 → (zoneAt t z).state = .off ∧ (zoneAt t z).adoptPending = false ∧ SwitchedOff t z k output) := by
  obtain ⟨hz, -, -⟩ := zoneOfPair_some pair
  obtain ⟨ends, same, unlisted⟩ := h.adopts pair lists state pending
  refine ⟨?_, ?_⟩
  · rintro rfl
    exact (Ends.record ends unlisted).trans ((zoneAt_modZone_same hz _ u).trans (by rw [same]))
  · rintro rfl
    exact h.adoptedOff pair (adoptOff_adopts hz unlisted nofun) ends

end Reads

/-- R23: a reading above 2 reads 2. -/
theorem threeWay_cases (n : Nat) :
    (n = 0 ∧ threeWay n = 0) ∨ (n = 1 ∧ threeWay n = 1) ∨ (2 ≤ n ∧ threeWay n = 2) := by
  unfold threeWay
  omega

/-- Settles O35: the reading acts on the zone by its row; the reports of the other outputs, and what follows
them, spare the zone or grant it from the queue. -/
theorem feedReportMovesTheZone : Obligations.FeedReportMovesTheZone := by
  unfold Obligations.FeedReportMovesTheZone
  intro i s c bytes f output z x current phase good telemetry fresh _ lists segments inUse feed enabled outputs
    pair taken code r
  obtain ⟨u, reads⟩ := endGood_reads current good telemetry fresh lists segments inUse feed enabled outputs
    pair taken code
  obtain ⟨hz, -, -⟩ := zoneOfPair_some pair
  have values := threeWay_cases x.value
  generalize threeWay x.value = v at reads values
  have laws : ZoneListsLaw (endGood i c f s) := zonal_zoneLists.endGood i c f lists
  refine ⟨_, exec_replyComplete_of_good current phase good, touches_of_erase (by simp [inspectBlocks]),
    fun state acked => ?_, fun state => ?_, fun state pending => ?_, reads.queued pair lists, fun rest => ?_⟩
  · obtain ⟨none, good, failed⟩ := reads.inrush pair lists state acked
    refine ⟨fun value => none (by omega), fun value => good (by omega), fun value => ?_⟩
    obtain ⟨failed, off, flag⟩ := failed (by omega)
    exact ⟨failed.attempts, failed.acked, failed.inrush, off,
      fun locked => ⟨(failed.lockout (beq_iff_eq.mpr locked)).1, flag locked⟩,
      fun unlocked => failed.admitted (beq_eq_false_iff_ne.mpr unlocked)⟩
  · obtain ⟨same, trips⟩ := reads.on pair lists state
    exact ⟨fun value => same (by omega), fun value => trips (by omega)⟩
  · obtain ⟨none, tripped⟩ := reads.off pair lists state pending
    have on := fun (one : v = 1) => (one ▸ reads).adopts_on pair lists state pending
    refine ⟨?_, fun value => none (by omega), fun value => (on (by omega)).2.1,
      fun value => (on (by omega)).2.2.1, fun value holds latch bars => ?_, fun value => (on (by omega)).2.2.2.2,
      fun value => ?_⟩
    · rcases values with ⟨-, zero⟩ | ⟨-, one⟩ | ⟨-, two⟩
      · rw [none zero]
      · exact (on one).1
      · exact (tripped two).2.1
    · obtain ⟨shed, off⟩ := (on (by omega)).2.2.2.1 holds latch bars
      obtain ⟨-, -, -, -, -, readmit, -⟩ := laws
      exact ⟨shed, (readmit z hz).mpr shed, off⟩
    · obtain ⟨off, -, switched⟩ := tripped (by omega)
      exact ⟨off, switched⟩
  · obtain ⟨unqueued, unread⟩ := unread_of_idle rest
    exact reads.unread pair lists unqueued unread

end Sys2Proof.Machine

namespace Sys2Proof.Machine

/-! ## What a law asks of the zones (R60, R63, R71, R80, R82)

The laws of admission and of isolation each ask something of every zone's record, and something more of a zone
that may wait in the queue. `Sound` says what such demands must allow for the Zone Controller's work to keep
them; `Fit` is what the work then keeps. -/

/-- The zone is OFF, ISOLATED or LOCKOUT: it neither runs nor waits. -/
abbrev Idle (x : ZoneState) : Prop := x = .off ∨ x = .isolated ∨ x = .lockout

/-- What a law asks of a zone's record, and of one that may wait in the queue. -/
structure Terms where
  fine : Nat → ZoneRun → Prop
  waits : Nat → ZoneRun → Prop

/-- The terms hold of what the Zone Controller's work makes of a record, where the tables are those of `s` and a
zone for which `may` holds may enter the queue. -/
structure Sound (s : State) (may : Nat → Prop) (T : Terms) : Prop where
  flags : ∀ {z r r'}, T.fine z r → r'.state = r.state → r'.attempts = r.attempts → T.fine z r'
  fewer : ∀ {z r r'}, T.waits z r → r'.attempts ≤ r.attempts → T.waits z r'
  active : ∀ {z r}, T.fine z r → ¬Idle r.state → T.waits z r
  runs : ∀ {z r}, T.waits z r → ¬Idle r.state → T.fine z r
  rests : ∀ {z r r'}, T.fine z r → r.state ≠ .lockout →
    r'.state = .off ∨ (r'.state = .isolated ∧ ((zoneCfg s z).inUse = true ∨ ¬Idle r.state)) →
    r'.attempts = r.attempts → T.fine z r'
  locks : ∀ {z r r'}, T.waits z r → r'.attempts = r.attempts + 1 → r'.attempts = (zoneCfg s z).lockout →
    r'.state = .lockout → T.fine z r'
  retries : ∀ {z r r'}, T.waits z r → r'.attempts = r.attempts + 1 → r'.attempts ≠ (zoneCfg s z).lockout →
    T.waits z r'
  unlocks : ∀ {z r r'}, T.fine z r → r.state = .lockout → r'.state = .off → r'.attempts = 0 → T.fine z r'
  enters : ∀ {z r}, T.fine z r → r.state = .off → (zoneCfg s z).inUse = true → may z →
    s.zc.epoLatch = false → T.waits z r

theorem Sound.congr {s t : State} {may : Nat → Prop} {T : Terms} (h : Sound s may T)
    (tables : t.tables = s.tables) (latch : t.zc.epoLatch = s.zc.epoLatch) : Sound t may T := by
  have cfg (z : Nat) : zoneCfg t z = zoneCfg s z := zoneCfg_congr (by rw [tables]) z
  refine ⟨h.flags, h.fewer, h.active, h.runs, ?_, ?_, ?_, h.unlocks, ?_⟩
  all_goals simp only [cfg, latch]
  · exact h.rests
  · exact h.locks
  · exact h.retries
  · exact h.enters

/-- A zone's record meets the terms once it is granted. -/
theorem Sound.granted {s : State} {may : Nat → Prop} {T : Terms} (h : Sound s may T) {z : Nat} {r : ZoneRun}
    (waits : T.waits z r) : T.fine z (granted r) ∧ T.waits z (granted r) :=
  have waits : T.waits z (Machine.granted r) := h.fewer waits (Nat.le_refl _)
  ⟨h.runs waits (by simp [Machine.granted, Idle]), waits⟩

theorem inrushCount_congr {s t : State} (h : t.zc.zones = s.zc.zones) : inrushCount t = inrushCount s :=
  congrArg List.length (inrushZones_congr fun z _ => by rw [zoneAt, zoneAt, h])

/-- The terms are sound, and every zone, and every zone that waits, meets them; INRUSH holds no more zones than
the slot count or `n`, and with the ride-through state other than NORMAL no more than `n`. -/
structure Fit (may : Nat → Prop) (T : Terms) (n : Nat) (s : State) : Prop where
  sound : Sound s may T
  within : ∀ z ∈ s.zc.queue, z < 32
  fine : ∀ z < 32, T.fine z (zoneAt s z)
  waits : ∀ z ∈ s.zc.queue, T.waits z (zoneAt s z)
  slots : inrushCount s ≤ max (slotCount s) n
  held : s.zc.ride ≠ .normal → inrushCount s ≤ n

namespace Fit

variable {may : Nat → Prop} {T : Terms} {n : Nat} {s t : State} {z : Nat}

theorem congr (h : Fit may T n s) (zones : t.zc.zones = s.zc.zones) (queue : ∀ y ∈ t.zc.queue, y ∈ s.zc.queue)
    (ride : t.zc.ride = s.zc.ride) (latch : t.zc.epoLatch = s.zc.epoLatch) (tables : t.tables = s.tables) :
    Fit may T n t := by
  have record (y : Nat) : zoneAt t y = zoneAt s y := by rw [zoneAt, zoneAt, zones]
  have count := inrushCount_congr zones
  refine ⟨h.sound.congr tables latch, fun y hy => h.within y (queue y hy), fun y hy => ?_,
    fun y queued => ?_, ?_, ?_⟩
  · rw [record]
    exact h.fine y hy
  · rw [record]
    exact h.waits y (queue y queued)
  · simp only [count, slotCount, setting, tables]
    exact h.slots
  · rw [count, ride]
    exact h.held

theorem of_zc (h : Fit may T n s) (zc : t.zc = s.zc) (tables : t.tables = s.tables) : Fit may T n t :=
  h.congr (by rw [zc]) (by rw [zc]; exact fun _ => id) (by rw [zc]) (by rw [zc]) tables

/-- One zone changes its record, and does not enter INRUSH. -/
theorem move (h : Fit may T n s) (hz : z < 32) {f : ZoneRun → ZoneRun} (fine : T.fine z (f (zoneAt s z)))
    (waits : z ∈ s.zc.queue → T.waits z (f (zoneAt s z)))
    (slot : (f (zoneAt s z)).state = .inrush → (zoneAt s z).state = .inrush) : Fit may T n (modZone z f s) := by
  have same := zoneAt_modZone_same hz f s
  have other {y : Nat} (hy : y ≠ z) : zoneAt (modZone z f s) y = zoneAt s y := by
    rw [zoneAt_modZone, if_neg fun here => hy here.1.symm]
  have count : inrushCount (modZone z f s) ≤ inrushCount s := by
    have change := inrushCount_change (s := s) (t := modZone z f s) hz fun y hy => by rw [other hy]
    rw [same] at change
    by_cases entered : (f (zoneAt s z)).state = .inrush
    · rw [if_pos entered, if_pos (slot entered)] at change
      omega
    · rw [if_neg entered] at change
      omega
  refine ⟨h.sound.congr rfl rfl, h.within, fun y hy => ?_, fun y queued => ?_, count.trans h.slots,
    fun ride => count.trans (h.held ride)⟩
  · by_cases here : y = z
    · subst here
      rwa [same]
    · rw [other here]
      exact h.fine y hy
  · by_cases here : y = z
    · subst here
      rw [same]
      exact waits queued
    · rw [other here]
      exact h.waits y queued

theorem enqueue (h : Fit may T n s) (hz : z < 32) (waits : T.waits z (zoneAt s z)) :
    Fit may T n (enqueueZone z s) := by
  have perm := perm_insert (fun y => decide ((zoneCfg s y).tier ≤ (zoneCfg s z).tier)) z s.zc.queue
  refine ⟨h.sound.congr rfl rfl, fun y queued => ?_, h.fine, fun y queued => ?_, h.slots, h.held⟩
  · rcases List.mem_cons.mp ((perm.mem_iff (a := y)).mp queued) with rfl | queued
    · exact hz
    · exact h.within y queued
  · rcases List.mem_cons.mp ((perm.mem_iff (a := y)).mp queued) with rfl | queued
    · exact waits
    · exact h.waits y queued

theorem dequeue (h : Fit may T n s) (z : Nat) : Fit may T n (dequeueZone z s) :=
  h.congr rfl (fun _ hy => (List.mem_filter.mp hy).1) rfl rfl rfl

theorem modReadmit (h : Fit may T n s) (f : List Nat → List Nat) :
    Fit may T n (modZc (fun c => { c with readmit := f c.readmit }) s) :=
  h.congr rfl (fun _ => id) rfl rfl rfl

theorem leaveReadmit (h : Fit may T n s) (z : Nat) : Fit may T n (leaveReadmit z s) := h.modReadmit _

theorem tell (h : Fit may T n s) (z : Nat) (old new : ZoneState) : Fit may T n (tellZoneChange z old new s) :=
  h.of_zc (tellZoneChange_zc _ _ _ _) ((Works.refl s).tellZoneChange _ _ _).tables

theorem raiseFlag (h : Fit may T n s) (f : EventFlag) (p : List Byte) : Fit may T n (raiseFlag f p s) :=
  h.of_zc (raiseFlag_zc _ _ _) ((Works.refl s).raiseFlag _ _).tables

theorem mark (h : Fit may T n s) (hz : z < 32) {f : ZoneRun → ZoneRun}
    (state : ∀ r, (f r).state = r.state) (attempts : ∀ r, (f r).attempts = r.attempts) :
    Fit may T n (modZone z f s) :=
  h.move hz (h.sound.flags (h.fine z hz) (state _) (attempts _))
    (fun queued => h.sound.fewer (h.waits z queued) (attempts _).le) fun entered => by rwa [state] at entered

theorem setDisablePending (h : Fit may T n s) (hz : z < 32) (x : DisableOutcome) :
    Fit may T n (setDisablePending z x s) := by
  unfold Machine.setDisablePending
  split
  · exact h
  · exact (h.mark hz (f := fun r => { r with disablePending := true }) (fun _ => rfl) fun _ => rfl).raiseFlag _ _

theorem queueDisable (h : Fit may T n s) (hz : z < 32) : Fit may T n (queueDisable z s).1 := by
  obtain ⟨tables, owed, zc⟩ := queueDisable_leaves z s
  have marked := h.mark hz (f := fun r => { r with disablePending := owed }) (fun _ => rfl) fun _ => rfl
  exact marked.of_zc zc tables

/-- R63, R65: a grant takes a zone that may wait, with the ride-through state NORMAL and a slot free. -/
theorem grantOf (h : Fit may T n s) (goes : Goes s z) : Fit may T n (grantOf z s) := by
  have admits := goes.admits
  simp only [admissionOpen, Bool.and_eq_true, decide_eq_true_eq, beq_iff_eq] at admits
  obtain ⟨⟨⟨ride, -⟩, -⟩, free⟩ := admits
  have hz := h.within z goes.queued
  have grown := inrushCount_grantOf (s := s) hz
  have zc := grantOf_zc z s
  have slots : slotCount (Machine.grantOf z s) = slotCount s := by simp only [slotCount, setting, grantOf_tables]
  have waits := h.sound.granted (h.waits z goes.queued)
  refine ⟨h.sound.congr (grantOf_tables z s) (by rw [zc]; rfl), fun y queued => ?_, fun y hy => ?_,
    fun y queued => ?_, by omega, fun other => absurd (by rw [zc]; exact ride) other⟩
  · rw [grantOf_queue] at queued
    exact h.within y (List.mem_filter.mp queued).1
  · rw [zoneAt_grantOf]
    split
    next here => exact here.1 ▸ waits.1
    · exact h.fine y hy
  · rw [grantOf_queue] at queued
    obtain ⟨queued, apart⟩ := List.mem_filter.mp queued
    rw [zoneAt_grantOf, if_neg fun here => bne_iff_ne.mp apart here.1.symm]
    exact h.waits y queued

theorem runArbiter (h : Fit may T n s) : Fit may T n (runArbiter s) :=
  runArbiter_induct (fun _ _ before goes => before.grantOf goes) h

theorem afterDeparture (h : Fit may T n s) (departed : Bool) : Fit may T n (afterDeparture departed s) := by
  unfold Machine.afterDeparture
  split
  · exact h.runArbiter
  · exact h

/-! ### Changes of one zone's state -/

/-- R69, R80, R82, R84: a zone that is not queued comes to rest in OFF or ISOLATED. -/
theorem rest (h : Fit may T n s) (hz : z < 32) (unqueued : z ∉ s.zc.queue)
    (unlocked : (zoneAt s z).state ≠ .lockout)
    {f : ZoneRun → ZoneRun} (state : (f (zoneAt s z)).state = .off ∨ ((f (zoneAt s z)).state = .isolated ∧
      ((zoneCfg s z).inUse = true ∨ ¬Idle (zoneAt s z).state)))
    (attempts : (f (zoneAt s z)).attempts = (zoneAt s z).attempts) : Fit may T n (modZone z f s) :=
  h.move hz (h.sound.rests (h.fine z hz) unlocked state attempts) (fun queued => absurd queued unqueued)
    fun entered => by rcases state with state | ⟨state, -⟩ <;> simp [state] at entered

/-- A zone that may wait goes on to a state in which it runs or waits. -/
theorem run (h : Fit may T n s) (hz : z < 32) (waits : T.waits z (zoneAt s z)) {f : ZoneRun → ZoneRun}
    (state : ¬Idle (f (zoneAt s z)).state) (other : (f (zoneAt s z)).state ≠ .inrush)
    (attempts : (f (zoneAt s z)).attempts ≤ (zoneAt s z).attempts) :
    Fit may T n (modZone z f s) ∧ T.waits z (zoneAt (modZone z f s) z) := by
  have after := h.sound.fewer waits attempts
  rw [zoneAt_modZone_same hz]
  exact ⟨h.move hz (h.sound.runs after state) (fun _ => after) fun entered => absurd entered other, after⟩

end Fit

end Sys2Proof.Machine

namespace Sys2Proof.Machine

/-! ## The Zone Controller's work keeps what a law asks of the zones -/

namespace Fit

variable {may : Nat → Prop} {T : Terms} {n : Nat} {s : State} {z : Nat}

theorem unqueueZone (h : Fit may T n s) (hz : z < 32) (state : (zoneAt s z).state = .queued) {new : ZoneState}
    (rests : new = .off ∨ new = .isolated) : Fit may T n (unqueueZone z new s) := by
  have active : ¬Idle (zoneAt s z).state := by simp [state]
  refine ((h.dequeue z).rest hz ?_ ?_ ?_ ?_).tell _ _ _
  · simp [Machine.dequeueZone, modZc]
  · exact fun locked => active (.inr (.inr locked))
  · exact rests.imp id fun isolated => ⟨isolated, .inr active⟩
  · rfl

theorem unshedZone (h : Fit may T n s) (lists : ZoneListsLaw s) (hz : z < 32)
    (state : (zoneAt s z).state = .shed) {new : ZoneState} (rests : new = .off ∨ new = .isolated) :
    Fit may T n (unshedZone z new s) := by
  have active : ¬Idle (zoneAt s z).state := by simp [state]
  refine ((h.leaveReadmit z).rest hz ?_ ?_ ?_ ?_).tell _ _ _
  · exact not_queued_of_state lists (by simp [state])
  · exact fun locked => active (.inr (.inr locked))
  · exact rests.imp id fun isolated => ⟨isolated, .inr active⟩
  · rfl

/-- R69: an INRUSH or ON zone comes to rest. -/
theorem leaves (h : Fit may T n s) (lists : ZoneListsLaw s) (running : runs s z = true) {new : ZoneState}
    (rests : new = .off ∨ new = .isolated) : Fit may T n (modZone z (leftRunning new) s) := by
  have active : ¬Idle (zoneAt s z).state := by
    rintro (state | state | state)
    all_goals simp [runs, countsAllotment, state] at running
  refine h.rest (lt_of_runs running) (not_queued_of_runs lists running) ?_ ?_ rfl
  · exact fun locked => active (.inr (.inr locked))
  · exact rests.imp id fun isolated => ⟨isolated, .inr active⟩

theorem switchZoneOff (h : Fit may T n s) (lists : ZoneListsLaw s) (running : runs s z = true) :
    Fit may T n (switchZoneOff z s) :=
  (((h.leaves lists running (.inl rfl)).queueDisable (lt_of_runs running)).tell _ _ _).afterDeparture _

theorem unlock (h : Fit may T n s) (hz : z < 32) (lists : ZoneListsLaw s) (state : (zoneAt s z).state = .lockout) :
    Fit may T n (tellZoneChange z .lockout .off
      (modZone z (fun r => { r with state := .off, attempts := 0 }) s)) :=
  (h.move hz (h.sound.unlocks (h.fine z hz) state rfl rfl)
    (fun queued => absurd queued (not_queued_of_state lists (by simp [state])))
    fun entered => by cases entered).tell _ _ _

theorem enterQueue (h : Fit may T n s) (hz : z < 32) (waits : T.waits z (zoneAt s z)) {f : ZoneRun → ZoneRun}
    (state : (f (zoneAt s z)).state = .queued) (attempts : (f (zoneAt s z)).attempts ≤ (zoneAt s z).attempts) :
    Fit may T n (enqueueZone z (modZone z f s)) := by
  obtain ⟨moved, waits⟩ := h.run hz waits (f := f) (by simp [state]) (by simp [state]) attempts
  exact moved.enqueue hz waits

theorem queueZone (h : Fit may T n s) (state : (zoneAt s z).state = .off) (used : (zoneCfg s z).inUse = true)
    (allowed : may z) (latch : s.zc.epoLatch = false) : Fit may T n (queueZone z s) := by
  have hz := zone_lt_of_inUse used
  have waits := h.sound.enters (h.fine z hz) state used allowed latch
  exact ((h.enterQueue (f := fun r => { r with state := .queued, adoptPending := false }) hz waits rfl
    (Nat.le_refl _)).tell _ _ _).runArbiter

/-- R79: a SHED zone drains. -/
theorem drainZone (h : Fit may T n s) (hz : z < 32) (state : (zoneAt s z).state = .shed) :
    Fit may T n (drainZone s z) := by
  have waits := h.sound.active (h.fine z hz) (by simp [state])
  exact ((h.leaveReadmit z).enterQueue (f := fun r => { r with state := .queued }) hz waits rfl
    (Nat.le_refl _)).tell _ _ _

theorem drainZones (l : List Nat) (h : Fit may T n s) (once : l.Nodup)
    (shed : ∀ z ∈ l, z < 32 ∧ (zoneAt s z).state = .shed) : Fit may T n (l.foldl Machine.drainZone s) := by
  induction l generalizing s with
  | nil => exact h
  | cons z rest ih =>
    obtain ⟨fresh, once⟩ := List.nodup_cons.mp once
    obtain ⟨hz, state⟩ := shed z (.head _)
    refine ih (h.drainZone hz state) once fun y hy => ?_
    rw [drainZone_other s (by rintro rfl; exact fresh hy)]
    exact shed y (.tail _ hy)

theorem evaluateReadmit (h : Fit may T n s) (lists : ZoneListsLaw s) : Fit may T n (evaluateReadmit s) := by
  obtain ⟨-, once, -, bound, -, shed, -⟩ := lists
  unfold Machine.evaluateReadmit
  split
  · refine (h.drainZones _ (List.nodup_reverse.mpr once) fun z hz => ?_).runArbiter
    have listed := List.mem_reverse.mp hz
    exact ⟨bound z listed, (shed z (bound z listed)).mp listed⟩
  · exact h

/-- R49: an INRUSH or ON zone is no IDLE one. -/
theorem active_of_runs (running : runs s z = true) : ¬Idle (zoneAt s z).state := by
  rintro (state | state | state)
  all_goals simp [runs, countsAllotment, state] at running

theorem shedZone_of_entered (entered : Fit may T n (modZone z (leftRunning .shed) s)) (lists : ZoneListsLaw s)
    (running : runs s z = true) : Fit may T n (shedZone s z) := by
  obtain ⟨departed, shed⟩ := shedZone_of_runs running
  have hz := lt_of_runs running
  have told : Fit may T n (shedTold z s) := ((entered.modReadmit (· ++ [z])).queueDisable hz).tell _ _ _
  have listed : ZoneListsLaw (shedTold z s) := zoneLists_tell
    (zoneLists_queueDisable (zoneLists_append lists hz (unlisted_of_runs running) rfl) z) _ _ _
  rw [shed]
  exact (told.evaluateReadmit listed).afterDeparture _

theorem enterShed (h : Fit may T n s) (running : runs s z = true) :
    Fit may T n (modZone z (leftRunning .shed) s) := by
  have hz := lt_of_runs running
  have waits := h.sound.active (h.fine z hz) (active_of_runs running)
  exact (h.run hz waits (f := leftRunning .shed) (by simp [leftRunning]) (by simp [leftRunning]) (Nat.le_refl _)).1

/-- R75: a zone is shed; where re-admission is open the list drains. -/
theorem shedZone (h : Fit may T n s) (lists : ZoneListsLaw s) (z : Nat) : Fit may T n (shedZone s z) := by
  cases running : runs s z with
  | false => rwa [shedZone_of_not_runs running]
  | true => exact shedZone_of_entered (h.enterShed running) lists running

/-- R63: with no slot free, the shed of an INRUSH zone takes one zone of INRUSH for good. -/
theorem shedZone_drops (h : Fit may T (n + 1) s) (lists : ZoneListsLaw s) (state : (zoneAt s z).state = .inrush)
    (full : slotCount s ≤ n) : Fit may T n (Machine.shedZone s z) := by
  have running : runs s z = true := runs_of_inrush state
  have hz := lt_of_runs running
  obtain ⟨sound, within, fine, waits, -, -⟩ := h.enterShed running
  have change := inrushCount_change (s := s) (t := modZone z (leftRunning .shed) s) hz fun y hy => by
    rw [zoneAt_modZone, if_neg fun here => hy here.1.symm]
  rw [zoneAt_modZone_same hz, if_pos state, if_neg (by simp [leftRunning])] at change
  have slots := h.slots
  have held := h.held
  refine shedZone_of_entered ⟨sound, within, fine, waits, ?_, fun other => ?_⟩ lists running
  · omega
  · have before := held other
    omega

/-- R63: with no slot free, the zones of `l` leave INRUSH for good. -/
theorem shedSurplus (l : List Nat) (h : Fit may T (n + l.length) s) (lists : ZoneListsLaw s) (once : l.Nodup)
    (inrush : ∀ z ∈ l, (zoneAt s z).state = .inrush) (full : slotCount s ≤ n) :
    Fit may T n (l.foldl Machine.shedZone s) := by
  induction l generalizing s with
  | nil => exact h
  | cons z rest ih =>
    obtain ⟨fresh, once⟩ := List.nodup_cons.mp once
    have works : WorksOn (fun y => y = z ∨ (zoneAt s y).state ≠ .inrush) s (Machine.shedZone s z) :=
      (WorksOn.refl s).shedZone (.inl rfl) fun _ y listed => .inr fun state =>
        not_shed_of_state lists (by simp [state]) listed
    refine ih (shedZone_drops h lists (inrush z (.head _)) (by omega)) (zoneLists_shedZone lists z) once
      (fun y hy => ?_) ((works.setting 15).trans_le full)
    have state := inrush y (.tail _ hy)
    have spared := works.spared (zone_lt_of_state (s := s) (z := y) (by simp [state]))
      (not_or.mpr ⟨by rintro rfl; exact fresh hy, not_not.mpr state⟩) (not_queued_of_state lists (by simp [state]))
    rw [spared.record]
    exact state

/-! ### Attempts, trips and adoption -/

theorem powerGood (h : Fit may T n s) (state : (zoneAt s z).state = .inrush) : Fit may T n (powerGood z s) := by
  have hz := zone_lt_of_state (s := s) (z := z) (by simp [state])
  have waits := h.sound.active (h.fine z hz) (by simp [state])
  exact ((h.run hz waits (f := fun r => { leftRunning .on r with attempts := 0 }) (by simp [leftRunning])
    (by simp [leftRunning]) (Nat.zero_le _)).1.tell _ _ _).runArbiter

theorem tripZone (h : Fit may T n s) (lists : ZoneListsLaw s) (state : (zoneAt s z).state = .on) (reading : Nat) :
    Fit may T n (tripZone z reading s) := by
  have running : runs s z = true := by rw [runs, state]; rfl
  have left := h.leaves lists running (new := .off) (.inl rfl)
  exact (((left.raiseFlag _ _).queueDisable (lt_of_runs running)).tell _ _ _).runArbiter

/-- R71: the count rises, and the zone locks out at its limit, or waits again. -/
theorem attemptFailed (h : Fit may T n s) (lists : ZoneListsLaw s) (state : (zoneAt s z).state = .inrush) :
    Fit may T n (attemptFailed z s) := by
  have hz := zone_lt_of_state (s := s) (z := z) (by simp [state])
  have unqueued := not_queued_of_state lists (s := s) (z := z) (by simp [state])
  have waits := h.sound.active (h.fine z hz) (by simp [state])
  unfold Machine.attemptFailed
  dsimp only
  split
  next locked =>
    exact h.move hz (h.sound.locks waits rfl (by simpa using locked) (by simp [leftRunning]))
      (fun queued => absurd queued unqueued) (by simp [leftRunning])
  next unlocked =>
    have again := h.sound.retries (r' := { leftRunning .queued (zoneAt s z) with
      attempts := (zoneAt s z).attempts + 1 }) waits rfl (by simpa using unlocked)
    refine Fit.enqueue (h.move hz ?_ (fun queued => absurd queued unqueued) (by simp [leftRunning])) hz ?_
    · exact h.sound.runs (h.sound.fewer again (Nat.le_refl _)) (by simp [leftRunning])
    · rw [zoneAt_modZone_same hz]
      exact h.sound.fewer again (Nat.le_refl _)

theorem failAttempt (h : Fit may T n s) (lists : ZoneListsLaw s) (state : (zoneAt s z).state = .inrush)
    (cause : AttemptCause) : Fit may T n (failAttempt z cause s) := by
  have hz := zone_lt_of_state (s := s) (z := z) (by simp [state])
  have off := (h.attemptFailed lists state).queueDisable hz
  obtain ⟨p, new, eq⟩ := failAttempt_eq z cause s
  rw [eq]
  refine (Fit.tell ?_ _ _ _).runArbiter
  split
  · exact off.raiseFlag _ _
  · exact off

/-- R87: a zone found on is switched off into a state in which it rests, or into SHED, with re-admission closed. -/
theorem adoptOff (h : Fit may T n s) (lists : ZoneListsLaw s) (hz : z < 32) (state : (zoneAt s z).state = .off)
    {new : ZoneState} (rests : new = .off ∨ (new = .isolated ∧ (zoneCfg s z).inUse = true) ∨
      (new = .shed ∧ T.waits z (zoneAt s z) ∧ readmitOpen s = false)) : Fit may T n (adoptOff z new s) := by
  have unqueued := not_queued_of_state lists (s := s) (z := z) (by simp [state])
  have entered : Fit may T n (adoptEntered z new s) := by
    have moved (rests : new = .off ∨ (new = .isolated ∧ (zoneCfg s z).inUse = true)) :=
      h.rest hz unqueued (f := fun r => { r with state := new, adoptPending := false }) (by simp [state])
        (rests.imp id (And.imp_right .inl)) rfl
    rcases rests with rfl | ⟨rfl, used⟩ | ⟨rfl, waits, -⟩
    · exact moved (.inl rfl)
    · exact moved (.inr ⟨rfl, used⟩)
    · exact (h.run hz waits (f := fun r => { r with state := .shed, adoptPending := false }) (by simp) (by simp)
        (Nat.le_refl _)).1.modReadmit (· ++ [z])
  have told : Fit may T n (adoptTold z new s) := by
    unfold adoptTold
    split
    · exact entered.queueDisable hz
    · exact (entered.queueDisable hz).tell _ _ _
  rw [adoptOff_eq]
  refine Fit.afterDeparture ?_ _
  split
  next shed =>
    obtain rfl : new = .shed := eq_of_beq shed
    have ⟨_, closed⟩ : T.waits z (zoneAt s z) ∧ readmitOpen s = false := by simpa using rests
    have works : WorksOn (· = z) s (adoptTold z .shed s) :=
      ((worksOn_adoptEntered .shed).queueDisable rfl).tellZoneChange z .off .shed
    rwa [evaluateReadmit_of_closed (works.readmitOpen.trans closed)]
  · exact told

theorem adoptZone (h : Fit may T n s) (lists : ZoneListsLaw s) (state : (zoneAt s z).state = .off)
    (used : (zoneCfg s z).inUse = true) (allowed : leakHolds s z = false → may z) (reading : Nat) :
    Fit may T n (adoptZone z reading s) := by
  have hz := zone_lt_of_inUse used
  unfold Machine.adoptZone
  split
  · exact h.mark hz (fun _ => rfl) fun _ => rfl
  · split
    · exact h.adoptOff lists hz state (.inr (.inl ⟨rfl, used⟩))
    next free =>
    split
    · exact h.adoptOff lists hz state (.inl rfl)
    next unlatched =>
    have waits := h.sound.enters (h.fine z hz) state used (allowed (by simpa using free))
      (by simpa using unlatched)
    split
    next bars => exact h.adoptOff lists hz state (.inr (.inr ⟨rfl, waits, readmit_closed_of_linkBars bars⟩))
    · exact (h.run hz waits (f := fun r => { r with state := .on, attempts := 0, adoptPending := false }) (by simp)
        (by simp) (Nat.zero_le _)).1.tell _ _ _
  · exact h.adoptOff lists hz state (.inl rfl)

/-! ### Isolation, release and the EPO latch -/

theorem isolateZone (h : Fit may T n s) (lists : ZoneListsLaw s) (used : (zoneCfg s z).inUse = true) :
    Fit may T n (isolateZone s z) := by
  have hz := zone_lt_of_inUse used
  unfold Machine.isolateZone
  dsimp only
  split
  next state =>
    have left := h.rest hz (not_queued_of_state lists (by simp [state]))
      (f := fun r => { r with state := .isolated, adoptPending := false }) (by simp [state])
      (.inr ⟨rfl, .inl used⟩) rfl
    split
    · exact ((left.queueDisable hz).tell _ _ _).afterDeparture _
    · exact (left.tell _ _ _).afterDeparture _
  next state => exact h.unqueueZone hz state (.inr rfl)
  next state =>
    exact (((h.leaves lists (by rw [runs, state]; rfl) (.inr rfl)).queueDisable hz).tell _ _ _).runArbiter
  next state =>
    exact (((h.leaves lists (by rw [runs, state]; rfl) (.inr rfl)).queueDisable hz).tell _ _ _).afterDeparture _
  next state => exact h.unshedZone lists hz state (.inr rfl)
  · exact h
  · exact h

theorem releaseZone (h : Fit may T n s) (lists : ZoneListsLaw s) (z : Nat) : Fit may T n (releaseZone s z) := by
  unfold Machine.releaseZone
  split
  next isolated =>
    simp only [Bool.and_eq_true, zoneIs_eq_decide, decide_eq_true_eq] at isolated
    have hz := zone_lt_of_state (s := s) (z := z) (by simp [isolated.1])
    exact (h.rest hz (not_queued_of_state lists (by simp [isolated.1])) (f := fun r => { r with state := .off })
      (by simp [isolated.1]) (.inl rfl) rfl).tell _ _ _
  · exact h

theorem epoZone (h : Fit may T n s) (lists : ZoneListsLaw s) (hz : z < 32) : Fit may T n (epoZone s z) := by
  unfold Machine.epoZone
  dsimp only
  split
  next state => exact h.unqueueZone hz state (.inl rfl)
  next state => exact h.switchZoneOff lists (by rw [runs, state]; rfl)
  next state => exact h.switchZoneOff lists (by rw [runs, state]; rfl)
  next state => exact h.unshedZone lists hz state (.inl rfl)
  · split
    · exact ((h.mark hz (f := fun r => { r with adoptPending := false }) (fun _ => rfl)
        fun _ => rfl).queueDisable hz).afterDeparture _
    · exact h
  · exact h
  · exact h

end Fit

/-! ## Work of the Zone Controller -/

theorem WorksOn.epoZone {Z : Nat → Prop} {s t : State} (h : WorksOn Z s t) {z : Nat} (hz : Z z) :
    WorksOn Z s (epoZone t z) := by
  unfold Machine.epoZone
  dsimp only
  split
  · exact h.unqueueZone hz _
  · exact h.switchZoneOff hz
  · exact h.switchZoneOff hz
  · exact h.unshedZone hz _
  · exact .ite (((h.modZone hz _).queueDisable hz).afterDeparture _) h
  all_goals exact h

/-- `t` comes from `s` by the Zone Controller's work on its zones: the news it holds, the other blocks and the
tables are as they were, the lists follow the zones, and the zones go on meeting the terms of a law that lets the
zones of `may` enter the queue. -/
structure Tends (may : Nat → Prop) (s t : State) : Prop where
  work : WorksOn (fun _ => True) s t
  same : erase zoneBlocks t = erase zoneBlocks s
  lists : ZoneListsLaw t
  fit : ∀ {T n}, Fit may T n s → Fit may T n t

namespace Tends

variable {may : Nat → Prop} {s t u : State} {z : Nat}

theorem refl (lists : ZoneListsLaw s) : Tends may s s := ⟨.refl s, rfl, lists, id⟩

theorem trans (h : Tends may s t) (h' : Tends may t u) : Tends may s u :=
  ⟨h.work.trans h'.work, h'.same.trans h.same, h'.lists, fun fit => h'.fit (h.fit fit)⟩

theorem foldl {α : Type} {f : State → α → State} (l : List α)
    (hf : ∀ t x, x ∈ l → Tends may s t → Tends may t (f t x)) (lists : ZoneListsLaw s) :
    Tends may s (l.foldl f s) := by
  suffices run : ∀ t, Tends may s t → Tends may s (l.foldl f t) from run s (.refl lists)
  induction l with
  | nil => exact fun _ h => h
  | cons x rest ih =>
    exact fun t h => ih (fun u y hy => hf u y (.tail _ hy)) _ (h.trans (hf t x (.head _) h))

theorem runArbiter (lists : ZoneListsLaw s) : Tends may s (runArbiter s) :=
  ⟨(WorksOn.refl s).runArbiter, by simp [zoneBlocks], zoneLists_runArbiter lists, Fit.runArbiter⟩

theorem afterDeparture (h : Tends may s t) (departed : Bool) : Tends may s (afterDeparture departed t) := by
  unfold Machine.afterDeparture
  split
  · exact h.trans (runArbiter h.lists)
  · exact h

theorem evaluateReadmit (lists : ZoneListsLaw s) : Tends may s (evaluateReadmit s) :=
  ⟨(WorksOn.refl s).evaluateReadmit fun _ _ _ => trivial, by simp [zoneBlocks], zoneLists_evaluateReadmit lists,
    fun fit => fit.evaluateReadmit lists⟩

theorem mark (lists : ZoneListsLaw s) (hz : z < 32) {f : ZoneRun → ZoneRun} (state : ∀ r, (f r).state = r.state)
    (attempts : ∀ r, (f r).attempts = r.attempts) : Tends may s (modZone z f s) :=
  ⟨(WorksOn.refl s).modZone trivial f, by simp [zoneBlocks], zoneLists_mark lists z state,
    fun fit => fit.mark hz state attempts⟩

theorem setDisablePending (lists : ZoneListsLaw s) (hz : z < 32) (x : DisableOutcome) :
    Tends may s (setDisablePending z x s) :=
  ⟨(WorksOn.refl s).setDisablePending trivial x, by simp [zoneBlocks], zonal_zoneLists.setDisablePending z x lists,
    fun fit => fit.setDisablePending hz x⟩

theorem queueDisable (lists : ZoneListsLaw s) (hz : z < 32) : Tends may s (queueDisable z s).1 :=
  ⟨(WorksOn.refl s).queueDisable trivial, by simp [zoneBlocks], zoneLists_queueDisable lists z,
    fun fit => fit.queueDisable hz⟩

theorem shedZone (lists : ZoneListsLaw s) (z : Nat) : Tends may s (shedZone s z) :=
  ⟨(WorksOn.refl s).shedZone trivial fun _ _ _ => trivial, by simp [zoneBlocks], zoneLists_shedZone lists z,
    fun fit => fit.shedZone lists z⟩

theorem failAttempt (lists : ZoneListsLaw s) (state : (zoneAt s z).state = .inrush) (cause : AttemptCause) :
    Tends may s (failAttempt z cause s) :=
  ⟨(WorksOn.refl s).failAttempt trivial cause, by simp [zoneBlocks], zoneLists_failAttempt lists state cause,
    fun fit => fit.failAttempt lists state cause⟩

theorem powerGood (lists : ZoneListsLaw s) (state : (zoneAt s z).state = .inrush) : Tends may s (powerGood z s) :=
  ⟨(WorksOn.refl s).powerGood trivial, by simp [zoneBlocks], zoneLists_powerGood lists state,
    fun fit => fit.powerGood state⟩

theorem tripZone (lists : ZoneListsLaw s) (state : (zoneAt s z).state = .on) (reading : Nat) :
    Tends may s (tripZone z reading s) :=
  ⟨(WorksOn.refl s).tripZone trivial reading, by simp [zoneBlocks], zoneLists_tripZone lists state reading,
    fun fit => fit.tripZone lists state reading⟩

theorem adoptZone (lists : ZoneListsLaw s) (state : (zoneAt s z).state = .off) (used : (zoneCfg s z).inUse = true)
    (allowed : leakHolds s z = false → may z) (reading : Nat) : Tends may s (adoptZone z reading s) :=
  ⟨(WorksOn.refl s).adoptZone trivial reading, by simp [zoneBlocks],
    zoneLists_adoptZone lists (zone_lt_of_inUse used) state reading,
    fun fit => fit.adoptZone lists state used allowed reading⟩

theorem queueZone (lists : ZoneListsLaw s) (state : (zoneAt s z).state = .off) (used : (zoneCfg s z).inUse = true)
    (allowed : may z) (latch : s.zc.epoLatch = false) : Tends may s (queueZone z s) :=
  ⟨(WorksOn.refl s).queueZone trivial, by simp [zoneBlocks],
    zoneLists_queueZone lists (zone_lt_of_inUse used) state, fun fit => fit.queueZone state used allowed latch⟩

theorem switchZoneOff (lists : ZoneListsLaw s) (running : runs s z = true) : Tends may s (switchZoneOff z s) :=
  ⟨(WorksOn.refl s).switchZoneOff trivial, by simp [zoneBlocks], zoneLists_switchZoneOff lists running,
    fun fit => fit.switchZoneOff lists running⟩

theorem unqueueZone (lists : ZoneListsLaw s) (state : (zoneAt s z).state = .queued) :
    Tends may s (unqueueZone z .off s) :=
  ⟨(WorksOn.refl s).unqueueZone trivial _, by simp [zoneBlocks], zoneLists_unqueueZone lists state (by decide),
    fun fit => fit.unqueueZone (zone_lt_of_state (s := s) (by simp [state])) state (.inl rfl)⟩

theorem unshedZone (lists : ZoneListsLaw s) (state : (zoneAt s z).state = .shed) :
    Tends may s (unshedZone z .off s) :=
  ⟨(WorksOn.refl s).unshedZone trivial _, by simp [zoneBlocks], zoneLists_unshedZone lists state (by decide),
    fun fit => fit.unshedZone lists (zone_lt_of_state (s := s) (by simp [state])) state (.inl rfl)⟩

theorem unlock (lists : ZoneListsLaw s) (state : (zoneAt s z).state = .lockout) :
    Tends may s (tellZoneChange z .lockout .off
      (modZone z (fun r => { r with state := .off, attempts := 0 }) s)) :=
  ⟨((WorksOn.refl s).modZone trivial _).tellZoneChange _ _ _, by simp [zoneBlocks],
    zonal_zoneLists.unlock lists state,
    fun fit => fit.unlock (zone_lt_of_state (s := s) (by simp [state])) lists state⟩

theorem isolateZone (lists : ZoneListsLaw s) (used : (zoneCfg s z).inUse = true) : Tends may s (isolateZone s z) :=
  ⟨(WorksOn.refl s).isolateZone trivial, by simp [zoneBlocks], zoneLists_isolateZone lists z,
    fun fit => fit.isolateZone lists used⟩

theorem releaseZone (lists : ZoneListsLaw s) (z : Nat) : Tends may s (releaseZone s z) :=
  ⟨(WorksOn.refl s).releaseZone trivial, by simp [zoneBlocks], zoneLists_releaseZone lists z,
    fun fit => fit.releaseZone lists z⟩

theorem zoneCfg (h : Tends may s t) (z : Nat) : zoneCfg t z = Machine.zoneCfg s z := h.work.zoneCfg z

theorem latch (h : Tends may s t) : t.zc.epoLatch = s.zc.epoLatch := by
  simpa only [told] using congrArg ZoneCtl.epoLatch h.work.told

theorem ride (h : Tends may s t) : t.zc.ride = s.zc.ride := by
  simpa only [told] using congrArg ZoneCtl.ride h.work.told

theorem groups (h : Tends may s t) : t.zc.groups = s.zc.groups := by
  simpa only [told] using congrArg ZoneCtl.groups h.work.told

/-- R63: a lowered slot count sheds the surplus. -/
theorem shedZones (l : List Nat) (lists : ZoneListsLaw s) : Tends may s (l.foldl Machine.shedZone s) :=
  foldl l (fun _ z _ h => shedZone h.lists z) lists

theorem shedList (l : List Nat) (lists : ZoneListsLaw s) : Tends may s (shedList l s).1 := by
  rw [shedList_fst]
  exact shedZones l lists

/-! ### Ends of FEED_SETs, reports and requests -/

theorem enableEnded (lists : ZoneListsLaw s) (entry output : Nat) (report : FeedReport) :
    Tends may s (enableEnded entry output report s) := by
  unfold Machine.enableEnded
  split
  · exact .refl lists
  next z pair =>
  dsimp only
  split
  next waits =>
    simp only [Bool.and_eq_true, beq_iff_eq] at waits
    cases report with
    | accepted => exact .mark lists (zoneOfPair_some pair).1 (fun _ => rfl) fun _ => rfl
    | _ => exact .failAttempt lists waits.1 _
  · exact .refl lists

theorem disableEnded (lists : ZoneListsLaw s) (entry output : Nat) (report : FeedReport) :
    Tends may s (disableEnded entry output report s) := by
  unfold Machine.disableEnded
  split
  · exact .refl lists
  next z pair =>
    have hz := (zoneOfPair_some pair).1
    have failed (x : DisableOutcome) : Tends may s
        (if countsAllotment (zoneAt s z).state then s else Machine.setDisablePending z x s) := by
      split
      · exact .refl lists
      · exact .setDisablePending lists hz x
    cases report with
    | accepted =>
      have cleared : Tends may s (modZone z (fun r => { r with disablePending := false }) s) :=
        .mark lists hz (fun _ => rfl) fun _ => rfl
      exact cleared.trans (.runArbiter cleared.lists)
    | _ => exact failed _

theorem feedSetEnded (lists : ZoneListsLaw s) (entry output : Nat) (on : Bool) (report : FeedReport) :
    Tends may s (feedSetEnded entry output on report s) := by
  unfold Machine.feedSetEnded
  split
  · exact enableEnded lists _ _ _
  · exact disableEnded lists _ _ _

theorem inUse_of_pair {entry output : Nat} (pair : zoneOfPair s entry output = some z) :
    (Machine.zoneCfg s z).inUse = true := by
  have found := List.find?_some pair
  simp only [Bool.and_eq_true] at found
  exact found.1.1

theorem zoneReport (lists : ZoneListsLaw s) (allowed : ∀ z, leakHolds s z = false → may z) (entry : Nat)
    (news : Nat × Nat) : Tends may s (zoneReport entry s news) := by
  unfold Machine.zoneReport
  split
  · exact .refl lists
  next z pair =>
    dsimp only
    split
    next state =>
      split
      · split
        · exact .refl lists
        · exact .powerGood lists state
        · exact .failAttempt lists state _
      · exact .refl lists
    next state =>
      split
      · exact .refl lists
      · exact .tripZone lists state _
    next state =>
      split
      · exact .adoptZone lists state (inUse_of_pair pair) (allowed z) _
      · exact .refl lists
    all_goals exact .refl lists

theorem zoneOffRequest (lists : ZoneListsLaw s) (z : Nat) : Tends may s (zoneOffRequest z s) := by
  unfold Machine.zoneOffRequest
  split
  next state => exact .unqueueZone lists state
  next state => exact .switchZoneOff lists (by rw [runs, state]; rfl)
  next state => exact .switchZoneOff lists (by rw [runs, state]; rfl)
  next state => exact .unshedZone lists state
  all_goals exact .refl lists

theorem zoneRequest (lists : ZoneListsLaw s) (allowed : ∀ z, leakHolds s z = false → may z) (z : Nat)
    (action : ZoneAction) : Tends may s (zoneRequest z action s).2 := by
  unfold Machine.zoneRequest
  split
  · exact .refl lists
  cases action with
  | on =>
    show Tends may s (zoneOnRequest z s).2
    unfold zoneOnRequest
    split
    · exact .refl lists
    next unlatched =>
    split
    · exact .refl lists
    next used =>
    split
    case h_3 state =>
      split
      · exact .refl lists
      next free =>
        exact .queueZone lists state (by simpa using used) (allowed z (by simpa using free))
          (by simpa using unlatched)
    all_goals exact .refl lists
  | off => exact zoneOffRequest lists z
  | reset =>
    show Tends may s (zoneResetRequest z s).2
    unfold zoneResetRequest
    split
    next locked => exact .unlock lists (eq_of_beq locked)
    · exact .refl lists

theorem seqQueueRequest (lists : ZoneListsLaw s) (allowed : ∀ z, leakHolds s z = false → may z) (z : Nat) :
    Tends may s (seqQueueRequest z s).2 := by
  unfold Machine.seqQueueRequest
  split
  · exact .refl lists
  next unlatched =>
  split
  · exact .refl lists
  next used =>
  split
  case h_3 state =>
    split
    · exact .refl lists
    next free =>
      exact .queueZone lists state (by simpa using used) (allowed z (by simpa using free))
        (by simpa using unlatched)
  all_goals exact .refl lists

theorem epoZone (lists : ZoneListsLaw s) (hz : z < 32) : Tends may s (epoZone s z) :=
  ⟨(WorksOn.refl s).epoZone trivial, by simp [zoneBlocks], zonal_zoneLists.epoZone z lists,
    fun fit => fit.epoZone lists hz⟩

end Tends

end Sys2Proof.Machine

namespace Sys2Proof.Machine

/-! ## What the laws of admission and of isolation read, besides the Zone Controller's work -/

/-- What the two laws read of a state, but for the news in flight and their senders. -/
structure Watched where
  zones : Vector ZoneCfg 32
  leakMap : Vector LeakMapCfg 8
  slots : Nat
  image : Tables
  saving : Option Tables
  records : Vector ZoneRun 32
  queue : List Nat
  readmit : List Nat
  ride : RideState
  groups : Vector GroupState 8
  latch : Bool

def watched (s : State) : Watched where
  zones := s.tables.zones
  leakMap := s.tables.leakMap
  slots := slotCount s
  image := s.image.tables
  saving := s.image.saving
  records := s.zc.zones
  queue := s.zc.queue
  readmit := s.zc.readmit
  ride := s.zc.ride
  groups := s.zc.groups
  latch := s.zc.epoLatch

/-- The news of a group in flight. -/
def newsOf (s : State) (g : Nat) : List GroupNews := s.mail.leakToZone.filter (fun n => n.group == g)

/-- What is watched is as it was, and so is where the Ride-Through Unit stands; what the Leak Monitor has sent
since keeps up with where it stands, and the changes of the ride-through state in flight end where they did. -/
structure Steady (s t : State) : Prop where
  same : watched t = watched s
  state : t.ride.state = s.ride.state
  ride : ∀ x y, rideFollows x s.mail.rideToZone y = true → rideFollows x t.mail.rideToZone y = true
  leak : ∀ g < 8, ∀ x, groupFollows x (newsOf s g) (groupAt s g) = true →
    groupFollows x (newsOf t g) (groupAt t g) = true

/-- The blocks that hold nothing watched, and neither sender nor news. -/
def unwatched : List Block := [.now, .free, .pending, .loader, .port, .segs, .nodes, .cap, .seq, .lines]

namespace Steady

variable {s t u : State}

theorem trans (h : Steady s t) (h' : Steady t u) : Steady s u where
  same := h'.same.trans h.same
  state := h'.state.trans h.state
  ride x y follows := h'.ride x y (h.ride x y follows)
  leak g hg x follows := h'.leak g hg x (h.leak g hg x follows)

theorem of_same (same : watched t = watched s) (ride : t.ride.state = s.ride.state)
    (rides : t.mail.rideToZone = s.mail.rideToZone) (groups : t.mail.leakToZone = s.mail.leakToZone)
    (leak : t.leak.groups = s.leak.groups) : Steady s t where
  same := same
  state := ride
  ride x y follows := by rwa [rides]
  leak g hg x follows := by
    unfold newsOf groupAt at follows ⊢
    rwa [groups, leak]

theorem refl (s : State) : Steady s s := .of_same rfl rfl rfl rfl rfl

/-- What touches only blocks that are not watched, but for deliveries on other paths. -/
theorem of_mail (touches : Touches (.mail :: unwatched) s t)
    (rides : t.mail.rideToZone = s.mail.rideToZone) (groups : t.mail.leakToZone = s.mail.leakToZone) :
    Steady s t := by
  have tables : t.tables = s.tables := touches .tables (by decide)
  have image : t.image = s.image := touches .image (by decide)
  have zc : t.zc = s.zc := touches .zc (by decide)
  have ride : t.ride = s.ride := touches .ride (by decide)
  have leak : t.leak = s.leak := touches .leak (by decide)
  refine .of_same ?_ (by rw [ride]) rides groups (by rw [leak])
  simp only [watched, slotCount, setting, tables, image, zc]

theorem of_sends (h : erase (.mail :: unwatched) t = erase (.mail :: unwatched) s) (sends : Sends s t) :
    Steady s t :=
  .of_mail (touches_of_erase h) sends.rideToZone sends.leakToZone

theorem of_erase (h : erase unwatched t = erase unwatched s) : Steady s t := by
  have mail : t.mail = s.mail := touches_of_erase h .mail (by decide)
  exact .of_mail (fun b away => touches_of_erase h b fun held => away (.tail _ held)) (by rw [mail]) (by rw [mail])

theorem ite {c : Prop} [Decidable c] (h : Steady s t) (h' : Steady s u) : Steady s (if c then t else u) := by
  split
  · exact h
  · exact h'

theorem foldl {α : Type} {f : State → α → State} (hf : ∀ t x, Steady t (f t x)) (l : List α) (s : State) :
    Steady s (l.foldl f s) := by
  induction l generalizing s with
  | nil => exact .refl s
  | cons x rest ih => exact (hf s x).trans (ih _)

theorem raiseFlag (h : Steady s t) (f : EventFlag) (p : List Byte) : Steady s (raiseFlag f p t) :=
  h.trans (.of_erase (by simp [unwatched]))

theorem modMail (h : Steady s t) {f : Mail → Mail} (rides : (f t.mail).rideToZone = t.mail.rideToZone)
    (groups : (f t.mail).leakToZone = t.mail.leakToZone) : Steady s (modMail f t) :=
  h.trans (.of_same rfl rfl rides groups rfl)

theorem modRide (h : Steady s t) {f : Ride → Ride} (state : (f t.ride).state = t.ride.state) :
    Steady s (modRide f t) :=
  h.trans (.of_same rfl state rfl rfl rfl)

theorem modLeak (h : Steady s t) {f : Leak → Leak} (groups : (f t.leak).groups = t.leak.groups) :
    Steady s (modLeak f t) :=
  h.trans (.of_same rfl rfl rfl rfl groups)

/-! ### The Capacity Unit -/

theorem recomputeAvailable (s : State) : Steady s (recomputeAvailable s) :=
  .of_sends (by simp [unwatched]) (((Sends.refl s).modCap _).evaluateCapacity.tellCapacityNews _)

theorem suspendCapacity (s : State) : Steady s (suspendCapacity s) :=
  .of_sends (by simp [unwatched]) (((Sends.refl s).modCap _).tellCapacityNews _)

theorem resumeCapacity (s : State) : Steady s (resumeCapacity s) := by
  refine .of_sends (by simp [unwatched]) (Sends.tellCapacityNews (Sends.evaluateCapacity ?_) _)
  exact .of_erase (bs := [.port, .cap]) (by simp) (by decide)

theorem graceExpired (s : State) : Steady s (graceExpired s) := by
  refine .of_sends (by simp [unwatched]) ?_
  have marked f := (Sends.refl s).modCap f
  exact .ite (marked _) (marked _).computeShed

theorem capacityShedDone (s : State) : Steady s (capacityShedDone s) := by
  refine .of_sends (by simp [unwatched]) ?_
  have marked f := (Sends.refl s).modCap f
  exact .ite ((marked _).evaluateCapacity.tellCapacityNews _) (marked _)

/-! ### Segments, relays and the first scan -/

theorem firstScanTest (h : Steady s t) (expiry : Bool) (i : Nat) : Steady s (firstScanTest expiry i t) := by
  refine h.trans ?_
  unfold Machine.firstScanTest
  refine .ite (Steady.modMail (.of_erase (by simp [unwatched])) rfl rfl) (.refl t)

theorem pollEnded (h : Steady s t) (i : Nat) (c : Current) : Steady s (pollEnded i c t) := by
  refine h.trans ?_
  unfold Machine.pollEnded
  dsimp only
  refine Steady.firstScanTest ?_ _ _
  exact .ite (.refl t) (.of_erase (by simp [unwatched]))

/-! ### The Leak Monitor -/

theorem setChannel (h : Steady s t) (c : Nat) (r : ChannelRun) : Steady s (setChannel c r t) := h.modLeak rfl

theorem enterFault (h : Steady s t) (c : Nat) (cause : FaultCause) : Steady s (enterFault c cause t) :=
  (h.setChannel _ _).raiseFlag _ _

theorem indicateChannel (t : State) (news : Nat × Indication) : Steady t (indicateChannel t news) := by
  have start := Steady.refl t
  unfold Machine.indicateChannel
  dsimp only
  split
  · split
    case h_1 | h_8 => exact start.setChannel _ _
    case h_3 | h_6 | h_9 => exact start.enterFault _ _
    case h_5 => exact .ite (start.enterFault _ _) (start.setChannel _ _)
    all_goals exact start
  · exact start

theorem chooseBeacon (h : Steady s t) : Steady s (chooseBeacon t) := by
  unfold Machine.chooseBeacon
  exact .ite h (h.modLeak rfl)

end Steady

theorem groupFollows_append {l : List GroupNews} {n : GroupNews} {x : GroupState}
    (follows : groupFollows x l n.old = true) (dries : n.new = .drying → n.old = .alarm)
    (latched : latchedGroup n.old = true → latchedGroup n.new = true) :
    groupFollows x (l ++ [n]) n.new = true := by
  induction l generalizing x with
  | nil =>
    obtain rfl : x = n.old := by simpa [groupFollows] using follows
    cases hn : n.new <;> cases ho : n.old <;> simp_all [groupFollows, latchedGroup]
  | cons m rest ih =>
    simp only [List.cons_append, groupFollows, Bool.and_eq_true] at follows ⊢
    exact ⟨follows.1, ih follows.2⟩

/-- R138: the evaluation places a group in DRYING only from ALARM, or keeps it there. -/
theorem groupPlace_dries {x : GroupState} {w p vote : Nat} (h : groupPlace x w p vote = .drying) :
    x = .alarm ∨ x = .drying := by
  unfold groupPlace at h
  split at h
  · cases h
  · cases x with
    | alarm => exact .inl rfl
    | drying => exact .inr rfl
    | clear | watch => simp only at h; split at h <;> cases h

/-- R138: an evaluation releases no group. -/
theorem groupPlace_latched {x : GroupState} {w p vote : Nat} (h : latchedGroup x = true) :
    latchedGroup (groupPlace x w p vote) = true := by
  unfold groupPlace
  split
  · rfl
  · cases x with
    | alarm | drying => rfl
    | clear | watch => cases h

/-- R142: a group's change of state, and its news. -/
theorem changeGroup_sends (g : Nat) (new : GroupState) (cause : GroupCause) (s : State) :
    (changeGroup g new cause s).mail =
      { s.mail with leakToZone := s.mail.leakToZone ++ [⟨g, groupAt s g, new⟩] } ∧
    (changeGroup g new cause s).leak.groups = put s.leak.groups g new := by
  have same (u : State) : erase [.port] (raiseFlag .leakAlarm (alarmParticulars u g (groupAt s g) new cause) u) =
      erase [.port] u := by simp
  have mail (u : State) := touches_of_erase (same u) .mail (by decide)
  have leak (u : State) := touches_of_erase (same u) .leak (by decide)
  unfold changeGroup
  dsimp only [modMail]
  rw [mail, leak]
  exact ⟨rfl, rfl⟩

theorem newsOf_changeGroup (g : Nat) (new : GroupState) (cause : GroupCause) (s : State) (x : Nat) :
    newsOf (changeGroup g new cause s) x =
      newsOf s x ++ if g = x then [⟨g, groupAt s g, new⟩] else [] := by
  rw [newsOf, (changeGroup_sends g new cause s).1, List.filter_append, newsOf]
  by_cases here : g = x
  · simp [here]
  · simp [here]

theorem groupAt_changeGroup {g : Nat} (new : GroupState) (cause : GroupCause) (s : State) {x : Nat} (hx : x < 8) :
    groupAt (changeGroup g new cause s) x = if g = x then new else groupAt s x := by
  rw [groupAt, (changeGroup_sends g new cause s).2]
  split
  next here =>
    subst here
    exact nth_put_self _ _ _ hx
  next other => exact nth_put_of_ne _ _ other

theorem watched_changeGroup (g : Nat) (new : GroupState) (cause : GroupCause) (s : State) :
    watched (changeGroup g new cause s) = watched s := by
  have touches := touches_of_erase (bs := [.port, .leak, .mail]) (s := s) (t := changeGroup g new cause s)
    (by simp)
  have tables : (changeGroup g new cause s).tables = s.tables := touches .tables (by decide)
  have image : (changeGroup g new cause s).image = s.image := touches .image (by decide)
  have zc : (changeGroup g new cause s).zc = s.zc := touches .zc (by decide)
  simp only [watched, slotCount, setting, tables, image, zc]

namespace Steady

variable {s t u : State}

/-- R138, R142: a group's change is sent, where it is no release. -/
theorem changeGroup {g : Nat} {new : GroupState} (cause : GroupCause) {s : State}
    (dries : new = .drying → groupAt s g = .alarm)
    (latched : latchedGroup (groupAt s g) = true → latchedGroup new = true) :
    Steady s (changeGroup g new cause s) := by
  have ride : (Machine.changeGroup g new cause s).ride = s.ride :=
    touches_of_erase (bs := [.port, .leak, .mail]) (by simp) .ride (by decide)
  have mail := (changeGroup_sends g new cause s).1
  refine ⟨watched_changeGroup g new cause s, congrArg Ride.state ride, fun x y follows => by rwa [mail],
    fun x hx y follows => ?_⟩
  rw [newsOf_changeGroup, groupAt_changeGroup new cause s hx]
  split
  next here =>
    subst here
    exact groupFollows_append (n := ⟨g, groupAt s g, new⟩) follows dries latched
  · rwa [List.append_nil]

theorem evaluateGroup (h : Steady s t) (cause : GroupCause) (g : Nat) : Steady s (evaluateGroup cause t g) := by
  refine h.trans ?_
  unfold Machine.evaluateGroup evaluateFrom
  dsimp only
  split
  · exact .refl t
  next changed =>
    refine .changeGroup cause (fun dries => ?_) groupPlace_latched
    refine (groupPlace_dries dries).resolve_right fun dried => changed ?_
    rw [dries, dried]
    rfl

theorem evaluateGroups (h : Steady s t) (cause : GroupCause) (groups : List Nat) :
    Steady s (evaluateGroups cause groups t) :=
  h.trans (Steady.chooseBeacon (.foldl (fun u g => (Steady.refl u).evaluateGroup cause g) _ _))

theorem evaluateChanged (h : Steady s t) (before : State) (cause : GroupCause) :
    Steady s (evaluateChanged before cause t) :=
  h.evaluateGroups _ _

theorem takeIndications (news : List (Nat × Indication)) (s : State) : Steady s (takeIndications news s) :=
  (foldl indicateChannel news s).evaluateChanged s .channel

theorem faultChannel (cause : FaultCause) (t : State) (c : Nat) : Steady t (faultChannel cause t c) :=
  .ite ((Steady.refl t).enterFault c cause) (.refl t)

theorem sourceLost (entry : Nat) (s : State) : Steady s (sourceLost entry s) :=
  (foldl (faultChannel .source) _ s).evaluateChanged s .channel

theorem takeLeakEnable (c : Nat) (on : Bool) (s : State) : Steady s (takeLeakEnable c on s) :=
  .ite (.refl s) ((faultChannel .lineDisabled s c).evaluateChanged s .channel)

theorem channelConfirmed (c : Nat) (s : State) : Steady s (channelConfirmed c s) :=
  ((Steady.refl s).setChannel _ _).evaluateGroups _ _

theorem settleRaising (h : Steady s t) (c : Nat) : Steady s (settleRaising t c) := by
  have settled : Steady s (settleChannel t c) := h.setChannel _ _
  exact .ite (settled.raiseFlag _ _) settled

theorem leakTakeBridging (h : Steady s t) (bridging : Bool) : Steady s (leakTakeBridging bridging t) :=
  (h.modLeak rfl).chooseBeacon

/-! ### The Ride-Through Unit -/

theorem recomputeEnergy (h : Steady s t) : Steady s (recomputeEnergy t) := by
  unfold Machine.recomputeEnergy
  dsimp only
  exact .ite (h.modRide rfl) ((h.modRide rfl).modMail rfl rfl)

theorem raiseRideChange (h : Steady s t) (old : RideState) (cause : RideCause) :
    Steady s (raiseRideChange old cause t) := h.raiseFlag _ _

theorem setBridging (h : Steady s t) (bridging : Bool) : Steady s (setBridging bridging t) :=
  ((h.modRide (f := fun r => { r with bridgeLine := bridging }) rfl).leakTakeBridging bridging).trans
    (.of_erase (by simp [Machine.setBridging, unwatched]))

theorem tellNormal (h : Steady s t) (normal : Bool) : Steady s (tellNormal normal t) := h.modMail rfl rfl

theorem evaluatePlan (h : Steady s t) (occasion : Occasion) : Steady s (evaluatePlan occasion t) := by
  have raised (p : PlanRecord) {u : State} (hu : Steady s u) : Steady s (raiseShort p u) :=
    .ite ((hu.modRide rfl).raiseFlag _ _) hu
  have handed (p : PlanRecord) {u : State} (hu : Steady s u) : Steady s (handOverPlan p u) :=
    .ite hu (((hu.modRide rfl).modMail rfl rfl).raiseFlag _ _)
  exact handed _ (raised _ (h.modRide rfl))

end Steady

/-! ### Changes of the ride-through state (R126) -/

theorem rideFollows_conserve {l : List RideNews} {x y : RideState} (b : Bool) (h : rideFollows x l y = true) :
    rideFollows x (l ++ [.conserve b]) y = true := by
  induction l generalizing x with
  | nil => exact h
  | cons n rest ih =>
    cases n with
    | conserve c => exact ih h
    | state n =>
      simp only [List.cons_append, rideFollows, Bool.and_eq_true] at h ⊢
      exact ⟨h.1, ih h.2⟩

theorem rideFollows_state {l : List RideNews} {x y n : RideState} (h : rideFollows x l y = true)
    (restores : n = .restoring → y = .bridging) : rideFollows x (l ++ [.state n]) n = true := by
  induction l generalizing x with
  | nil =>
    obtain rfl : x = y := by simpa [rideFollows] using h
    by_cases restoring : n = .restoring
    · simp [rideFollows, restoring, restores restoring]
    · simp [rideFollows, restoring]
  | cons m rest ih =>
    cases m with
    | conserve c => exact ih h
    | state m =>
      simp only [List.cons_append, rideFollows, Bool.and_eq_true] at h ⊢
      exact ⟨h.1, ih h.2⟩

theorem Steady.tellConserve {s t : State} (h : Steady s t) (b : Bool) : Steady s (tellZoneRide (.conserve b) t) :=
  h.trans ⟨rfl, rfl, fun _ _ follows => rideFollows_conserve b follows, fun _ _ _ follows => follows⟩

theorem Steady.countEpisode {s t : State} (h : Steady s t) : Steady s (countEpisode t) := by
  unfold Machine.countEpisode
  dsimp only
  exact .ite (((h.modRide rfl).modRide rfl).tellConserve true |>.raiseRideChange _ _) (h.modRide rfl)

/-- What is watched is as it was, and what the Ride-Through Unit and the Leak Monitor have sent since keeps up
with where they stand. -/
structure Drifts (s t : State) : Prop where
  same : watched t = watched s
  ride : ∀ x, rideFollows x s.mail.rideToZone s.ride.state = true →
    rideFollows x t.mail.rideToZone t.ride.state = true
  leak : ∀ g < 8, ∀ x, groupFollows x (newsOf s g) (groupAt s g) = true →
    groupFollows x (newsOf t g) (groupAt t g) = true

theorem Steady.drifts {s t : State} (h : Steady s t) : Drifts s t where
  same := h.same
  ride x follows := by
    rw [h.state]
    exact h.ride x _ follows
  leak := h.leak

/-- R114, R117: the entry into BRIDGING, up to the count of the episode. -/
def bridgingCounted (s : State) : State :=
  countEpisode (setBridging true
    (modRide (fun r => { r with state := .bridging, confirm := .stopped, settle := .stopped }) s))

/-- R114: elapsed counts from the entry. -/
def bridgingTimed (s : State) : State :=
  modRide (fun r => { r with elapsed := .counting (bridgingCounted s).now, short := false }) (bridgingCounted s)

/-- R114: the Zone Controller has been told of BRIDGING, and the plan has been evaluated. -/
def bridgingPlanned (s : State) : State :=
  evaluatePlan .entry (tellZoneRide (.state .bridging) (bridgingTimed s))

theorem enterBridging_eq (cause : RideCause) (s : State) : enterBridging cause s =
    raiseRideChange s.ride.state cause (modRide (fun r => { r with
      recompute := startTimer (bridgingPlanned s) (recomputePeriod (bridgingPlanned s)) }) (bridgingPlanned s)) :=
  rfl

namespace Drifts

variable {s t u : State}

theorem refl (s : State) : Drifts s s := (Steady.refl s).drifts

theorem trans (h : Drifts s t) (h' : Drifts t u) : Drifts s u where
  same := h'.same.trans h.same
  ride x follows := h'.ride x (h.ride x follows)
  leak g hg x follows := h'.leak g hg x (h.leak g hg x follows)

theorem ite {c : Prop} [Decidable c] (h : Drifts s t) (h' : Drifts s u) : Drifts s (if c then t else u) := by
  split
  · exact h
  · exact h'

/-- R126: the unit enters a state, RESTORING only from BRIDGING, and sends it. -/
theorem turn {f : Ride → Ride} {new : RideState} (entered : (f s.ride).state = new)
    (restores : new = .restoring → s.ride.state = .bridging) (before : Steady (modRide f s) t)
    (after : Steady (tellZoneRide (.state new) t) u) : Drifts s u where
  same := after.same.trans before.same
  ride x follows := by
    have state : u.ride.state = new := (after.state.trans before.state).trans entered
    rw [state]
    exact after.ride x new (rideFollows_state (before.ride x _ follows) restores)
  leak g hg x follows := after.leak g hg x (before.leak g hg x follows)

theorem enterBridging (cause : RideCause) (s : State) : Drifts s (enterBridging cause s) := by
  have counted : Steady (Machine.modRide (fun r => { r with
      state := .bridging, confirm := .stopped, settle := .stopped }) s) (bridgingCounted s) :=
    ((Steady.refl _).setBridging true).countEpisode
  have timed : Steady _ (bridgingTimed s) := counted.modRide
    (f := fun r => { r with elapsed := .counting (bridgingCounted s).now, short := false }) rfl
  have planned : Steady (tellZoneRide (.state .bridging) (bridgingTimed s)) (bridgingPlanned s) :=
    (Steady.refl _).evaluatePlan .entry
  rw [enterBridging_eq]
  generalize bridgingPlanned s = u at planned
  have reloaded := planned.modRide (f := fun r => { r with recompute := startTimer u (recomputePeriod u) }) rfl
  exact turn (f := fun r => { r with state := .bridging, confirm := .stopped, settle := .stopped })
    (t := bridgingTimed s) rfl nofun timed (reloaded.raiseRideChange _ cause)

theorem returnToNormal (cause : RideCause) (s : State) : Drifts s (returnToNormal cause s) :=
  turn (f := fun r => { r with state := .normal, confirm := .stopped, settle := .stopped }) rfl nofun (.refl _)
    (((Steady.refl _).tellNormal true).raiseRideChange _ _)

theorem indicationRises (s : State) : Drifts s (indicationRises s) := by
  have suspect : Drifts s (Machine.raiseRideChange .normal .loss (Machine.tellNormal false
      (tellZoneRide (.state .suspect) (Machine.modRide (fun r => { r with
        state := .suspect, confirm := startTimer s (confirmTime s) }) s)))) :=
    turn (new := .suspect) rfl nofun (.refl _) (((Steady.refl _).tellNormal false).raiseRideChange _ _)
  unfold Machine.indicationRises
  split
  · exact .ite (((Steady.refl s).tellNormal false).drifts.trans (enterBridging .confirmed _)) suspect
  · exact enterBridging .relapse s
  · exact .refl s
  · exact .refl s

theorem leaveBridging {s : State} (bridging : s.ride.state = .bridging) : Drifts s (leaveBridging s) := by
  have left := (Steady.modRide (.refl s) (f := fun r => { r with
    recompute := .stopped, elapsed := .stopped (elapsedOf s) }) rfl).setBridging false
  unfold Machine.leaveBridging
  dsimp only
  split
  · exact left.drifts.trans (returnToNormal .settled _)
  · exact left.drifts.trans (turn (f := fun r => { r with
        state := .restoring
        settle := startTimer _ (100 * settleTime _) }) rfl
      (fun _ => left.state.trans bridging) (.refl _) ((Steady.refl _).raiseRideChange _ _))

theorem indicationFalls (s : State) : Drifts s (indicationFalls s) := by
  unfold Machine.indicationFalls
  split
  · exact returnToNormal .blip s
  next bridging => exact leaveBridging bridging
  · exact .refl s
  · exact .refl s

theorem evaluateIndication (s : State) : Drifts s (evaluateIndication s) := by
  have parts := (Steady.modRide (.refl s) (f := fun r => { r with
    linePart := linePartOf s, rectPart := rectPartOf s, indication := linePartOf s || rectPartOf s }) rfl).drifts
  exact .ite parts (.ite (parts.trans (indicationRises _)) (parts.trans (indicationFalls _)))

theorem takeRectifier (entry : Nat) (counted : Bool) (s : State) : Drifts s (takeRectifier entry counted s) :=
  (Steady.modRide (.refl s) rfl).drifts.trans (evaluateIndication _)

theorem takeBattery (entry : Nat) (copy : BatteryCopy) (s : State) : Drifts s (takeBattery entry copy s) := by
  have figures := (Steady.modRide (.refl s) (f := fun r => { r with
    copies := put r.copies entry copy }) rfl).recomputeEnergy
  exact .ite (figures.evaluatePlan .battery).drifts figures.drifts

theorem confirmExpired (s : State) : Drifts s (confirmExpired s) := .ite (enterBridging _ s) (.refl s)

theorem settleExpired (s : State) : Drifts s (settleExpired s) := .ite (returnToNormal _ s) (.refl s)

theorem recomputeExpired (s : State) : Drifts s (recomputeExpired s) :=
  .ite ((Steady.modRide (.refl s) rfl).evaluatePlan .recompute).drifts (.refl s)

/-- R39, R40, R42: the consumers but the Zone Controller. -/
theorem tellConsumers (k : Nat) {kind : NodeKind} (x : Option NodeState) (s : State) (other : kind ≠ .feed) :
    Drifts s (tellConsumers k kind x s) := by
  cases kind with
  | rectifier => exact (Steady.recomputeAvailable s).drifts.trans (takeRectifier _ _ _)
  | battery => exact takeBattery _ _ s
  | feed => exact absurd rfl other
  | leak => exact .ite (.refl s) (Steady.sourceLost k s).drifts

end Drifts

end Sys2Proof.Machine

namespace Sys2Proof.Machine

/-! ## Handlings that the laws of admission and of isolation do not see -/

namespace Steady

variable {s t u : State}

theorem fst_of_eq {α : Type} {x y : State × α} (h : Steady s x.1) (eq : x = y) : Steady s y.1 := eq ▸ h

/-! ### The Sequencer (R94 to R106) -/

theorem modSeq (h : Steady s t) (f : Sequencer → Sequencer) : Steady s (modSeq f t) :=
  h.trans (.of_erase (by simp [unwatched]))

theorem failStep (h : Steady s t) (reason : FailReason) : Steady s (failStep reason t) :=
  h.trans (.of_erase (by simp [unwatched]))

theorem skipStep (h : Steady s t) (cause : SkipCause) : Steady s (skipStep cause t) :=
  h.trans (.of_erase (by simp [unwatched]))

theorem startWait (h : Steady s t) (timeout : Nat) : Steady s (startWait timeout t) :=
  h.trans (.of_erase (by simp [unwatched]))

theorem ask (h : Steady s t) (a : SeqAsk) :
    Steady s (Machine.modMail (fun m => { m with seqAsk := m.seqAsk ++ [a] }) t) := h.modMail rfl rfl

theorem goOn (h : Steady s t) : Steady s (goOn t).1 := h.trans (.of_erase (by simp [unwatched]))

theorem beginStep (h : Steady s t) : Steady s (beginStep t).1 := by
  have begun : Steady s (Machine.modSeq (fun q => { q with stepInst := q.stepInst + 1 }) (abandonStep t)) :=
    (h.modSeq _).modSeq _
  unfold Machine.beginStep
  dsimp only
  split
  · split
    · exact begun.skipStep _
    · dsimp only
      exact (begun.ask _).modSeq _
  · split
    · exact begun.skipStep _
    split
    · exact begun.skipStep _
    split
    case h_2 | h_3 => exact begun.skipStep _
    case h_1 => exact begun
    all_goals exact begun.startWait _
  · split
    · exact begun
    · exact begun.startWait _
  · split
    · exact begun
    · exact begun.startWait _
  · split
    · exact begun
    · exact begun.startWait _
  · exact begun.raiseFlag _ _

theorem runSteps (h : Steady s t) (fuel : Nat) : Steady s (runSteps fuel t) := by
  induction fuel generalizing t with
  | zero => exact h
  | succ fuel ih =>
    unfold Machine.runSteps
    split <;> rename_i begun
    · exact h.beginStep.fst_of_eq begun
    · have started := h.beginStep.fst_of_eq begun
      split <;> rename_i gone
      · exact started.goOn.fst_of_eq gone
      · exact ih (started.goOn.fst_of_eq gone)

theorem startStep (h : Steady s t) : Steady s (startStep t) := h.runSteps 64

theorem endStep (h : Steady s t) : Steady s (endStep t) := by
  unfold Machine.endStep
  split <;> rename_i gone
  · exact h.goOn.fst_of_eq gone
  · exact (h.goOn.fst_of_eq gone).startStep

theorem acceptProgram (h : Steady s t) (d : Descriptor) : Steady s (acceptProgram d t) := by
  have accepted : Steady s (Machine.modSeq (fun q => { q with
      desc := some d, skips := 0, fail := none, pointer := d.start
      state := if q.rideNormal then .running else .held }) (abandonStep t)) := (h.modSeq _).modSeq _
  unfold Machine.acceptProgram
  exact .ite accepted.startStep accepted

theorem replaceProgram (h : Steady s t) (d : Descriptor) : Steady s (replaceProgram d t) := by
  have replaced : Steady s (Machine.modSeq (fun q => { q with desc := some d, skips := 0, pointer := d.start })
      (abandonStep t)) := (h.modSeq _).modSeq _
  unfold Machine.replaceProgram
  exact .ite replaced.startStep replaced

theorem seqRunRequest (start count : Nat) (s : State) : Steady s (seqRunRequest start count s).2 := by
  have free : Steady s (cancelAutostart s) := (refl s).modSeq _
  unfold Machine.seqRunRequest
  split
  · exact refl s
  split
  · exact refl s
  dsimp only
  split
  · exact free.replaceProgram _
  · exact free.replaceProgram _
  all_goals exact free.acceptProgram _

theorem stepTimedOut (s : State) : Steady s (stepTimedOut s) :=
  .ite (.ite (refl s).endStep ((refl s).failStep _)) (refl s)

theorem takeAnswer (a : SeqAnswer) (s : State) : Steady s (takeAnswer a s) := by
  unfold Machine.takeAnswer
  split
  · split
    · exact (refl s).endStep
    · exact (refl s).endStep
    · exact ((refl s).skipStep _).endStep
    · exact (refl s).failStep _
  · exact refl s

theorem takeZoneNews (news : ZoneNews) (s : State) : Steady s (takeZoneNews news s) := by
  unfold Machine.takeZoneNews
  split
  · split
    case h_1 => exact (refl s).endStep
    case h_2 | h_3 => exact ((refl s).skipStep _).endStep
    all_goals exact refl s
  · exact refl s

theorem seqTakeCapNews (news : CapNews) (s : State) : Steady s (seqTakeCapNews news s) :=
  .ite (refl s).endStep (refl s)

theorem seqTakeEnergy (energy : Nat) (s : State) : Steady s (seqTakeEnergy energy s) :=
  .ite (refl s).endStep (refl s)

theorem seqTakeRide (normal : Bool) (s : State) : Steady s (seqTakeRide normal s) := by
  have told : Steady s (Machine.modSeq (fun q => { q with rideNormal := normal }) s) := (refl s).modSeq _
  unfold Machine.seqTakeRide
  dsimp only
  exact .ite (.ite (told.modSeq _).startStep told) (.ite ((told.modSeq _).modSeq _) told)

theorem tryAutostart (h : Steady s t) : Steady s (tryAutostart t) := by
  have started : Steady s (Machine.modSeq (fun q => { q with autostart := .started }) t) := h.modSeq _
  unfold Machine.tryAutostart
  exact .ite (.ite ((started.modSeq _).failStep _) (started.acceptProgram _)) h

/-! ### The link and the keep-alive (R157, R158) -/

theorem modPort (h : Steady s t) (f : Port → Port) : Steady s (modPort f t) :=
  h.trans (.of_erase (by simp [unwatched]))

theorem driveAlert (h : Steady s t) : Steady s (driveAlert t) := h.trans (.of_erase (by simp [unwatched]))

theorem tellLink (h : Steady s t) (n : LinkNews) :
    Steady s (Machine.modMail (fun m => { m with linkToZone := m.linkToZone ++ [n] }) t) := h.modMail rfl rfl

theorem changeLink (h : Steady s t) (new : LinkState) (cause : LinkCause) : Steady s (changeLink new cause t) :=
  ((h.modPort _).tellLink _).driveAlert.raiseFlag _ _

theorem linkError (h : Steady s t) (cause : LinkCause) : Steady s (linkError cause t) :=
  .ite (h.changeLink _ _) (h.modPort _)

theorem supervisedCount (h : Steady s t) (x : KeepTime) : Steady s (supervisedCount x t) := by
  unfold Machine.supervisedCount
  split
  · exact h.modPort _
  · exact h.linkError _
  · exact h.linkError _

theorem autonomousCount (h : Steady s t) (x : KeepTime) : Steady s (autonomousCount x t) := by
  unfold Machine.autonomousCount
  split
  · exact .ite (h.changeLink _ _) (h.modPort _)
  · exact h.modPort _
  · exact h.modPort _

theorem keepaliveTaken (h : Steady s t) : Steady s (keepaliveTaken t) := by
  have started : Steady s (startWindow t) := h.modPort _
  unfold Machine.keepaliveTaken
  dsimp only
  split
  · exact started.changeLink _ _
  · exact started.supervisedCount _
  · exact started.autonomousCount _

theorem closeTimePassed (s : State) : Steady s (closeTimePassed s) := by
  unfold Machine.closeTimePassed
  split
  · exact refl s
  next w _ =>
    have passed : Steady s { s with now := max s.now (w.start + w.closeTime) } := .of_erase rfl
    dsimp only
    split
    · exact passed
    · exact (passed.modPort _).supervisedCount _
    · exact (passed.modPort _).autonomousCount _

/-! ### The remaining expiries and deliveries -/

theorem windowExpired (s : State) : Steady s (windowExpired s) := (refl s).modRide rfl

theorem planShedDone (d : ShedDone) (s : State) : Steady s (planShedDone d s) := (refl s).modRide rfl

theorem chatterExpired (s : State) : Steady s (chatterExpired s) := (refl s).modLeak rfl

theorem beaconExpired (s : State) : Steady s (beaconExpired s) := (refl s).modLeak rfl

/-- R141: the channels are settled, the groups evaluated, the beacon chosen. -/
theorem leakSettled (h : Steady s t) : Steady s (leakSettled t) :=
  (h.trans (foldl (fun u c => (refl u).settleRaising c) _ t)).evaluateGroups _ _

theorem restart (h : Steady s t) (particulars : List Byte) : Steady s (restart particulars t) :=
  h.leakSettled.driveAlert.raiseFlag _ _

theorem raiseImage (h : Steady s t) (x : ImageResult) : Steady s (raiseImage x t) := h.raiseFlag _ _

/-- R130: a LEAK_CHANNEL write. -/
theorem writeChannel (c : Nat) (contents : ChannelCfg) (s : State) : Steady s (writeChannel c contents s).1 := by
  unfold Machine.writeChannel
  split
  · have stored : Steady s { s with tables := { s.tables with
        channels := put s.tables.channels c (clampChannel contents) } } := .of_same rfl rfl rfl rfl rfl
    have written := stored.setChannel c ⟨.dry, 0, .stopped⟩
    exact Steady.evaluateGroups (.ite (written.settleRaising c) written) _ _
  · exact refl s

end Steady

end Sys2Proof.Machine

namespace Sys2Proof.Machine

/-! ## What a step can do to the zones, the groups and the ride-through state that the Zone Controller holds

The laws of admission and of isolation are kept by handlings they do not see, by the Zone Controller's work on
its zones, and by the few changes of what it holds. The walk over the commands is made once, for both. -/

/-- A law of the zone lists' states that every handling it does not see and all work of the Zone Controller
keeps, and so does each change of the slot count, of a zone's or a group's configuration, of the EPO latch, of
the ride-through state and the groups held, of the Image Store, and a reset. -/
structure Warded (P : State → Prop) : Prop where
  lists {s : State} : P s → ZoneListsLaw s
  drift {s t : State} : P s → Drifts s t → P t
  tend {s t : State} : P s → Tends (fun z => leakHolds s z = false) s t → P t
  slots {s : State} (v : Vector Nat 41) : P s →
    P (slotCountWritten { s with tables := { s.tables with settings := v } })
  write {s : State} {z : Nat} {c : ZoneCfg} : P s → zoneWritable s z c = true → P (takeZoneWrite z c s)
  map {s : State} {g : Nat} (c : LeakMapCfg) : P s → groupAt s g = .clear →
    P { s with tables := { s.tables with leakMap := put s.tables.leakMap g c } }
  latch {s : State} : P s → P (setEpoLatch s)
  unlatch {s : State} : P s → P (modZc (fun c => { c with epoLatch := false }) s)
  ride {s : State} {x : RideState} {rest : List RideNews} : P s → s.mail.rideToZone = .state x :: rest →
    x ≠ .bridging → P (modZc (fun c => { c with ride := x }) (modMail (fun m => { m with rideToZone := rest }) s))
  bridging {s : State} : P s → s.mail.rideToZone.find? (fun n => !isConserve n) = some (.state .bridging) →
    P (takeBridging (modMail (fun m => { m with rideToZone := dropFirst isBridging m.rideToZone }) s))
  group {s : State} {n : GroupNews} {rest : List GroupNews} : P s → s.mail.leakToZone = n :: rest →
    P (takeGroupNews (modMail (fun m => { m with leakToZone := rest }) s) n)
  clear {s : State} (g : Nat) : P s → P (leakClearRequest g s).2
  image {s : State} (y : Image) : P s → (∀ x ∈ y.tables :: y.saving.toList,
    x ∈ s.tables :: s.image.tables :: s.image.saving.toList) → P { s with image := y }
  reset {s : State} {x : Tables} {y : Image} (k : Kept) : P s →
    x = s.tables ∨ x = s.image.tables ∨ x = Tables.empty → y.tables = s.image.tables → y.saving = none →
    k.ride.state = .normal → P (blocksReset k { s with tables := x, image := y })

/-! ### News of the ride-through state taken out of order -/

/-- CONSERVE changes are no change of the ride-through state. -/
theorem rideFollows_filter (x y : RideState) (l : List RideNews) :
    rideFollows x (l.filter fun n => !isConserve n) y = rideFollows x l y := by
  induction l generalizing x with
  | nil => rfl
  | cons n rest ih =>
    cases n with
    | conserve b => exact ih x
    | state n => exact congrArg _ (ih n)

theorem filter_dropFirst {α : Type} (p : α → Bool) (l : List α) :
    (dropFirst p l).filter (fun x => !p x) = l.filter fun x => !p x := by
  induction l with
  | nil => rfl
  | cons x rest ih =>
    unfold dropFirst
    by_cases hx : p x = true
    · simp [hx]
    · simp [hx, ih]

/-- The CONSERVE changes in flight are taken, wholly or in part. -/
theorem Drifts.conserveTaken {s : State} {l : List RideNews}
    (same : l.filter (fun n => !isConserve n) = s.mail.rideToZone.filter fun n => !isConserve n) :
    Drifts s (modMail (fun m => { m with rideToZone := l }) s) where
  same := rfl
  ride x follows := by
    rw [← rideFollows_filter] at follows
    rw [← rideFollows_filter]
    exact same ▸ follows
  leak _ _ _ follows := follows

/-- What the Zone Controller is told of the other blocks, but for the groups, the ride-through state and the
latch. -/
theorem Drifts.heed (s : State) {f : ZoneCtl → ZoneCtl}
    (same : ∀ c, ((f c).zones, (f c).queue, (f c).readmit, (f c).ride, (f c).groups, (f c).epoLatch) =
      (c.zones, c.queue, c.readmit, c.ride, c.groups, c.epoLatch)) : Drifts s (modZc f s) := by
  have held := same s.zc
  simp only [Prod.mk.injEq] at held
  obtain ⟨zones, queue, readmit, ride, groups, latch⟩ := held
  refine (Steady.of_same (s := s) (t := modZc f s) ?_ rfl rfl rfl rfl).drifts
  simp only [watched, Machine.modZc, slotCount, setting, zones, queue, readmit, ride, groups, latch]

namespace Warded

variable {P : State → Prop} {s t : State}

theorem steady (h : Warded P) (law : P s) (steady : Steady s t) : P t := h.drift law steady.drifts

theorem quiet (h : Warded P) (law : P s) (same : erase unwatched t = erase unwatched s) : P t :=
  h.steady law (.of_erase same)

/-- The tables change where neither law looks. -/
theorem config (h : Warded P) (x : Tables) (law : P s) (zones : x.zones = s.tables.zones)
    (map : x.leakMap = s.tables.leakMap) (slots : nth x.settings 15 = nth s.tables.settings 15) :
    P { s with tables := x } := by
  refine h.steady law (.of_same ?_ rfl rfl rfl rfl)
  simp only [watched, slotCount, setting, zones, map, slots]

theorem foldl (_ : Warded P) {α : Type} {f : State → α → State} (hf : ∀ s x, P s → P (f s x))
    (l : List α) (law : P s) : P (l.foldl f s) := by
  induction l generalizing s with
  | nil => exact law
  | cons x rest ih => exact ih (hf s x law)

theorem ite (_ : Warded P) {b : Bool} {t : State} (hs : P s) (ht : P t) : P (if b then s else t) := by
  cases b
  · exact ht
  · exact hs

/-! ### Handlings that the law does not see -/

theorem raiseFlag (h : Warded P) (f : EventFlag) (p : List Byte) (law : P s) : P (raiseFlag f p s) :=
  h.quiet law (by simp [unwatched])

theorem modSeg (h : Warded P) (i : Nat) (f : Segment → Segment) (law : P s) : P (modSeg i f s) :=
  h.quiet law (by simp [unwatched])

theorem joinSegment (h : Warded P) (i : Nat) (e : Exchange) (law : P s) : P (joinSegment i e s).state :=
  h.quiet law (by simp [unwatched])

theorem arbitrate (h : Warded P) (i : Nat) (law : P s) : P (arbitrate i s).1 :=
  h.quiet law (by simp [unwatched])

theorem removeExchanges (h : Warded P) (i k : Nat) (law : P s) : P (removeExchanges i k s) :=
  h.quiet law (by simp [unwatched])

theorem firstScanTest (h : Warded P) (expiry : Bool) (i : Nat) (law : P s) : P (firstScanTest expiry i s) :=
  h.steady law ((Steady.refl s).firstScanTest expiry i)

theorem relayEnded (h : Warded P) (n : Nat) (f : RelaySlot → Frame) (law : P s) : P (relayEnded n f s) :=
  h.quiet law (by simp [unwatched])

theorem pollEnded (h : Warded P) (i : Nat) (c : Current) (law : P s) : P (pollEnded i c s) :=
  h.steady law ((Steady.refl s).pollEnded i c)

theorem keepPlace (h : Warded P) (b : Bool) (law : P s) : P (keepPlace b s) :=
  h.quiet law (by simp [unwatched])

theorem sends (h : Warded P) (f : Mail → Mail) (law : P s)
    (rides : (f s.mail).rideToZone = s.mail.rideToZone := by rfl)
    (groups : (f s.mail).leakToZone = s.mail.leakToZone := by rfl) : P (modMail f s) :=
  h.steady law ((Steady.refl s).modMail rides groups)

/-! ### The Zone Controller's work -/

theorem arbiter (h : Warded P) (law : P s) : P (runArbiter s) := h.tend law (.runArbiter (h.lists law))

theorem readmit (h : Warded P) (law : P s) : P (evaluateReadmit s) := h.tend law (.evaluateReadmit (h.lists law))

theorem afterDeparture (h : Warded P) (departed : Bool) (law : P s) : P (afterDeparture departed s) :=
  h.tend law ((Tends.refl (h.lists law)).afterDeparture departed)

theorem feedSetEnded (h : Warded P) (entry output : Nat) (on : Bool) (report : FeedReport) (law : P s) :
    P (feedSetEnded entry output on report s) := h.tend law (.feedSetEnded (h.lists law) _ _ _ _)

theorem zoneReport (h : Warded P) (entry : Nat) (news : Nat × Nat) (law : P s) : P (zoneReport entry s news) :=
  h.tend law (.zoneReport (h.lists law) (fun _ free => free) entry news)

theorem zoneRequest (h : Warded P) (z : Nat) (action : ZoneAction) (law : P s) : P (zoneRequest z action s).2 :=
  h.tend law (.zoneRequest (h.lists law) (fun _ free => free) z action)

theorem shedList (h : Warded P) (l : List Nat) (law : P s) : P (shedList l s).1 :=
  h.tend law (.shedList l (h.lists law))

theorem epoClearRequest (h : Warded P) (law : P s) : P (epoClearRequest s).2 := by
  unfold Machine.epoClearRequest
  split
  · split
    · exact law
    · exact h.arbiter (h.unlatch law)
  · exact law

theorem takeEpoLevel (h : Warded P) (asserted : Bool) (law : P s) : P (takeEpoLevel asserted s) := by
  have heard : P (modZc (fun c => { c with epoLine := asserted }) s) := h.drift law (.heed s fun _ => rfl)
  unfold Machine.takeEpoLevel
  exact h.ite (h.latch heard) heard

theorem takeCapNews (h : Warded P) (news : CapNews) (law : P s) : P (takeCapNews news s) :=
  h.arbiter (h.readmit (h.drift law (.heed s fun _ => rfl)))

theorem takeEnergyNews (h : Warded P) (energy : Nat) (law : P s) : P (takeEnergyNews energy s) :=
  h.readmit (h.drift law (.heed s fun _ => rfl))

theorem takeConserve (h : Warded P) {news : RideNews} (conserve : isConserve news = true) (law : P s) :
    P (takeRideNews s news) := by
  cases news with
  | state x => cases conserve
  | conserve b => exact h.readmit (h.drift law (.heed s fun _ => rfl))

theorem takeLinkNews (h : Warded P) (news : LinkNews) (law : P s) : P (takeLinkNews news s) := by
  have held : P (modZc (fun c => { c with
      link := news.state, action := news.action, shedTier := news.shedTier }) s) :=
    h.drift law (.heed s fun _ => rfl)
  unfold Machine.takeLinkNews
  exact h.ite (h.arbiter (h.tend held (.shedZones _ (h.lists held)))) (h.readmit (h.arbiter held))

theorem takeCapacityShed (h : Warded P) (zones : List Nat) (law : P s) : P (takeCapacityShed zones s) := by
  unfold Machine.takeCapacityShed
  exact h.sends _ (h.shedList zones law)

theorem takePlanShed (h : Warded P) (zones : List Nat) (law : P s) : P (takePlanShed zones s) := by
  unfold Machine.takePlanShed
  exact h.sends _ (h.shedList zones law)

theorem answerSequencer (h : Warded P) (ask : SeqAsk) (law : P s) : P (answerSequencer ask s) := by
  unfold Machine.answerSequencer
  exact h.sends _ (h.tend law (.seqQueueRequest (h.lists law) (fun _ free => free) ask.zone))

theorem inrushExpired (h : Warded P) (z : Nat) (law : P s) : P (inrushExpired z s) := by
  unfold Machine.inrushExpired
  split
  next inrush => exact h.tend law (.failAttempt (h.lists law) (by simpa [zoneIs_eq_decide] using inrush) _)
  · exact law

theorem retryExpired (h : Warded P) {z : Nat} (hz : z < 32) (law : P s) : P (retryExpired z s) :=
  h.arbiter (h.tend law (.mark (h.lists law) hz (fun _ => rfl) fun _ => rfl))

/-! ### News of the ride-through state -/

theorem rideReleaseRequest (h : Warded P) (law : P s) : P (rideReleaseRequest s) := by
  have flushed {t : State} (ht : P t) : P (flushConserveNews t) := by
    unfold flushConserveNews
    have taken : P (modMail (fun m => { m with rideToZone := m.rideToZone.filter fun x => !isConserve x }) t) :=
      h.drift ht (.conserveTaken (by simp))
    generalize modMail (fun m => { m with rideToZone := m.rideToZone.filter fun x => !isConserve x }) t = u
      at taken
    suffices run : ∀ l : List RideNews, (∀ n ∈ l, isConserve n = true) → P (l.foldl takeRideNews u) from
      run _ fun n hn => (List.mem_filter.mp hn).2
    intro l conserve
    induction l generalizing u with
    | nil => exact taken
    | cons n rest ih =>
      exact ih _ (h.takeConserve (conserve n (.head _)) taken) fun m hm => conserve m (.tail _ hm)
  have released := (Steady.refl s).modRide (f := fun r => { r with
    conserve := false, episodes := 0, window := .stopped }) rfl
  unfold Machine.rideReleaseRequest
  exact h.ite (flushed (h.steady law ((released.tellConserve false).raiseRideChange _ _))) (h.steady law released)

theorem takeInrushShed (h : Warded P) (law : P s) : P (takeInrushShed s) := by
  unfold Machine.takeInrushShed
  split
  next first => exact h.bridging law first
  · exact law

theorem takeRideDelivery (h : Warded P) (law : P s) : P (takeRideDelivery s) := by
  unfold Machine.takeRideDelivery
  split
  · exact law
  next rest waiting =>
    split
    · exact law
    next news found =>
      refine h.takeConserve (List.find?_some found) (h.drift law (.conserveTaken ?_))
      rw [waiting]
      exact congrArg (_ :: ·) (filter_dropFirst isConserve rest)
  next news rest first waiting =>
    cases news with
    | conserve b =>
      exact h.takeConserve rfl (h.drift law (.conserveTaken (by rw [waiting]; rfl)))
    | state x =>
      refine h.readmit (h.arbiter (h.ride law waiting ?_))
      rintro rfl
      exact first rfl

end Warded

end Sys2Proof.Machine

namespace Sys2Proof.Machine

namespace Warded

variable {P : State → Prop} {s : State}

/-! ### The Frame Inspector -/

theorem tellConsumers (h : Warded P) (k : Nat) (kind : NodeKind) (x : Option NodeState) (law : P s) :
    P (tellConsumers k kind x s) := by
  by_cases feed : kind = .feed
  · rw [feed]
    exact h.arbiter law
  · exact h.drift law (.tellConsumers k x s feed)

theorem changeNode (h : Warded P) (k : Nat) (x : NodeState) (cause : NodeCause) (law : P s) :
    P (changeNode k x cause s) := by
  have entered : P (modNode k (enterNodeState x) s) := h.quiet law (by simp [unwatched])
  exact h.quiet (h.tellConsumers k (nodeCfg s k).kind (some x) entered)
    (by simp [Machine.changeNode, unwatched])

theorem replyNews (h : Warded P) (k : Nat) (before : NodeRun) (taken : List Item) (law : P s) :
    P (replyNews k before taken s) := by
  have told (c : Bool) (kind : NodeKind) (x : Option NodeState) :
      P (if c then Machine.tellConsumers k kind x s else s) :=
    h.ite (h.tellConsumers k kind x law) law
  unfold Machine.replyNews
  dsimp only
  split
  · exact told _ _ _
  · exact told _ _ _
  · exact h.foldl (fun _ x => h.zoneReport k x) _ (told _ _ _)
  · exact h.steady law (.takeIndications _ s)

theorem inspectReply (h : Warded P) (k : Nat) (kind : Byte) (payload : List Byte) (poll stale : Bool)
    (law : P s) : P (inspectReply k kind payload poll stale s) := by
  rcases applies_or_unapplied k stale s with applies | unapplied
  · have settled : P (settled k kind payload s) := h.quiet law (by simp [Machine.settled, unwatched])
    have announced : P (announced k kind payload s) := by
      have told := h.replyNews k (nodeAt s k)
        (if kind == telemetryByte then itemsTaken (nodeCfg s k).kind payload else []) settled
      exact h.ite told (h.raiseFlag _ _ told)
    rw [inspectReply_of_applies applies]
    split
    · exact h.quiet announced (by simp [unwatched])
    · exact announced
  · rw [inspectReply_of_unapplied unapplied]
    exact law

theorem countMiss (h : Warded P) (k : Nat) (law : P s) : P (countMiss k s) := by
  have counted (n : Nat) : P (modNode k (fun r => { r with misses := n }) s) :=
    h.quiet law (by simp [unwatched])
  unfold Machine.countMiss
  dsimp only
  split
  · exact law
  split
  · exact h.changeNode k _ _ (counted _)
  · exact counted _

theorem loseEntry (h : Warded P) (k : Nat) (law : P s) : P (loseEntry s k) := by
  unfold Machine.loseEntry
  dsimp only
  split
  · exact law
  · exact h.changeNode k _ _ law

theorem nodeRequest (h : Warded P) (k : Nat) (disable : Bool) (law : P s) :
    P (nodeRequest k disable s).2 := by
  have serviced (x : Service) : P (setService k x s) := h.config _ law rfl rfl rfl
  have disabled : P (disableEntry k s) := by
    unfold disableEntry
    exact h.afterDeparture _ (h.firstScanTest _ _ (h.changeNode k _ _ (h.modSeg _ _ (serviced .disabled))))
  have enabled : P (enableEntry k s) := by
    unfold enableEntry
    exact h.firstScanTest _ _ (h.changeNode k _ _ (serviced .enabled))
  unfold Machine.nodeRequest
  split
  · exact law
  split
  · exact law
  split <;> dsimp only <;> split <;> assumption

/-! ### Relays -/

theorem acceptRelay (h : Warded P) (target : Nat) (k : RelayKind) (tag dest : Byte) (payload : List Byte)
    (law : P s) : P (acceptRelay target k tag dest payload s).2 := by
  have joined (n : Nat) := h.joinSegment (nodeCfg s target).segment (relayExchange n target k tag payload) law
  unfold Machine.acceptRelay
  split
  · exact law
  next n _ =>
    have accepted := h.keepPlace false (joined n)
    dsimp only
    split
    · exact h.afterDeparture _ (h.quiet accepted (by simp [unwatched]))
    · exact joined n
    · exact joined n

theorem takeRelay (h : Warded P) (f : Frame) (law : P s) : P (takeRelay f s) := by
  have gate {u : State} (hu : P u) : P (relayGate f u).2 := by
    unfold relayGate
    split
    · exact hu
    split
    · exact hu
    split
    · exact hu
    split
    · exact hu
    · exact h.acceptRelay _ _ _ _ _ hu
  have gated := gate (h.keepPlace true law)
  unfold Machine.takeRelay
  split <;> rename_i answered <;> rw [answered] at gated
  · exact gated
  · exact h.quiet gated (by simp [unwatched])

theorem relayTimedOut (h : Warded P) (n : Nat) (law : P s) : P (relayTimedOut n s) := by
  unfold Machine.relayTimedOut
  split
  · exact law
  split
  · exact h.afterDeparture _ (h.quiet law (by simp [unwatched]))
  · exact law
  · exact law

theorem tellCancelled (h : Warded P) (e : Exchange) (law : P s) : P (tellCancelled s e) := by
  unfold Machine.tellCancelled
  split
  · exact law
  · exact h.feedSetEnded _ _ _ _ law
  · split
    · exact h.relayEnded _ _ law
    · exact law
    · exact law

/-! ### The ends of exchanges, and the poll timer -/

theorem returnToIdle (h : Warded P) (i : Nat) (law : P s) : P (returnToIdle i s) := by
  unfold Machine.returnToIdle
  exact h.afterDeparture _ (h.arbitrate i (h.modSeg i _ law))

theorem tellGood (h : Warded P) (i : Nat) (c : Current) (f : Frame) (law : P s) :
    P (tellGood i c f s) := by
  unfold Machine.tellGood
  split
  · exact h.pollEnded _ _ law
  · exact h.feedSetEnded _ _ _ _ law
  · split
    · exact h.relayEnded _ _ law
    · exact law
    · exact law

theorem tellFailed (h : Warded P) (i : Nat) (c : Current) (x : Failure) (law : P s) :
    P (tellFailed i c x s) := by
  unfold Machine.tellFailed
  split
  · exact h.pollEnded _ _ (h.ite law (h.countMiss _ law))
  · exact h.feedSetEnded _ _ _ _ law
  · split
    · exact h.relayEnded _ _ law
    · exact law
    · exact law

theorem handFailure (h : Warded P) (i : Nat) (c : Current) (x : Failure) (law : P s) :
    P (handFailure i c x s) := by
  unfold Machine.handFailure
  split
  · exact h.tellFailed i c x law
  split
  · exact h.quiet law (by simp [unwatched])
  · exact h.tellFailed i c x law

theorem endFailed (h : Warded P) (i : Nat) (c : Current) (x : Failure) (law : P s) :
    P (endFailed i c x s) := by
  unfold Machine.endFailed
  refine h.returnToIdle i (h.handFailure i c x ?_)
  have counted := h.modSeg i (fun g => { g with counters := countFailure x g.counters })
    (h.modSeg i (fun g => { g with current := none }) law)
  cases x with
  | readback index => exact h.raiseFlag _ _ counted
  | noReply => exact counted
  | badReply => exact counted

theorem endGood (h : Warded P) (i : Nat) (c : Current) (f : Frame) (law : P s) :
    P (endGood i c f s) := by
  have counted : P (modCounters i (fun n => { n with good := sat16 n.good }) (clearCurrent i s)) :=
    h.quiet law (by simp [unwatched])
  unfold Machine.endGood
  exact h.returnToIdle i (h.tellGood i c f (h.inspectReply _ _ _ _ _ counted))

theorem readbackDiffers (h : Warded P) (i : Nat) (index : Byte) (law : P s) :
    P (readbackDiffers i index s) := by
  unfold Machine.readbackDiffers
  split
  · exact law
  split
  · exact h.endFailed i _ _ law
  all_goals exact law

theorem windowPassed (h : Warded P) (i : Nat) (law : P s) : P (windowPassed i s) := by
  unfold Machine.windowPassed
  split
  · exact law
  split
  · exact h.endFailed i _ _ law
  all_goals exact law

theorem replyBroken (h : Warded P) (i : Nat) (law : P s) : P (replyBroken i s) := by
  unfold Machine.replyBroken
  split
  · exact law
  split
  · exact h.endFailed i _ _ law
  all_goals exact law

theorem replyArrived (h : Warded P) (i : Nat) (bytes : List Byte) (law : P s) :
    P (replyArrived i bytes s) := by
  unfold Machine.replyArrived
  split
  · exact law
  split
  · split
    · exact h.endGood i _ _ law
    · exact h.endFailed i _ _ law
  all_goals exact law

theorem runOwed (h : Warded P) (i : Nat) (law : P s) : P (runOwed i s).1 := by
  have run (l : List Nat) (within : ∀ z ∈ l, z < 32) (x : State × Bool) (hx : P x.1) :
      P (l.foldl requeueOwed x).1 := by
    induction l generalizing x with
    | nil => exact hx
    | cons z rest ih =>
      exact ih (fun y hy => within y (.tail _ hy)) _ (h.tend hx (.queueDisable (h.lists hx) (within z (.head _))))
  exact run _ (fun z owed => List.mem_range.mp (List.mem_filter.mp owed).1) (s, false) law

theorem scanAndOwed (h : Warded P) (i : Nat) (law : P s) : P (scanAndOwed i s).1 := by
  have run {u : State} (hu : P u) : P (runScan i u).1 := h.quiet hu (by simp [unwatched])
  have used : P (useFree s) := h.quiet law (by simp [unwatched])
  unfold Machine.scanAndOwed
  split
  · exact run law
  split
  · exact run (h.runOwed i used)
  · exact h.runOwed i (run used)

theorem pollExpired (h : Warded P) (i : Nat) (law : P s) : P (pollExpired i s) := by
  have aged {u : State} (hu : P u) : P (ageItems i u) := h.quiet hu rfl
  unfold Machine.pollExpired
  exact h.afterDeparture _ (h.firstScanTest _ _ (h.scanAndOwed i (aged (h.modSeg i _ law))))

/-! ### Table writes -/

theorem segmentEnableChanged (h : Warded P) (i : Nat) (law : P s) : P (segmentEnableChanged i s) := by
  have disabled : P (disableSegment i s) := by
    unfold disableSegment loseSegment
    dsimp only
    exact h.afterDeparture _ (h.foldl (fun _ k => h.loseEntry k) _
      (h.foldl (fun _ e => h.tellCancelled e) _ (h.modSeg i _ law)))
  have written : P (segmentEnableWritten i s) := by
    unfold segmentEnableWritten
    split
    · split
      · exact h.quiet law (by simp [unwatched])
      · exact law
    · split
      · exact law
      · exact disabled
  exact h.steady written ((Steady.refl _).tryAutostart)

theorem settingWritten (h : Warded P) {k : Nat} (other : k ≠ 15) (law : P s) : P (settingWritten k s) := by
  have start := Steady.refl s
  unfold Machine.settingWritten
  split
  case h_1 | h_2 | h_3 | h_4 => exact h.segmentEnableChanged _ law
  case h_5 => exact h.steady law (.recomputeAvailable s)
  case h_6 => exact absurd rfl other
  case h_7 => exact h.readmit law
  case h_8 => exact h.drift law (.evaluateIndication s)
  case h_9 | h_10 => exact h.steady law start.recomputeEnergy
  case h_11 | h_12 => exact h.steady law start.driveAlert
  case h_13 => exact law

theorem writeSetting (h : Warded P) (k v : Nat) (law : P s) : P (writeSetting k v s) := by
  rw [writeSetting_eq]
  by_cases slots : k = 15
  · subst slots
    split
    next same => exact h.config _ law rfl rfl same
    · exact h.slots _ law
  · have stored : P { s with tables := { s.tables with settings := settingsAfter k v s } } :=
      h.config _ law rfl rfl ((nth_fitPartner k _ (by decide)).trans (nth_put_of_ne _ _ slots))
    split
    · exact stored
    · exact h.settingWritten slots stored

theorem tellWritten (h : Warded P) (k : Nat) (old new : NodeCfg) (law : P s) :
    P (tellWritten k old new s) := by
  have told (c : Bool) (kind : NodeKind) (x : Option NodeState) {u : State} (hu : P u) :
      P (if c then Machine.tellConsumers k kind x u else u) :=
    h.ite (h.tellConsumers k kind x hu) hu
  exact told _ _ _ (told _ _ _ law)

theorem takeNodeWrite (h : Warded P) (k : Nat) (c : NodeCfg) (law : P s) : P (takeNodeWrite k c s) := by
  have stored : P { s with
      tables := { s.tables with nodes := put s.tables.nodes k c }
      nodes := put s.nodes k (writtenRun c) } :=
    h.quiet (h.config { s.tables with nodes := put s.tables.nodes k c } law rfl rfl rfl) rfl
  have marked {u : State} (hu : P u) : P (markEntryWritten k u) := h.quiet hu rfl
  have scanned (b : Bool) (i : Nat) {u : State} (hu : P u) :
      P (if b then Machine.firstScanTest false i u else u) := h.ite (h.firstScanTest _ _ hu) hu
  have told := h.tellWritten k (nodeCfg s k) c (h.foldl (fun _ e => h.tellCancelled e)
    (if (nodeCfg s k).inUse then queuedFor s (nodeCfg s k).segment k else [])
    (marked (h.ite (b := (nodeCfg s k).inUse) (h.removeExchanges (nodeCfg s k).segment k stored) stored)))
  exact h.afterDeparture _ (scanned _ _ (scanned _ _ (h.ite told (h.raiseFlag _ _ told))))

theorem takeLevelNews (h : Warded P) (news : LevelNews) (law : P s) : P (takeLevelNews news s) := by
  unfold Machine.takeLevelNews
  split
  · exact h.drift law (.evaluateIndication s)
  split
  · exact h.takeEpoLevel _ law
  · exact h.steady law (.takeIndications _ s)

theorem sampleLine (h : Warded P) (i : Nat) (drive : PinDrive) (law : P s) : P (sampleLine i drive s) := by
  have sampled : P (sampledLevel i drive s).2 := h.quiet law (by simp [unwatched])
  unfold Machine.sampleLine judgeSample
  dsimp only
  split
  · exact h.quiet sampled (by simp [unwatched])
  split
  · exact h.takeLevelNews _ (h.quiet sampled (by simp [unwatched]))
  · exact h.quiet sampled (by simp [unwatched])

theorem deliverEnable (h : Warded P) (i : Nat) (on : Bool) (law : P s) : P (deliverEnable i on s) := by
  unfold Machine.deliverEnable
  split
  · exact h.drift law (.evaluateIndication s)
  split
  · exact law
  · exact h.steady law (.takeLeakEnable _ on s)

theorem writeLine (h : Warded P) (i : Nat) (c : LineCfg) (law : P s) : P (writeLine i c s) := by
  have stored : P { s with tables := { s.tables with lines := put s.tables.lines i (clampLine i c) } } :=
    h.config _ law rfl rfl rfl
  unfold Machine.writeLine
  dsimp only
  split
  · split
    · exact stored
    · exact h.takeLevelNews _ stored
  split
  · exact h.deliverEnable i false (h.quiet stored rfl)
  split
  · exact h.deliverEnable i true (h.quiet stored rfl)
  · exact stored

theorem offerEntry (h : Warded P) (table : TableId) (k : Nat) (bytes : List Byte) (law : P s) :
    P (offerEntry table k bytes s).1 := by
  unfold Machine.offerEntry
  cases table with
  | node =>
    dsimp only
    split
    · exact law
    · split
      · exact h.takeNodeWrite _ _ law
      · exact law
  | limit => dsimp only; split; exacts [law, h.config _ law rfl rfl rfl]
  | zone =>
    dsimp only
    split
    · exact law
    · split
      next writable => exact h.write law writable
      · exact law
  | leakChannel =>
    dsimp only
    split
    · exact law
    · exact h.steady law (.writeChannel k _ s)
  | leakMap =>
    dsimp only
    split
    · exact law
    next c _ =>
      unfold writeLeakMap
      split
      next clear => exact h.steady (h.map _ law (eq_of_beq clear)) ((Steady.refl _).evaluateGroups _ _)
      · exact law
  | sequence =>
    dsimp only
    split
    · exact law
    · split
      · exact law
      · exact h.config _ law rfl rfl rfl
  | line => dsimp only; split; exacts [law, h.writeLine _ _ law]
  | settings => dsimp only; split; exacts [law, h.writeSetting _ _ law]

theorem takeEntries (h : Warded P) (table : TableId) (l : List (List Byte)) {p : Progress}
    (law : P p.state) : P (l.foldl (takeEntry table) p).state := by
  induction l generalizing p with
  | nil => exact law
  | cons bytes rest ih =>
    refine ih ?_
    have offered := h.offerEntry table p.next bytes law
    unfold takeEntry
    split
    · exact law
    split <;> rename_i taken <;> rw [taken] at offered <;> exact offered

theorem tableDataRequest (h : Warded P) (payload : List Byte) (law : P s) :
    P (tableDataRequest payload s).2.2 := by
  unfold Machine.tableDataRequest
  split
  · exact law
  split
  · exact law
  next r _ =>
    dsimp only
    split
    · exact h.quiet (h.takeEntries r.table
        (entriesOf (entrySize r.table) (payload.length / entrySize r.table) payload)
        (p := ⟨0, 0, none, r.next, r.remaining, s⟩) law) (by simp [unwatched])
    · exact law

/-! ### Requests and frames -/

theorem imageSaveRequest (h : Warded P) (law : P s) : P (imageSaveRequest s).2 := by
  unfold Machine.imageSaveRequest
  split
  · exact law
  · refine h.image _ law fun x hx => ?_
    rcases List.mem_cons.mp hx with rfl | hx
    · exact .tail _ (.head _)
    · rw [List.mem_singleton.mp hx]
      exact .head _

theorem imageEraseRequest (h : Warded P) (law : P s) : P (imageEraseRequest s).2 := by
  have erased : Steady s { s with image := { s.image with status := .erased } } := .of_same rfl rfl rfl rfl rfl
  unfold Machine.imageEraseRequest
  split
  · exact law
  · exact h.steady law (erased.raiseImage _)

theorem carryOut (h : Warded P) (r : Request) (law : P s) : P (carryOut r s).2.2 := by
  cases r with
  | tableData payload => exact h.tableDataRequest payload law
  | node entry disable => exact h.nodeRequest _ _ law
  | zone z action => exact h.zoneRequest _ _ law
  | epoClear => exact h.epoClearRequest law
  | rideRelease => exact h.rideReleaseRequest law
  | leakClear group => exact h.clear _ law
  | keepalive => exact h.steady law (Steady.refl s).keepaliveTaken
  | seqRun start count => exact h.steady law (.seqRunRequest _ _ s)
  | imageSave => exact h.imageSaveRequest law
  | imageErase => exact h.imageEraseRequest law
  | status subject index => exact law
  | tableRead table start count => exact law
  | _ => exact h.quiet law (by simp [Machine.carryOut, unwatched])

theorem serve (h : Warded P) (tag : Byte) (r : Request) (law : P s) : P (serve tag r s) :=
  h.quiet (h.carryOut r (h.keepPlace true law)) rfl

theorem takeFrame (h : Warded P) (f : Frame) (law : P s) : P (takeFrame f s) := by
  unfold Machine.takeFrame
  split
  · split
    · exact h.serve _ _ law
    · exact h.quiet law (by simp [unwatched])
  · exact h.takeRelay f law

theorem takeHead (h : Warded P) (law : P s) : P (takeHead s) := by
  unfold Machine.takeHead
  split
  · exact law
  split
  · exact h.takeFrame _ (h.quiet law rfl)
  · exact law

theorem request (h : Warded P) (tag : Byte) (r : Request) (law : P s) : P (request tag r s) := by
  unfold Machine.request
  split
  · exact h.quiet law (by simp [unwatched])
  split
  · exact h.serve tag r law
  · exact h.quiet law (by simp [unwatched])

theorem relayArrives (h : Warded P) (f : Frame) (law : P s) : P (relayArrives f s) := by
  unfold Machine.relayArrives
  split
  · exact h.quiet law (by simp [unwatched])
  split
  · exact h.quiet law (by simp [unwatched])
  split
  · exact h.takeFrame f law
  · exact h.quiet law (by simp [unwatched])

end Warded

end Sys2Proof.Machine

namespace Sys2Proof.Machine

/-! ## The walk over the commands -/

namespace Warded

open Inspected (Keeps)

variable {P : State → Prop} {s : State}

theorem onExpiry (h : Warded P) (x : Timer) {f : State → State} (hf : ∀ s, P s → P (f s)) (law : P s) :
    Keeps P (.next (onExpiry x f s)) := by
  refine Inspected.keeps_next ?_
  cases x with
  | stopped => exact law
  | running d => exact hf _ (h.quiet law rfl)

/-- An expiry that the law does not see. -/
theorem onExpiry_drift (h : Warded P) (x : Timer) {f : State → State} (hf : ∀ s, Drifts s (f s)) (law : P s) :
    Keeps P (.next (Machine.onExpiry x f s)) := h.onExpiry x (fun s hs => h.drift hs (hf s)) law

/-- A delivery on a path other than the Zone Controller's of the ride-through state and the groups. -/
theorem onDelivery (h : Warded P) {α : Type} (path : List α) (rest : List α → Mail → Mail)
    {f : α → State → State} (hf : ∀ x s, P s → P (f x s)) (law : P s)
    (away : ∀ l m, ((rest l m).rideToZone, (rest l m).leakToZone) = (m.rideToZone, m.leakToZone) := by
      intros; rfl) :
    Keeps P (.next (onDelivery path rest f s)) := by
  refine Inspected.keeps_next ?_
  cases path with
  | nil => exact law
  | cons x tail =>
    have same := away tail s.mail
    rw [Prod.mk.injEq] at same
    exact hf x _ (h.sends (rest tail) law same.1 same.2)

theorem onDelivery_drift (h : Warded P) {α : Type} (path : List α) (rest : List α → Mail → Mail)
    {f : α → State → State} (hf : ∀ x s, Drifts s (f x s)) (law : P s)
    (away : ∀ l m, ((rest l m).rideToZone, (rest l m).leakToZone) = (m.rideToZone, m.leakToZone) := by
      intros; rfl) :
    Keeps P (.next (Machine.onDelivery path rest f s)) :=
  h.onDelivery path rest (fun x s hs => h.drift hs (hf x s)) law away

/-- A group's change of state reaches the Zone Controller. -/
theorem leakGroupDelivery (h : Warded P) (law : P s) : Keeps P (execLeakGroupDelivery s) := by
  refine Inspected.keeps_next ?_
  cases waiting : s.mail.leakToZone with
  | nil => exact law
  | cons n rest => exact h.group law waiting

theorem takeNormal (normal : Bool) (s : State) :
    Drifts s (if normal then resumeCapacity s else suspendCapacity s) :=
  (Steady.ite (.resumeCapacity s) (.suspendCapacity s)).drifts

/-- R166: the save in flight completes. -/
theorem imageSaved (h : Warded P) (crcMatches : Bool) (law : P s) : P (imageSaved crcMatches s) := by
  unfold Machine.imageSaved
  split
  · exact law
  next copy saving =>
    refine h.raiseFlag _ _ (h.image _ law fun x hx => ?_)
    rw [List.mem_singleton.mp hx, saving]
    exact .tail _ (.tail _ (.head _))

/-! ### Resets (R159, R160, R168) -/

/-- R141, R160: what follows the reset of the blocks is seen by neither law. -/
theorem restarted (h : Warded P) (particulars : List Byte) (law : P s) : P (restart particulars s) :=
  h.steady law ((Steady.refl s).restart particulars)

theorem coldReset (h : Warded P) (kind : ResetKind) (law : P s) : P (coldReset kind s) := by
  have tables (b : Bool) : (if b then s.image.tables else Tables.empty) = s.tables ∨
      (if b then s.image.tables else Tables.empty) = s.image.tables ∨
      (if b then s.image.tables else Tables.empty) = Tables.empty := by
    cases b
    · exact .inr (.inr rfl)
    · exact .inr (.inl rfl)
  unfold Machine.coldReset
  refine h.steady ?_ (Steady.refl _).tryAutostart
  have restarted (k : Kept) (normal : k.ride.state = .normal) :=
    h.restarted (be1 kind.ctorIdx ++ beBool (imageRestores s.image))
      (h.reset (y := imageChecked s.image) k law (tables (imageRestores s.image)) rfl rfl normal)
  exact h.ite (restarted _ rfl) (h.raiseFlag _ _ (restarted _ rfl))

theorem warmReset (h : Warded P) (law : P s) : P (warmReset s) := by
  have restarted := h.restarted (be1 ResetKind.soft.ctorIdx) (h.reset (y := { s.image with
    status := if s.image.saving.isSome then .invalid else s.image.status, saving := none })
    ⟨.none, rideKept s, s.leak.groups.map groupKept⟩ law (.inl rfl) rfl rfl rfl)
  unfold Machine.warmReset
  exact h.ite (h.raiseFlag _ _ restarted) restarted

/-! ### The commands -/

theorem replyWindowExpiry (h : Warded P) (i : Fin 4) (law : P s) : Keeps P (execReplyWindowExpiry i s) := by
  unfold execReplyWindowExpiry
  split
  · exact Inspected.keeps_next law
  · exact h.onExpiry _ (fun _ => h.windowPassed i) law

theorem relayTimerExpiry (h : Warded P) (n : Fin 8) (law : P s) : Keeps P (execRelayTimerExpiry n s) := by
  unfold execRelayTimerExpiry
  split
  · exact Inspected.keeps_next law
  · exact h.onExpiry _ (fun _ => h.relayTimedOut n) law

theorem capacityDelivery (h : Warded P) (receiver : Receiver) (law : P s) :
    Keeps P (execCapacityDelivery receiver s) := by
  cases receiver with
  | zoneController => exact h.onDelivery _ _ (fun x _ => h.takeCapNews x) law
  | sequencer => exact h.onDelivery_drift _ _ (fun x s => (Steady.seqTakeCapNews x s).drifts) law

theorem energyFigureDelivery (h : Warded P) (receiver : Receiver) (law : P s) :
    Keeps P (execEnergyFigureDelivery receiver s) := by
  cases receiver with
  | zoneController => exact h.onDelivery _ _ (fun x _ => h.takeEnergyNews x) law
  | sequencer => exact h.onDelivery_drift _ _ (fun x s => (Steady.seqTakeEnergy x s).drifts) law

theorem epoFailNotice (h : Warded P) (law : P s) : Keeps P (execEpoFailNotice s) := by
  refine Inspected.keeps_next ?_
  split
  · exact law
  · refine h.quiet (h.sends (fun m => { m with epoFail := m.epoFail - 1 }) law) (by simp [unwatched])

theorem autostart (h : Warded P) (law : P s) : Keeps P (execAutostart s) := by
  refine Inspected.keeps_next ?_
  split
  · exact law
  · exact h.steady (h.sends _ law) (Steady.refl _).tryAutostart

/-- Every command keeps the law. -/
theorem exec (h : Warded P) (c : Instr) (law : P s) : Keeps P (exec c s) := by
  have quiet {t : State} (same : erase unwatched t = erase unwatched s) : Keeps P (.next t) :=
    Inspected.keeps_next (h.quiet law same)
  cases c with
  | powerOnReset => exact Inspected.keeps_next (h.coldReset _ law)
  | hardReset => exact Inspected.keeps_next (h.ite (h.coldReset _ law) law)
  | softReset => exact Inspected.keeps_next (h.ite (h.warmReset law) law)
  | upstreamFrame bytes => exact quiet (by simp [unwatched])
  | upstreamByteTimeout => exact quiet (by simp [unwatched])
  | rxFrameTaken => exact Inspected.keeps_next (h.takeHead law)
  | transmitStart => exact quiet (by simp [unwatched])
  | transmitDone => exact quiet (by simp [unwatched])
  | keepaliveCloseTime => exact Inspected.keeps_next (h.steady law (.closeTimePassed s))
  | imageSaveComplete crcMatches => exact Inspected.keeps_next (h.imageSaved crcMatches law)
  | relayAnswerPlaced => exact quiet (by simp [unwatched])
  | resetHard tag | resetSoft tag | keepalive tag | statusSummary tag part | statusNode tag entry
  | statusZone tag zone | statusCapacity tag part | statusRide tag part | statusLeak tag part
  | statusSequencer tag part | statusSegment tag segment | statusQueues tag part | flagTake tag flags
  | tableLoad tag table start count | tableData tag payload | tableRead tag table start count
  | zoneOn tag zone | zoneOff tag zone | zoneReset tag zone | seqRun tag start count | seqStop tag
  | leakClear tag group | epoClear tag | rideRelease tag | nodeEnable tag entry
  | nodeDisable tag entry | imageSave tag | imageErase tag => exact Inspected.keeps_next (h.request _ _ law)
  | relayPoll tag dest payload | relayItemRead tag dest payload | relayItemWrite tag dest payload
  | relayFeedSet tag dest payload => exact Inspected.keeps_next (h.relayArrives _ law)
  | relayTimerExpiry slot => exact h.relayTimerExpiry slot law
  | pollTimerExpiry segment => exact h.onExpiry _ (fun _ => h.pollExpired _) law
  | sendComplete segment => exact quiet (by simp [unwatched])
  | readbackMismatch segment index => exact Inspected.keeps_next (h.readbackDiffers _ _ law)
  | replyFirstByte segment => exact quiet (by simp [unwatched])
  | replyWindowExpiry segment => exact h.replyWindowExpiry segment law
  | replyComplete segment bytes => exact Inspected.keeps_next (h.replyArrived _ _ law)
  | replySilence segment => exact Inspected.keeps_next (h.replyBroken _ law)
  | loadWindowExpiry => exact h.onExpiry_drift _ (fun s => (Steady.of_erase (by simp [unwatched])).drifts) law
  | graceTimerExpiry => exact h.onExpiry_drift _ (fun s => (Steady.graceExpired s).drifts) law
  | stepTimerExpiry => exact h.onExpiry_drift _ (fun s => (Steady.stepTimedOut s).drifts) law
  | channelConfirmExpiry channel =>
    exact h.onExpiry_drift _ (fun s => (Steady.channelConfirmed channel s).drifts) law
  | chatterTimerExpiry => exact h.onExpiry_drift _ (fun s => (Steady.chatterExpired s).drifts) law
  | beaconTimerExpiry => exact h.onExpiry_drift _ (fun s => (Steady.beaconExpired s).drifts) law
  | inrushTimerExpiry zone => exact h.onExpiry _ (fun _ => h.inrushExpired _) law
  | retryTimerExpiry zone => exact h.onExpiry _ (fun _ => h.retryExpired zone.isLt) law
  | confirmTimerExpiry => exact h.onExpiry_drift _ Drifts.confirmExpired law
  | settleTimerExpiry => exact h.onExpiry_drift _ Drifts.settleExpired law
  | recomputeTimerExpiry => exact h.onExpiry_drift _ Drifts.recomputeExpired law
  | episodeWindowExpiry => exact h.onExpiry_drift _ (fun s => (Steady.windowExpired s).drifts) law
  | lineSample line drive => exact h.onExpiry _ (fun _ => h.sampleLine _ drive) law
  | capacityShedTaken => exact h.onDelivery _ _ (fun zones _ => h.takeCapacityShed zones) law
  | planShedTaken => exact h.onDelivery _ _ (fun zones _ => h.takePlanShed zones) law
  | capacityShedCompletion =>
    exact h.onDelivery_drift _ _ (fun _ s => (Steady.capacityShedDone s).drifts) law
  | planShedCompletion =>
    exact h.onDelivery_drift _ _ (fun x s => (Steady.planShedDone x s).drifts) law
  | capacityDelivery receiver => exact h.capacityDelivery receiver law
  | energyFigureDelivery receiver => exact h.energyFigureDelivery receiver law
  | seqZoneQueueRequest => exact h.onDelivery _ _ (fun ask _ => h.answerSequencer ask) law
  | seqZoneAnswer =>
    exact h.onDelivery_drift _ _ (fun x s => (Steady.takeAnswer x s).drifts) law
  | zoneStateDelivery =>
    exact h.onDelivery_drift _ _ (fun x s => (Steady.takeZoneNews x s).drifts) law
  | sequencerRideNotice =>
    exact h.onDelivery_drift _ _ (fun x s => (Steady.seqTakeRide x s).drifts) law
  | epoFailNotice => exact h.epoFailNotice law
  | autostart => exact h.autostart law
  | capacityRideNotice =>
    exact h.onDelivery_drift _ _ (takeNormal) law
  | rideDeliveryZone => exact Inspected.keeps_next (h.takeRideDelivery law)
  | bridgingInrushShed => exact Inspected.keeps_next (h.takeInrushShed law)
  | leakGroupDelivery => exact h.leakGroupDelivery law
  | linkStateDelivery => exact h.onDelivery _ _ (fun news _ => h.takeLinkNews news) law

/-- A step keeps the law: the command at the front of the queue is carried out, or 1 ms passes. -/
theorem step (h : Warded P) (law : P s) : Keeps P (step s) := by
  unfold Machine.step
  split
  · exact Inspected.keeps_next (h.quiet law rfl)
  next c rest _ => exact h.exec c (s := { s with pending := rest }) (h.quiet law rfl)

end Warded

end Sys2Proof.Machine

namespace Sys2Proof.Machine

/-! ## The law of admission over one step (R63, R71, R82, R126) -/

/-- R59, R71, R82: what the law of admission asks of a record, given the lockout limits and the latch. -/
def admissionTerms (limit : Nat → Nat) (latch : Bool) : Terms where
  fine z r := 1 ≤ limit z ∧ (if r.state = .lockout then r.attempts = limit z else r.attempts < limit z) ∧
    (latch = true → Idle r.state)
  waits z r := r.attempts < limit z ∧ latch = false

/-- The lockout limits of the Zone Table. -/
def limits (s : State) (z : Nat) : Nat := (zoneCfg s z).lockout

theorem sound_admission {s : State} {latch : Bool} (latched : latch = true → s.zc.epoLatch = true)
    (may : Nat → Prop) : Sound s may (admissionTerms (limits s) latch) where
  flags := by
    rintro z r r' fine state attempts
    simpa only [admissionTerms, state, attempts] using fine
  fewer waits fewer := ⟨fewer.trans_lt waits.1, waits.2⟩
  active := by
    rintro z r ⟨-, attempts, idle⟩ active
    rw [if_neg fun locked => active (.inr (.inr locked))] at attempts
    exact ⟨attempts, by simpa using fun set => active (idle set)⟩
  runs := by
    rintro z r ⟨attempts, latch⟩ active
    refine ⟨by omega, ?_, fun set => by simp [latch] at set⟩
    rwa [if_neg fun locked => active (.inr (.inr locked))]
  rests := by
    rintro z r r' ⟨one, attempts, -⟩ unlocked rests same
    rw [if_neg unlocked] at attempts
    refine ⟨one, ?_, fun _ => rests.imp id fun isolated => .inl isolated.1⟩
    rcases rests with state | ⟨state, -⟩
    all_goals simpa [state, same] using attempts
  locks := by
    rintro z r r' ⟨attempts, -⟩ - limit state
    have least : 1 ≤ limits s z := by omega
    exact ⟨least, by rw [if_pos state]; exact limit, fun _ => .inr (.inr state)⟩
  retries := by
    rintro z r r' ⟨attempts, latch⟩ more other
    have below : r'.attempts ≠ limits s z := other
    exact ⟨by omega, latch⟩
  unlocks := by
    rintro z r r' ⟨one, -, -⟩ - state attempts
    refine ⟨one, ?_, fun _ => .inl state⟩
    rw [if_neg (by simp [state])]
    omega
  enters := by
    rintro z r ⟨-, attempts, -⟩ state - - unlatched
    rw [if_neg (by simp [state])] at attempts
    exact ⟨attempts, by cases latch <;> simp_all⟩

/-- R71, R82: every zone meets the terms of the law of admission. -/
def MeetsLimits (s : State) : Prop :=
  ∀ z < 32, (admissionTerms (limits s) s.zc.epoLatch).fine z (zoneAt s z)

theorem admissionLaw_iff {s : State} : AdmissionLaw s ↔ inrushCount s ≤ slotCount s ∧
    (s.zc.ride = .bridging ∨ s.zc.ride = .restoring → inrushCount s = 0) ∧
    rideFollows s.zc.ride s.mail.rideToZone s.ride.state = true ∧ MeetsLimits s ∧
    ∀ t ∈ s.tables :: s.image.tables :: s.image.saving.toList, ∀ z < 32, 1 ≤ (nth t.zones z).lockout := by
  constructor
  · rintro ⟨slots, held, follows, attempts, limit, idle⟩
    exact ⟨slots, held, follows,
      fun z hz => ⟨limit _ (.head _) z hz, attempts z hz, fun set => idle set z hz⟩, limit⟩
  · rintro ⟨slots, held, follows, admitted, limit⟩
    exact ⟨slots, held, follows, fun z hz => (admitted z hz).2.1, limit, fun set z hz => (admitted z hz).2.2 set⟩

/-- The zones that meet the terms are fit for the Zone Controller's work. -/
theorem fit_of_fine {s : State} (lists : ZoneListsLaw s) {latch : Bool}
    (latched : latch = true → s.zc.epoLatch = true)
    (fine : ∀ z < 32, (admissionTerms (limits s) latch).fine z (zoneAt s z)) (may : Nat → Prop) :
    Fit may (admissionTerms (limits s) latch) (inrushCount s) s := by
  have sound := sound_admission latched may
  refine ⟨sound, fun z queued => (queued_of_mem lists queued).1, fine, fun z queued => ?_, Nat.le_max_right _ _,
    fun _ => Nat.le_refl _⟩
  obtain ⟨hz, state⟩ := queued_of_mem lists queued
  exact sound.active (fine z hz) (by simp [state])

/-- The law after a change that leaves the Zone Table and the Image Store as they were. -/
theorem admissionLaw_of_fine {s t : State} (law : AdmissionLaw s) (zones : t.tables.zones = s.tables.zones)
    (image : t.image = s.image) (fine : ∀ z < 32, (admissionTerms (limits s) t.zc.epoLatch).fine z (zoneAt t z))
    (slots : inrushCount t ≤ slotCount t)
    (held : t.zc.ride = .bridging ∨ t.zc.ride = .restoring → inrushCount t = 0)
    (follows : rideFollows t.zc.ride t.mail.rideToZone t.ride.state = true) : AdmissionLaw t := by
  obtain ⟨-, -, -, -, limit⟩ := admissionLaw_iff.mp law
  have same : limits t = limits s := funext fun z => congrArg ZoneCfg.lockout (zoneCfg_congr zones z)
  refine admissionLaw_iff.mpr ⟨slots, held, follows, ?_, fun x hx => ?_⟩
  · unfold MeetsLimits
    rwa [same]
  · rcases List.mem_cons.mp hx with rfl | hx
    · rw [zones]
      exact limit _ (.head _)
    · rw [image] at hx
      exact limit x (.tail _ hx)

/-- The law where all it reads is as it was, but for the changes of the ride-through state in flight. -/
theorem admissionLaw_congr {s t : State} (law : AdmissionLaw s) (same : watched t = watched s)
    (follows : rideFollows s.zc.ride s.mail.rideToZone s.ride.state = true →
      rideFollows s.zc.ride t.mail.rideToZone t.ride.state = true) : AdmissionLaw t := by
  obtain ⟨slots, held, chain, attempts, limit, idle⟩ := law
  simp only [watched, Watched.mk.injEq] at same
  obtain ⟨zones, -, count, tables, saving, records, -, -, ride, -, latch⟩ := same
  have record (z : Nat) : zoneAt t z = zoneAt s z := by rw [zoneAt, zoneAt, records]
  have cfg := zoneCfg_congr zones
  have inrush := inrushCount_congr records
  refine ⟨by rwa [inrush, count], by rwa [inrush, ride], by rw [ride]; exact follows chain, ?_, ?_, ?_⟩
  · simpa only [record, cfg] using attempts
  · intro x hx
    rw [tables, saving] at hx
    rcases List.mem_cons.mp hx with rfl | hx
    · rw [zones]
      exact limit _ (.head _)
    · exact limit x (.tail _ hx)
  · simpa only [record, latch] using idle

/-- The law after the Zone Controller's work, where the tables had changed before it but for the zones'. -/
theorem admissionLaw_of_tends {s t u : State} {may : Nat → Prop} {n : Nat} (law : AdmissionLaw s)
    (same : erase [.tables] u = erase [.tables] s) (zones : u.tables.zones = s.tables.zones)
    (tends : Tends may u t) (fit : Fit may (admissionTerms (limits u) u.zc.epoLatch) n t)
    (slots : n ≤ slotCount t) (held : s.zc.ride = .bridging ∨ s.zc.ride = .restoring → n = 0) :
    AdmissionLaw t := by
  obtain ⟨-, -, follows, -, -⟩ := admissionLaw_iff.mp law
  have before := touches_of_erase same
  have tables : t.tables = u.tables := tends.work.works.tables
  have after := touches_of_erase tends.same
  have image : t.image = s.image := (after .image (by decide)).trans (before .image (by decide))
  have ride : t.ride = s.ride := (after .ride (by decide)).trans (before .ride (by decide))
  have mail : u.mail = s.mail := before .mail (by decide)
  have zc : u.zc = s.zc := before .zc (by decide)
  have rides : t.mail.rideToZone = s.mail.rideToZone := tends.work.sends.rideToZone.trans (by rw [mail])
  have rideHeld : t.zc.ride = s.zc.ride := tends.ride.trans (by rw [zc])
  have latch : t.zc.epoLatch = s.zc.epoLatch := tends.latch.trans (by rw [zc])
  have limit : limits u = limits s := funext fun z => congrArg ZoneCfg.lockout (zoneCfg_congr zones z)
  rw [limit, zc, ← latch] at fit
  refine admissionLaw_of_fine law (by rw [tables, zones]) image fit.fine
    (fit.slots.trans (max_le (Nat.le_refl _) slots)) (fun other => ?_) (by rwa [rideHeld, rides, ride])
  have none := held (rideHeld ▸ other)
  have within := fit.held (by rcases other with other | other <;> simp [other])
  omega

/-! ### The slot count and the EPO latch -/

theorem mem_take_inrushZones {s : State} {k z : Nat} (h : z ∈ (inrushZones s).take k) :
    (zoneAt s z).state = .inrush :=
  (mem_inrushZones.mp (List.mem_of_mem_take h)).2

/-- R63: the slot count is written: a surplus leaves INRUSH. -/
theorem admissionLaw_slots {s : State} (lists : ZoneListsLaw s) (law : AdmissionLaw s) (v : Vector Nat 41) :
    AdmissionLaw (slotCountWritten { s with tables := { s.tables with settings := v } }) := by
  obtain ⟨-, held, -, fine, -⟩ := admissionLaw_iff.mp law
  have same : erase [.tables] { s with tables := { s.tables with settings := v } } = erase [.tables] s := rfl
  have fit := fit_of_fine (s := { s with tables := { s.tables with settings := v } }) lists id fine fun _ => True
  have count : inrushCount { s with tables := { s.tables with settings := v } } = inrushCount s :=
    inrushCount_congr rfl
  have zones : ({ s with tables := { s.tables with settings := v } } : State).tables.zones = s.tables.zones := rfl
  have listed : ZoneListsLaw { s with tables := { s.tables with settings := v } } := lists
  generalize ({ s with tables := { s.tables with settings := v } } : State) = u at *
  unfold slotCountWritten
  split
  next surplus =>
    have tends : Tends (fun _ => True) u (shedSurplus u) := .shedZones _ listed
    have length : ((inrushZones u).take (inrushCount u - slotCount u)).length = inrushCount u - slotCount u := by
      rw [List.length_take, inrushCount, Nat.min_eq_left (Nat.sub_le _ _)]
    have enough : inrushCount u = slotCount u + ((inrushZones u).take (inrushCount u - slotCount u)).length := by
      omega
    rw [enough] at fit
    refine admissionLaw_of_tends law same zones tends (Fit.shedSurplus _ fit listed
      ((nodup_inrushZones u).sublist (List.take_sublist _ _)) (fun _ => mem_take_inrushZones) (Nat.le_refl _)) ?_
      fun other => ?_
    · exact (tends.work.setting 15).ge
    · have none := held other
      omega
  next fits =>
    have tends : Tends (fun _ => True) u (runArbiter u) := .runArbiter listed
    refine admissionLaw_of_tends law same zones tends (tends.fit fit) ?_ fun other => count.trans (held other)
    exact (Nat.le_of_not_lt fits).trans (tends.work.setting 15).ge

end Sys2Proof.Machine

namespace Sys2Proof.Machine

/-! ## The EPO latch takes every zone (R82) -/

/-- R82: a zone that waits or runs is taken off; an OFF zone awaiting adoption is given a disable. -/
theorem epoZone_eq (s : State) (z : Nat) : epoZone s z =
    if (zoneAt s z).state = .off ∧ (zoneAt s z).adoptPending = true then
      afterDeparture (queueDisable z (modZone z (fun r => { r with adoptPending := false }) s)).2
        (queueDisable z (modZone z (fun r => { r with adoptPending := false }) s)).1
    else zoneOffRequest z s := by
  cases state : (zoneAt s z).state with
  | off => cases waiting : (zoneAt s z).adoptPending <;> simp [epoZone, zoneOffRequest, state, waiting]
  | _ => simp [epoZone, zoneOffRequest, state]

theorem idle_epoZone {s : State} (lists : ZoneListsLaw s) {z : Nat} (hz : z < 32) :
    Idle (zoneAt (epoZone s z) z).state := by
  rw [epoZone_eq]
  split
  next waiting =>
    obtain ⟨queue, owed, record⟩ := queueDisable_zone z (modZone z (fun r => { r with adoptPending := false }) s) z
    have after := ((WorksOn.refl (Z := fun _ => False) _).afterDeparture
      (queueDisable z (modZone z (fun r => { r with adoptPending := false }) s)).2).spared hz id
      (by rw [queue]; exact not_queued_of_state lists (by simp [waiting.1]))
    rw [after.record, record, zoneAt_modZone_same hz]
    exact .inl waiting.1
  · by_cases idle : Idle (zoneAt s z).state
    · rwa [zoneOffRequest_of_resting idle]
    · refine .inl (zoneOffRequest_takesOff hz lists ?_).1
      cases state : (zoneAt s z).state <;> simp_all [Idle, runs, countsAllotment]

/-- R82: under the latch, every zone of `l` is at rest once it has been taken, and a zone at rest stays so. -/
theorem idle_epoZones (l : List Nat) {s : State} (lists : ZoneListsLaw s) (latch : s.zc.epoLatch = true)
    (bound : ∀ z ∈ l, z < 32) {y : Nat} (hy : y < 32) (rests : Idle (zoneAt s y).state ∨ y ∈ l) :
    Idle (zoneAt (l.foldl epoZone s) y).state := by
  induction l generalizing s with
  | nil => exact rests.resolve_right List.not_mem_nil
  | cons z rest ih =>
    have works : WorksOn (· = z) s (epoZone s z) := (WorksOn.refl s).epoZone rfl
    have held : (epoZone s z).zc.epoLatch = true := by
      have same := congrArg ZoneCtl.epoLatch works.told
      rwa [told, told, latch] at same
    refine ih (zonal_zoneLists.epoZone z lists) held (fun x hx => bound x (.tail _ hx)) ?_
    by_cases here : y = z
    · rw [here]
      exact .inl (idle_epoZone lists (bound z (.head _)))
    · rcases rests with idle | listed
      · rw [(works.spared_of_barred hy here fun goes => by simp [goes.latch] at latch).record]
        exact .inl idle
      · exact .inr ((List.mem_cons.mp listed).resolve_left here)

/-- The latch has been set and EPO raised; no zone has been taken. -/
def latchRaised (s : State) : State :=
  modMail (fun m => { m with epoFail := m.epoFail + 1 }) (raiseFlag .epo
    (be1 0 ++ be1 (allZones.filter (fun z => countsAllotment (zoneAt s z).state)).length)
    (modZc (fun c => { c with epoLatch := true }) s))

theorem latchRaised_zc (s : State) : (latchRaised s).zc = { s.zc with epoLatch := true } :=
  raiseFlag_zc _ _ _

theorem latchRaised_mail (s : State) : (latchRaised s).mail = { s.mail with epoFail := s.mail.epoFail + 1 } := by
  have same (u : State) (p : List Byte) : (raiseFlag .epo p u).mail = u.mail :=
    touches_of_erase (bs := [.port]) (by simp) .mail (by decide)
  unfold latchRaised
  dsimp only [modMail]
  rw [same]
  rfl

theorem latchRaised_others (s : State) :
    erase [.port, .zc, .mail] (latchRaised s) = erase [.port, .zc, .mail] s := by
  simp [latchRaised]

theorem zoneLists_latchRaised {s : State} (lists : ZoneListsLaw s) : ZoneListsLaw (latchRaised s) := by
  have raised : ZoneListsLaw (modZc (fun c => { c with epoLatch := true }) s) := lists
  exact zoneLists_of_erase (bs := [.port, .mail]) raised (by simp [latchRaised]) (by decide)

theorem tends_epoZones {may : Nat → Prop} {s : State} (lists : ZoneListsLaw s) :
    Tends may (latchRaised s) (setEpoLatch s) :=
  .foldl _ (fun _ _ hz h => .epoZone h.lists (List.mem_range.mp hz)) (zoneLists_latchRaised lists)

theorem idle_setEpoLatch {s : State} (lists : ZoneListsLaw s) {z : Nat} (hz : z < 32) :
    Idle (zoneAt (setEpoLatch s) z).state :=
  idle_epoZones _ (zoneLists_latchRaised lists) (by rw [latchRaised_zc]) (fun _ => List.mem_range.mp) hz
    (.inr (List.mem_range.mpr hz))

/-! ## News of a leak group (R80, R81) -/

theorem Tends.thenRun {may : Nat → Prop} {s t : State} (h : Tends may s t) : Tends may s (Machine.runArbiter t) :=
  h.trans (.runArbiter h.lists)

/-- R80, R81: what the Zone Controller does with its zones once it holds a group's new state. -/
theorem tends_groupNews {may : Nat → Prop} {s : State} (lists : ZoneListsLaw s) (n : GroupNews) :
    Tends may (groupTaken n s) (takeGroupNews s n) := by
  have listed : ZoneListsLaw (groupTaken n s) := lists
  unfold takeGroupNews
  dsimp only
  split
  · refine Tends.thenRun (.foldl _ (fun t z hz h => ?_) listed)
    have used := (List.mem_filter.mp hz).2
    exact .isolateZone h.lists (by rw [h.zoneCfg]; exact used)
  split
  · exact .thenRun (.foldl _ (fun t z _ h => .releaseZone h.lists z) listed)
  · exact .runArbiter listed

end Sys2Proof.Machine

namespace Sys2Proof.Machine

/-! ## LEAK_CLEAR (R140)

A LEAK_CLEAR may release a group that stands in DRYING: its news then follows the news in flight, but is no step
that an evaluation makes. It reaches the Zone Controller in the same handling. -/

/-- R142: the news of a group in flight, a release among them. -/
def groupPath : GroupState → List GroupNews → GroupState → Bool
  | x, [], y => x == y
  | x, n :: rest, y => n.old == x && (n.new != .drying || n.old == .alarm) && groupPath n.new rest y

theorem groupPath_of_follows {l : List GroupNews} {x y : GroupState} (h : groupFollows x l y = true) :
    groupPath x l y = true := by
  induction l generalizing x with
  | nil => exact h
  | cons n rest ih =>
    simp only [groupFollows, groupPath, Bool.and_eq_true] at h ⊢
    exact ⟨h.1.1, ih h.2⟩

theorem groupPath_append {l : List GroupNews} {n : GroupNews} {x : GroupState} (path : groupPath x l n.old = true)
    (dries : n.new = .drying → n.old = .alarm) : groupPath x (l ++ [n]) n.new = true := by
  induction l generalizing x with
  | nil =>
    obtain rfl : x = n.old := by simpa [groupPath] using path
    by_cases dried : n.new = .drying
    · simp [groupPath, dried, dries dried]
    · simp [groupPath, dried]
  | cons m rest ih =>
    simp only [List.cons_append, groupPath, Bool.and_eq_true] at path ⊢
    exact ⟨path.1, ih path.2⟩

/-- What is watched is as it was, and so are the changes of the ride-through state in flight and where the
Ride-Through Unit stands; the news of each group lead where the Leak Monitor holds it. -/
structure Eases (s t : State) : Prop where
  same : watched t = watched s
  ride : t.ride = s.ride
  rides : t.mail.rideToZone = s.mail.rideToZone
  path : ∀ g < 8, ∀ x, groupPath x (newsOf s g) (groupAt s g) = true →
    groupPath x (newsOf t g) (groupAt t g) = true

namespace Eases

variable {s t u : State}

theorem trans (h : Eases s t) (h' : Eases t u) : Eases s u where
  same := h'.same.trans h.same
  ride := h'.ride.trans h.ride
  rides := h'.rides.trans h.rides
  path g hg x path := h'.path g hg x (h.path g hg x path)

/-- What touches the Leak Monitor alone, but for the states of its groups. -/
theorem of_leak (h : erase [.leak] t = erase [.leak] s) (groups : t.leak.groups = s.leak.groups) : Eases s t := by
  have touches := touches_of_erase h
  have tables : t.tables = s.tables := touches .tables (by decide)
  have image : t.image = s.image := touches .image (by decide)
  have zc : t.zc = s.zc := touches .zc (by decide)
  have mail : t.mail = s.mail := touches .mail (by decide)
  refine ⟨?_, touches .ride (by decide), by rw [mail], fun g _ x path => ?_⟩
  · simp only [watched, slotCount, setting, tables, image, zc]
  · unfold newsOf groupAt at path ⊢
    rwa [mail, groups]

theorem changeGroup {g : Nat} {new : GroupState} (cause : GroupCause) (s : State)
    (dries : new = .drying → groupAt s g = .alarm) : Eases s (changeGroup g new cause s) := by
  have touches := touches_of_erase (bs := [.port, .leak, .mail]) (s := s) (t := Machine.changeGroup g new cause s)
    (by simp)
  have mail := (changeGroup_sends g new cause s).1
  refine ⟨watched_changeGroup g new cause s, touches .ride (by decide), by rw [mail], fun x hx y path => ?_⟩
  rw [newsOf_changeGroup, groupAt_changeGroup new cause s hx]
  split
  next here =>
    subst here
    exact groupPath_append (n := ⟨g, groupAt s g, new⟩) path dries
  · rwa [List.append_nil]

/-- R140: one group is evaluated, in DRYING as if it stood in CLEAR. -/
theorem evaluateFrom {g : Nat} {x : GroupState} (cause : GroupCause) (s : State)
    (start : x = groupAt s g ∨ x = .clear) : Eases s (evaluateFrom x cause s g) := by
  unfold Machine.evaluateFrom
  dsimp only
  split
  · exact of_leak rfl rfl
  next changed =>
    refine .changeGroup cause s fun dries => ?_
    rcases groupPlace_dries dries with alarm | dried
    · rcases start with rfl | rfl
      · exact alarm
      · cases alarm
    · rcases start with rfl | rfl
      · exact absurd (by rw [dries, dried]; rfl) changed
      · cases dried

theorem chooseBeacon (h : Eases s t) : Eases s (chooseBeacon t) := by
  refine h.trans (of_leak (by simp) ?_)
  unfold Machine.chooseBeacon
  dsimp only
  split <;> rfl

theorem settleFaults (g : Nat) (s : State) : Eases s (settleFaults g s) := by
  refine of_leak (by simp) ?_
  unfold Machine.settleFaults
  generalize (channelsOf s g).filter _ = l
  induction l generalizing s with
  | nil => rfl
  | cons c rest ih => exact ih (settleChannel s c)

theorem leakClear (g : Nat) (s : State) : Eases s (leakClear g s).2 := by
  have settled := settleFaults g s
  have evaluated : Eases s (evaluateGroups .clear [g] (Machine.settleFaults g s)) :=
    (settled.trans (evaluateFrom .clear _ (.inl rfl))).chooseBeacon
  unfold Machine.leakClear
  split
  · exact of_leak rfl rfl
  · split
    · exact evaluated
    · exact (settled.trans (evaluateFrom .clear _ (.inr rfl))).chooseBeacon
    · exact evaluated
    · exact evaluated

end Eases

theorem leakClear_answer {g : Nat} (within : ¬7 < g) (s : State) : (leakClear g s).1 ≠ .range := by
  unfold leakClear
  rw [if_neg within]
  split
  · dsimp only
    split <;> decide
  all_goals exact nofun

/-- R140: a LEAK_CLEAR is refused, or carried out, and then the news in flight reach the Zone Controller. -/
theorem leakClearRequest_cases (g : Nat) (s : State) : (leakClearRequest g s).2 = s ∨
    (leakClearRequest g s).2 = flushGroupNews (leakClear g s).2 := by
  unfold leakClearRequest
  by_cases past : 7 < g
  · exact .inl (by simp [leakClear, past])
  · refine .inr ?_
    have answer := leakClear_answer past s
    split
    next answered => exact absurd (by rw [answered]) answer
    next answered => rw [answered]

end Sys2Proof.Machine

namespace Sys2Proof.Machine

/-! ## The law of admission is kept by each of the changes it sees -/

theorem admissionLaw_tend {s t : State} {may : Nat → Prop} (lists : ZoneListsLaw s) (law : AdmissionLaw s)
    (tends : Tends may s t) : AdmissionLaw t := by
  obtain ⟨slots, held, -, fine, -⟩ := admissionLaw_iff.mp law
  exact admissionLaw_of_tends law rfl rfl tends (tends.fit (fit_of_fine lists id fine may))
    (slots.trans (tends.work.setting 15).ge) held

theorem admissionLaw_drift {s t : State} (law : AdmissionLaw s) (drifts : Drifts s t) : AdmissionLaw t :=
  admissionLaw_congr law drifts.same (drifts.ride _)

/-- R82: the latch is set. -/
theorem admissionLaw_latch {s : State} (lists : ZoneListsLaw s) (law : AdmissionLaw s) :
    AdmissionLaw (setEpoLatch s) := by
  obtain ⟨slots, held, follows, fine, -⟩ := admissionLaw_iff.mp law
  have raised := latchRaised_zc s
  have before := touches_of_erase (latchRaised_others s)
  have tables : (latchRaised s).tables = s.tables := before .tables (by decide)
  have limit : limits (latchRaised s) = limits s := funext fun z => by rw [limits, zoneCfg, tables]; rfl
  have record (z : Nat) : zoneAt (latchRaised s) z = zoneAt s z := by rw [zoneAt, raised]; rfl
  have count : inrushCount (latchRaised s) = inrushCount s := inrushCount_congr (by rw [raised])
  have tends : Tends (fun _ => True) (latchRaised s) (setEpoLatch s) := tends_epoZones lists
  have idle : ∀ z < 32, Idle (zoneAt (setEpoLatch s) z).state := fun z hz => idle_setEpoLatch lists hz
  generalize setEpoLatch s = t at tends idle ⊢
  have fit := tends.fit (fit_of_fine (latch := false) (zoneLists_latchRaised lists) nofun (fun z hz => by
    rw [limit, record]
    exact ⟨(fine z hz).1, (fine z hz).2.1, nofun⟩) _)
  rw [limit, count] at fit
  have after := touches_of_erase tends.same
  have rideHeld : t.zc.ride = s.zc.ride := tends.ride.trans (by rw [raised])
  have rides := tends.work.sends.rideToZone
  rw [latchRaised_mail] at rides
  have slot : slotCount t = slotCount s := by
    simp only [slotCount, setting, tends.work.works.tables, tables]
  refine admissionLaw_of_fine law (by rw [tends.work.works.tables, tables])
    ((after .image (by decide)).trans (before .image (by decide)))
    (fun z hz => ⟨(fit.fine z hz).1, (fit.fine z hz).2.1, fun _ => idle z hz⟩) ?_ (fun other => ?_) ?_
  · exact fit.slots.trans (max_le (Nat.le_refl _) (slot ▸ slots))
  · have none := held (rideHeld ▸ other)
    have within := fit.held (by rcases other with other | other <;> simp [other])
    omega
  · have ride : t.ride = s.ride := (after .ride (by decide)).trans (before .ride (by decide))
    rwa [rideHeld, rides, ride]

end Sys2Proof.Machine

namespace Sys2Proof.Machine

/-! ## News that the law of admission follows (R76, R79 to R81, R126) -/

theorem rideFollows_bridging {l : List RideNews} {x y : RideState} (follows : rideFollows x l y = true)
    (first : l.find? (fun n => !isConserve n) = some (.state .bridging)) :
    rideFollows .bridging (dropFirst isBridging l) y = true := by
  induction l with
  | nil => cases first
  | cons n rest ih =>
    cases n with
    | conserve c => exact ih follows first
    | state n =>
      obtain rfl : n = .bridging := by simpa [isConserve] using first
      simp only [rideFollows, Bool.and_eq_true] at follows
      exact follows.2

/-- R126: a change of state other than BRIDGING is taken. -/
theorem admissionLaw_ride {s : State} {x : RideState} {rest : List RideNews} (law : AdmissionLaw s)
    (waiting : s.mail.rideToZone = .state x :: rest) (other : x ≠ .bridging) :
    AdmissionLaw (modZc (fun c => { c with ride := x }) (modMail (fun m => { m with rideToZone := rest }) s)) := by
  obtain ⟨slots, held, follows, fine, -⟩ := admissionLaw_iff.mp law
  rw [waiting, rideFollows, Bool.and_eq_true] at follows
  refine admissionLaw_of_fine law rfl rfl fine slots (fun now => held (.inl ?_)) follows.2
  have restoring : x = .restoring := now.resolve_left other
  simpa [restoring] using follows.1

/-- R76: BRIDGING is taken, and every INRUSH zone is shed. -/
theorem admissionLaw_bridging {s : State} (lists : ZoneListsLaw s) (law : AdmissionLaw s)
    (first : s.mail.rideToZone.find? (fun n => !isConserve n) = some (.state .bridging)) :
    AdmissionLaw (takeBridging
      (modMail (fun m => { m with rideToZone := dropFirst isBridging m.rideToZone }) s)) := by
  obtain ⟨-, -, follows, fine, -⟩ := admissionLaw_iff.mp law
  generalize before : modMail (fun m => { m with rideToZone := dropFirst isBridging m.rideToZone }) s = u
  have listed : ZoneListsLaw (modZc (fun c => { c with ride := .bridging }) u) := by rw [← before]; exact lists
  have met : MeetsLimits (modZc (fun c => { c with ride := .bridging }) u) := by rw [← before]; exact fine
  have tables : u.tables = s.tables := by rw [← before]; rfl
  have image : u.image = s.image := by rw [← before]; rfl
  have ride : u.ride = s.ride := by rw [← before]; rfl
  have mail : u.mail.rideToZone = dropFirst isBridging s.mail.rideToZone := by rw [← before]; rfl
  have limit : limits (modZc (fun c => { c with ride := .bridging }) u) = limits s := by rw [← before]; rfl
  obtain ⟨held, rides, kept, -, records⟩ := takeBridging_sheds u
  have tends : Tends (fun _ => True) (modZc (fun c => { c with ride := .bridging }) u)
      (shedList (inrushZones (modZc (fun c => { c with ride := .bridging }) u))
        (modZc (fun c => { c with ride := .bridging }) u)).1 := .shedList _ listed
  have fit := tends.fit (fit_of_fine listed id met _)
  rw [limit] at fit
  have none : inrushCount (takeBridging u) = 0 := by
    refine List.length_eq_zero_iff.mpr (List.eq_nil_iff_forall_not_mem.mpr fun z inrush => ?_)
    obtain ⟨hz, state⟩ := mem_inrushZones.mp inrush
    have record := records z hz
    split at record
    · rw [record.1] at state
      cases state
    next other => exact other (record ▸ state)
  have latch : (takeBridging u).zc.epoLatch = u.zc.epoLatch := tends.latch
  refine admissionLaw_of_fine law ?_ ?_ ?_ ?_ (fun _ => none) ?_
  · exact (congrArg Tables.zones tends.work.works.tables).trans (congrArg Tables.zones tables)
  · exact (touches_of_erase tends.same .image (by decide)).trans image
  · rw [latch]
    exact fit.fine
  · rw [none]
    exact Nat.zero_le _
  · rw [held, kept, rides, mail, ride]
    exact rideFollows_bridging follows first

/-! ### News of a group, and LEAK_CLEAR -/

/-- R80, R81: a group's change of state is taken. -/
theorem admissionLaw_group {s : State} (lists : ZoneListsLaw s) (law : AdmissionLaw s) (n : GroupNews) :
    AdmissionLaw (takeGroupNews s n) :=
  admissionLaw_tend (s := groupTaken n s) lists law (tends_groupNews (may := fun _ => True) lists n)

theorem zoneLists_of_watched {s t : State} (lists : ZoneListsLaw s) (same : watched t = watched s) :
    ZoneListsLaw t := by
  simp only [watched, Watched.mk.injEq] at same
  obtain ⟨zones, -, -, -, -, records, queue, readmit, -, -, -⟩ := same
  exact zoneLists_congr lists zones queue readmit fun z _ => by rw [zoneAt, zoneAt, records]

/-- R140: a LEAK_CLEAR, and the news in flight. -/
theorem admissionLaw_clear {s : State} (lists : ZoneListsLaw s) (law : AdmissionLaw s) (g : Nat) :
    AdmissionLaw (leakClearRequest g s).2 := by
  rcases leakClearRequest_cases g s with same | flushed
  · rwa [same]
  · have eases := Eases.leakClear g s
    have cleared := admissionLaw_congr law eases.same (by rw [eases.rides, eases.ride]; exact id)
    have listed := zoneLists_of_watched lists eases.same
    rw [flushed, flushGroupNews]
    generalize (leakClear g s).2 = t at cleared listed
    have emptied : ZoneListsLaw (modMail (fun m => { m with leakToZone := [] }) t) ∧
        AdmissionLaw (modMail (fun m => { m with leakToZone := [] }) t) := ⟨listed, cleared⟩
    generalize modMail (fun m => { m with leakToZone := [] }) t = u at emptied
    suffices run : ∀ l : List GroupNews, AdmissionLaw (l.foldl takeGroupNews u) from run _
    intro l
    induction l generalizing u with
    | nil => exact emptied.2
    | cons n rest ih =>
      exact ih _ ⟨zonal_zoneLists.takeGroupNews n emptied.1, admissionLaw_group emptied.1 emptied.2 n⟩

end Sys2Proof.Machine

namespace Sys2Proof.Machine

/-! ## Writes, the Image Store and resets -/

/-- R59, R60: an OFF zone's entry is written, its lockout limit at least 1, and its attempts are cleared. -/
theorem admissionLaw_write {s : State} {z : Nat} {c : ZoneCfg} (law : AdmissionLaw s)
    (writable : zoneWritable s z c = true) : AdmissionLaw (takeZoneWrite z c s) := by
  obtain ⟨slots, held, follows, fine, limit⟩ := admissionLaw_iff.mp law
  have off : (zoneAt s z).state = .off := by
    simp only [zoneWritable, Bool.and_eq_true, zoneIs_eq_decide, decide_eq_true_eq] at writable
    exact writable.1.1
  have least : 1 ≤ (clampZone c).lockout := Nat.le_max_left _ _
  have limits_ne {y : Nat} (other : y ≠ z) : limits (takeZoneWrite z c s) y = limits s y :=
    congrArg ZoneCfg.lockout (nth_put_of_ne _ _ other.symm)
  have limits_self (hz : z < 32) : limits (takeZoneWrite z c s) z = (clampZone c).lockout :=
    congrArg ZoneCfg.lockout (nth_put_self _ _ _ hz)
  have record (y : Nat) : zoneAt (takeZoneWrite z c s) y = if z = y ∧ y < 32
      then { zoneAt s y with attempts := 0, adoptPending := c.inUse } else zoneAt s y := zoneAt_modZone _ _ _ _
  have count : inrushCount (takeZoneWrite z c s) = inrushCount s := by
    refine congrArg List.length (inrushZones_congr fun y _ => ?_)
    rw [record]
    split <;> rfl
  refine admissionLaw_iff.mpr ⟨count ▸ slots, fun now => count.trans (held now), follows, fun y hy => ?_,
    fun x hx y hy => ?_⟩
  · by_cases here : y = z
    · subst here
      rw [record, if_pos ⟨rfl, hy⟩]
      simp only [admissionTerms, limits_self hy, off]
      exact ⟨least, by rw [if_neg nofun]; omega, fun _ => .inl rfl⟩
    · rw [record, if_neg fun same => here same.1.symm]
      have latch : (takeZoneWrite z c s).zc.epoLatch = s.zc.epoLatch := rfl
      simpa only [admissionTerms, limits_ne here, latch] using fine y hy
  · rcases List.mem_cons.mp hx with rfl | hx
    · by_cases here : y = z
      · subst here
        exact (limits_self hy).ge.trans' least
      · exact (limits_ne here).ge.trans' (limit _ (.head _) y hy)
    · exact limit x (.tail _ hx) y hy

theorem admissionLaw_map {s : State} (v : Vector LeakMapCfg 8) (law : AdmissionLaw s) :
    AdmissionLaw { s with tables := { s.tables with leakMap := v } } := by
  obtain ⟨slots, held, follows, fine, -⟩ := admissionLaw_iff.mp law
  exact admissionLaw_of_fine law rfl rfl fine slots held follows

theorem admissionLaw_image {s : State} (y : Image) (law : AdmissionLaw s)
    (from' : ∀ x ∈ y.tables :: y.saving.toList, x ∈ s.tables :: s.image.tables :: s.image.saving.toList) :
    AdmissionLaw { s with image := y } := by
  obtain ⟨slots, held, follows, fine, limit⟩ := admissionLaw_iff.mp law
  refine admissionLaw_iff.mpr ⟨slots, held, follows, fine, fun x hx => ?_⟩
  rcases List.mem_cons.mp hx with rfl | hx
  · exact limit _ (.head _)
  · exact limit x (from' x hx)

/-- R160: after a reset every zone is OFF with no attempt counted. -/
theorem admissionLaw_reset {s : State} {x : Tables} {y : Image} (k : Kept) (law : AdmissionLaw s)
    (tables : x = s.tables ∨ x = s.image.tables ∨ x = Tables.empty) (image : y.tables = s.image.tables)
    (saving : y.saving = none) (normal : k.ride.state = .normal) :
    AdmissionLaw (blocksReset k { s with tables := x, image := y }) := by
  obtain ⟨-, -, -, -, limit⟩ := admissionLaw_iff.mp law
  have least : ∀ z < 32, 1 ≤ (nth x.zones z).lockout := by
    rcases tables with rfl | rfl | rfl
    · exact limit _ (.head _)
    · exact limit _ (.tail _ (.head _))
    · decide
  have off := zone_off_blocksReset k { s with tables := x, image := y }
  have none : inrushCount (blocksReset k { s with tables := x, image := y }) = 0 := by
    refine List.length_eq_zero_iff.mpr (List.eq_nil_iff_forall_not_mem.mpr fun z inrush => ?_)
    have state := (mem_inrushZones.mp inrush).2
    rw [off] at state
    cases state
  have attempts {z : Nat} (hz : z < 32) :
      (zoneAt (blocksReset k { s with tables := x, image := y }) z).attempts = 0 :=
    congrArg ZoneRun.attempts (nth_tabulate _ z hz)
  refine admissionLaw_iff.mpr ⟨by omega, fun _ => none, ?_, fun z hz => ?_, fun v hv => ?_⟩
  · show (RideState.normal == k.ride.state) = true
    rw [normal]
    rfl
  · have limited : 1 ≤ limits (blocksReset k { s with tables := x, image := y }) z := least z hz
    simp only [admissionTerms, off, attempts hz]
    exact ⟨limited, by rw [if_neg nofun]; omega, fun _ => .inl rfl⟩
  · have only : v = x ∨ v = y.tables := by
      rcases List.mem_cons.mp hv with here | hv
      · exact .inl here
      · rcases List.mem_cons.mp hv with here | hv
        · exact .inr here
        · have empty : v ∈ y.saving.toList := hv
          rw [saving] at empty
          cases empty
    rcases only with rfl | rfl
    · exact least
    · rw [image]
      exact limit _ (.tail _ (.head _))

/-- The law of admission, with that of the zone lists, is kept over the commands. -/
theorem warded_admission : Warded fun s => ZoneListsLaw s ∧ AdmissionLaw s where
  lists law := law.1
  drift law drifts := ⟨zoneLists_of_watched law.1 drifts.same, admissionLaw_drift law.2 drifts⟩
  tend law tends := ⟨tends.lists, admissionLaw_tend law.1 law.2 tends⟩
  slots v law := ⟨zonal_zoneLists.slotCountWritten law.1, admissionLaw_slots law.1 law.2 v⟩
  write law writable := ⟨zoneLists_takeZoneWrite law.1 writable, admissionLaw_write law.2 writable⟩
  map _ law _ := ⟨law.1, admissionLaw_map _ law.2⟩
  latch law := ⟨(tends_epoZones (may := fun _ => True) law.1).lists, admissionLaw_latch law.1 law.2⟩
  unlatch law := ⟨law.1, law.2.1, law.2.2.1, law.2.2.2.1, law.2.2.2.2.1, law.2.2.2.2.2.1, nofun⟩
  ride law waiting other := ⟨law.1, admissionLaw_ride law.2 waiting other⟩
  bridging law first := ⟨zonal_zoneLists.takeBridging law.1, admissionLaw_bridging law.1 law.2 first⟩
  group {s n rest} law _ := ⟨zonal_zoneLists.takeGroupNews n law.1,
    admissionLaw_group (s := modMail (fun m => { m with leakToZone := rest }) s) law.1 law.2 n⟩
  clear g law := ⟨zonal_zoneLists.leakClearRequest g law.1, admissionLaw_clear law.1 law.2 g⟩
  image y law from' := ⟨law.1, admissionLaw_image y law.2 from'⟩
  reset k law tables image saving normal :=
    ⟨zoneLists_blocksReset k _, admissionLaw_reset k law.2 tables image saving normal⟩

/-- Settles O12: a grant needs a free slot and the ride-through state NORMAL, which BRIDGING leaves with no zone in
INRUSH; a failed attempt locks out at the limit; the latch takes every zone, and nothing is granted under it. -/
theorem stepKeepsAdmissionLaw : Obligations.StepKeepsAdmissionLaw := by
  unfold Obligations.StepKeepsAdmissionLaw
  intro s t lists law h
  exact (warded_admission.step ⟨lists, law⟩ t h).2

end Sys2Proof.Machine

namespace Sys2Proof.Machine

/-! ## The law of isolation over one step (R60, R80, R81, R142) -/

/-- R60, R80: what the law of isolation asks of a record, given the zones in use and those that a group holds. -/
def isolationTerms (used held : Nat → Bool) : Terms where
  fine z r := (used z = false → r.state = .off) ∧ (held z = true → Idle r.state)
  waits z _ := used z = true ∧ held z = false

/-- The zones in use. -/
def zonesUsed (s : State) (z : Nat) : Bool := (zoneCfg s z).inUse

theorem sound_isolation {s : State} {held : Nat → Bool} {may : Nat → Prop} (free : ∀ z, may z → held z = false) :
    Sound s may (isolationTerms (zonesUsed s) held) where
  flags := by
    rintro z r r' fine state -
    simpa only [isolationTerms, state] using fine
  fewer waits _ := waits
  active := by
    rintro z r ⟨unused, idle⟩ active
    exact ⟨by simpa using fun none => active (.inl (unused none)), by simpa using fun held => active (idle held)⟩
  runs := by
    rintro z r ⟨used, free⟩ -
    exact ⟨fun none => by simp [used] at none, fun held => by simp [free] at held⟩
  rests := by
    rintro z r r' ⟨unused, idle⟩ - rests -
    refine ⟨fun none => ?_, fun _ => rests.imp id fun isolated => .inl isolated.1⟩
    rcases rests with off | ⟨-, used | active⟩
    · exact off
    · exact absurd (used.symm.trans none) nofun
    · exact absurd (.inl (unused none)) active
  locks := by
    rintro z r r' ⟨used, free⟩ - - -
    exact ⟨fun none => by simp [used] at none, fun held => by simp [free] at held⟩
  retries waits _ _ := waits
  unlocks := by
    rintro z r r' - - state -
    exact ⟨fun _ => state, fun _ => .inl state⟩
  enters := by
    rintro z r - - used allowed -
    exact ⟨used, free z allowed⟩

/-- R60, R80: every zone meets the terms of the law of isolation. -/
def MeetsGroups (s : State) : Prop :=
  ∀ z < 32, (isolationTerms (zonesUsed s) (leakHeld s)).fine z (zoneAt s z)

theorem isolationLaw_iff {s : State} : IsolationLaw s ↔ MeetsGroups s ∧
    ∀ g < 8, groupFollows (nth s.zc.groups g) (newsOf s g) (groupAt s g) = true := by
  constructor
  · rintro ⟨unused, follows, idle⟩
    exact ⟨fun z hz => ⟨unused z hz, idle z hz⟩, follows⟩
  · rintro ⟨fine, follows⟩
    exact ⟨fun z hz => (fine z hz).1, follows, fun z hz => (fine z hz).2⟩

theorem fit_of_isolated {s : State} (lists : ZoneListsLaw s) {held : Nat → Bool} {may : Nat → Prop}
    (free : ∀ z, may z → held z = false)
    (fine : ∀ z < 32, (isolationTerms (zonesUsed s) held).fine z (zoneAt s z)) :
    Fit may (isolationTerms (zonesUsed s) held) (inrushCount s) s := by
  have sound := sound_isolation (s := s) free
  refine ⟨sound, fun z queued => (queued_of_mem lists queued).1, fine, fun z queued => ?_, Nat.le_max_right _ _,
    fun _ => Nat.le_refl _⟩
  obtain ⟨hz, state⟩ := queued_of_mem lists queued
  exact sound.active (fine z hz) (by simp [state])

/-! ### The groups that hold a zone -/

theorem leakHeld_iff {s : State} {z : Nat} : leakHeld s z = true ↔
    ∃ g < 8, groupHolds s g z = true ∧ latchedGroup (nth s.zc.groups g) = true := by
  simp only [leakHeld, allGroups, List.any_eq_true, List.mem_range, Bool.and_eq_true]

theorem leakHolds_iff {s : State} {z : Nat} : leakHolds s z = true ↔
    ∃ g < 8, groupHolds s g z = true ∧ latchedGroup (groupAt s g) = true := by
  simp only [leakHolds, allGroups, List.any_eq_true, List.mem_range, Bool.and_eq_true, groupAt]

/-- R142: no news in flight is a release. -/
theorem latched_of_follows {l : List GroupNews} {x y : GroupState} (follows : groupFollows x l y = true)
    (latched : latchedGroup x = true) : latchedGroup y = true := by
  induction l generalizing x with
  | nil =>
    obtain rfl : x = y := by simpa [groupFollows] using follows
    exact latched
  | cons n rest ih =>
    simp only [groupFollows, Bool.and_eq_true, beq_iff_eq] at follows
    obtain ⟨⟨⟨rfl, -⟩, kept⟩, follows⟩ := follows
    exact ih follows (by simpa [latched] using kept)

/-- R142: a zone that no group holds at the Leak Monitor is held by none at the Zone Controller. -/
theorem leakHeld_of_free {s : State} (law : IsolationLaw s) {z : Nat} (free : leakHolds s z = false) :
    leakHeld s z = false := by
  obtain ⟨-, follows⟩ := isolationLaw_iff.mp law
  by_contra held
  obtain ⟨g, hg, holds, latched⟩ := leakHeld_iff.mp (by simpa using held)
  have stands := leakHolds_iff.mpr ⟨g, hg, holds, latched_of_follows (follows g hg) latched⟩
  rw [free] at stands
  cases stands

theorem leakHeld_eq {s t : State} (map : t.tables.leakMap = s.tables.leakMap)
    (groups : t.zc.groups = s.zc.groups) : leakHeld t = leakHeld s := by
  funext z
  simp only [leakHeld, groupHolds, map, groups]

theorem zonesUsed_eq {s t : State} (zones : t.tables.zones = s.tables.zones) : zonesUsed t = zonesUsed s :=
  funext fun z => congrArg ZoneCfg.inUse (zoneCfg_congr zones z)

/-- The terms are met where the records, the tables and the groups held are as they were. -/
theorem meetsGroups_congr {s t : State} (fine : MeetsGroups s) (records : t.zc.zones = s.zc.zones)
    (zones : t.tables.zones = s.tables.zones) (map : t.tables.leakMap = s.tables.leakMap)
    (groups : t.zc.groups = s.zc.groups) : MeetsGroups t := by
  unfold MeetsGroups
  rw [zonesUsed_eq zones, leakHeld_eq map groups]
  intro z hz
  rw [zoneAt, records]
  exact fine z hz

theorem meetsGroups_of_watched {s t : State} (fine : MeetsGroups s) (same : watched t = watched s) :
    MeetsGroups t := by
  simp only [watched, Watched.mk.injEq] at same
  obtain ⟨zones, map, -, -, -, records, -, -, -, groups, -⟩ := same
  exact meetsGroups_congr fine records zones map groups

/-- The terms are met after the Zone Controller's work, where no zone that a group holds may enter the queue. -/
theorem meetsGroups_tend {s t : State} {may : Nat → Prop} (lists : ZoneListsLaw s) (fine : MeetsGroups s)
    (free : ∀ z, may z → leakHeld s z = false) (tends : Tends may s t) : MeetsGroups t := by
  have tables := tends.work.works.tables
  unfold MeetsGroups
  rw [zonesUsed_eq (s := s) (by rw [tables]), leakHeld_eq (s := s) (by rw [tables]) tends.groups]
  exact (tends.fit (fit_of_isolated lists free fine)).fine

theorem isolationLaw_drift {s t : State} (law : IsolationLaw s) (drifts : Drifts s t) : IsolationLaw t := by
  obtain ⟨fine, follows⟩ := isolationLaw_iff.mp law
  have groups : t.zc.groups = s.zc.groups := congrArg Watched.groups drifts.same
  refine isolationLaw_iff.mpr ⟨meetsGroups_of_watched fine drifts.same, fun g hg => ?_⟩
  rw [groups]
  exact drifts.leak g hg _ (follows g hg)

theorem isolationLaw_tend {s t : State} (lists : ZoneListsLaw s) (law : IsolationLaw s)
    (tends : Tends (fun z => leakHolds s z = false) s t) : IsolationLaw t := by
  obtain ⟨fine, follows⟩ := isolationLaw_iff.mp law
  refine isolationLaw_iff.mpr ⟨meetsGroups_tend lists fine (fun _ => leakHeld_of_free law) tends, fun g hg => ?_⟩
  rw [newsOf, tends.work.sends.leakToZone, groupAt, tends.work.leak, tends.groups]
  exact follows g hg

end Sys2Proof.Machine

namespace Sys2Proof.Machine

/-! ## News of a group, and the law of isolation (R80, R81, R140, R142) -/

/-- R142: the change starts where the Zone Controller holds the group, and enters DRYING only from ALARM. -/
def Continues (s : State) (n : GroupNews) : Prop :=
  n.group < 8 → n.old = nth s.zc.groups n.group ∧ (n.new = .drying → n.old = .alarm)

theorem nth_groupTaken (n : GroupNews) (s : State) {g : Nat} (hg : g < 8) :
    nth (groupTaken n s).zc.groups g = if n.group = g then n.new else nth s.zc.groups g := by
  show nth (put s.zc.groups n.group n.new) g = _
  split
  next here =>
    subst here
    exact nth_put_self _ _ _ hg
  next other => exact nth_put_of_ne _ _ other

/-- R80: a change holds a zone that was not held only where it enters ALARM, and then one of its group's set. -/
theorem leakHeld_groupTaken {n : GroupNews} {s : State} {z : Nat} (continues : Continues s n)
    (held : leakHeld (groupTaken n s) z = true) :
    leakHeld s z = true ∨ (n.new = .alarm ∧ groupHolds s n.group z = true) := by
  obtain ⟨g, hg, holds, latched⟩ := leakHeld_iff.mp held
  have holds : groupHolds s g z = true := holds
  rw [nth_groupTaken n s hg] at latched
  split at latched
  next here =>
    subst here
    obtain ⟨old, dries⟩ := continues hg
    cases new : n.new with
    | alarm => exact .inr ⟨rfl, holds⟩
    | drying =>
      refine .inl (leakHeld_iff.mpr ⟨n.group, hg, holds, ?_⟩)
      rw [← old, dries new]
      rfl
    | clear | watch =>
      rw [new] at latched
      cases latched
  next other => exact .inl (leakHeld_iff.mpr ⟨g, hg, holds, latched⟩)

/-- R80, R81: the zones after a group's change of state has been taken. -/
theorem meetsGroups_takeGroupNews {s : State} (lists : ZoneListsLaw s) (fine : MeetsGroups s) {n : GroupNews}
    (continues : Continues s n) : MeetsGroups (takeGroupNews s n) := by
  have listed : ZoneListsLaw (groupTaken n s) := lists
  by_cases alarm : n.new = .alarm
  · rw [takeGroupNews_of_alarm alarm]
    obtain ⟨-, -, isolates⟩ := isolates_foldl ((zonesOf s n.group).filter fun z => (zoneCfg s z).inUse) listed
      ((nodup_zonesOf s n.group).filter _) fun z hz => (mem_zonesOf.mp (List.mem_filter.mp hz).1).1
    have tends : Tends (fun _ => False) (groupTaken n s)
        (((zonesOf s n.group).filter fun z => (zoneCfg s z).inUse).foldl isolateZone (groupTaken n s)) := by
      refine .foldl _ (fun t z hz h => .isolateZone h.lists ?_) listed
      rw [h.zoneCfg]
      exact (List.mem_filter.mp hz).2
    have kept := (tends.fit (fit_of_isolated (held := leakHeld s) listed nofun fine)).fine
    generalize ((zonesOf s n.group).filter fun z => (zoneCfg s z).inUse).foldl isolateZone (groupTaken n s) = t
      at tends kept isolates ⊢
    have tables : t.tables = s.tables := tends.work.works.tables
    have used : zonesUsed t = zonesUsed s := zonesUsed_eq (by rw [tables])
    have held : leakHeld t = leakHeld (groupTaken n s) := leakHeld_eq (by rw [tables]; rfl) tends.groups
    have met : MeetsGroups t := by
      intro z hz
      obtain ⟨unused, idle⟩ := kept z hz
      refine ⟨fun none => unused (used ▸ none), fun now => ?_⟩
      rcases leakHeld_groupTaken continues (held ▸ now) with before | ⟨-, holds⟩
      · exact idle before
      cases inUse : zonesUsed s z with
      | false => exact .inl (unused inUse)
      | true =>
        have state := (isolates z (List.mem_filter.mpr ⟨mem_zonesOf.mpr ⟨hz, holds⟩, inUse⟩)).state
        split at state
        · exact .inr (.inr state)
        · exact .inr (.inl state)
    exact meetsGroups_tend (may := fun _ => False) tends.lists met nofun (.runArbiter tends.lists)
  · have taken : MeetsGroups (groupTaken n s) := fun z hz => ⟨(fine z hz).1, fun held =>
      (fine z hz).2 ((leakHeld_groupTaken continues held).resolve_right fun rises => alarm rises.1)⟩
    exact meetsGroups_tend (may := fun _ => False) listed taken nofun (tends_groupNews lists n)

/-- The news of a group, once it is taken. -/
theorem newsOf_taken {s : State} {n : GroupNews} {rest : List GroupNews} (waiting : s.mail.leakToZone = n :: rest)
    (g : Nat) : newsOf s g = (if n.group = g then [n] else []) ++ rest.filter fun m => m.group == g := by
  rw [newsOf, waiting, List.filter_cons]
  by_cases here : n.group = g
  · simp [here]
  · simp [here]

/-- R142: a change is taken that came before the news in flight. -/
theorem isolationLaw_takeGroupNews {s : State} {n : GroupNews} (lists : ZoneListsLaw s) (fine : MeetsGroups s)
    (follows : ∀ g < 8, groupFollows (nth s.zc.groups g) ((if n.group = g then [n] else []) ++ newsOf s g)
      (groupAt s g) = true) : IsolationLaw (takeGroupNews s n) := by
  have continues : Continues s n := fun hg => by
    have first := follows _ hg
    simp only [if_true, List.singleton_append, groupFollows, Bool.and_eq_true, Bool.or_eq_true, bne_iff_ne,
      beq_iff_eq] at first
    exact ⟨first.1.1.1, fun dries => first.1.1.2.resolve_left fun other => other dries⟩
  have tends : Tends (fun _ => True) (groupTaken n s) (takeGroupNews s n) := tends_groupNews lists n
  refine isolationLaw_iff.mpr ⟨meetsGroups_takeGroupNews lists fine continues, fun g hg => ?_⟩
  have news : newsOf (takeGroupNews s n) g = newsOf s g := by
    rw [newsOf, tends.work.sends.leakToZone]
    rfl
  have stands : groupAt (takeGroupNews s n) g = groupAt s g := by
    rw [groupAt, tends.work.leak]
    rfl
  rw [news, stands, tends.groups, nth_groupTaken n s hg]
  have follows := follows g hg
  split
  next here =>
    rw [if_pos here] at follows
    simp only [List.singleton_append, groupFollows, Bool.and_eq_true] at follows
    exact follows.2
  next other => rwa [if_neg other] at follows

/-- R142: the oldest change in flight is taken. -/
theorem isolationLaw_group {s : State} {n : GroupNews} {rest : List GroupNews} (lists : ZoneListsLaw s)
    (law : IsolationLaw s) (waiting : s.mail.leakToZone = n :: rest) :
    IsolationLaw (takeGroupNews (modMail (fun m => { m with leakToZone := rest }) s) n) := by
  obtain ⟨fine, follows⟩ := isolationLaw_iff.mp law
  simp only [newsOf_taken waiting] at follows
  exact isolationLaw_takeGroupNews (s := modMail (fun m => { m with leakToZone := rest }) s) lists fine follows

/-- R140: the changes in flight are taken in turn, a release among them. -/
theorem groupNews_flushed (l : List GroupNews) {s : State} {y : Nat → GroupState} (lists : ZoneListsLaw s)
    (fine : MeetsGroups s)
    (path : ∀ g < 8, groupPath (nth s.zc.groups g) (l.filter fun n => n.group == g) (y g) = true) :
    MeetsGroups (l.foldl takeGroupNews s) ∧ (∀ g < 8, nth (l.foldl takeGroupNews s).zc.groups g = y g) ∧
      (l.foldl takeGroupNews s).mail.leakToZone = s.mail.leakToZone ∧ (l.foldl takeGroupNews s).leak = s.leak := by
  induction l generalizing s with
  | nil => exact ⟨fine, fun g hg => by simpa [groupPath] using path g hg, rfl, rfl⟩
  | cons n rest ih =>
    have tends : Tends (fun _ => True) (groupTaken n s) (takeGroupNews s n) := tends_groupNews lists n
    have continues : Continues s n := fun hg => by
      have first := path _ hg
      simp only [List.filter_cons, beq_self_eq_true, if_true, groupPath, Bool.and_eq_true, Bool.or_eq_true,
        bne_iff_ne, beq_iff_eq] at first
      exact ⟨first.1.1, fun dries => first.1.2.resolve_left fun other => other dries⟩
    obtain ⟨met, ends, mail, leak⟩ := ih (s := takeGroupNews s n) tends.lists
      (meetsGroups_takeGroupNews lists fine continues) fun g hg => by
        have before := path g hg
        rw [List.filter_cons] at before
        rw [tends.groups, nth_groupTaken n s hg]
        split
        next here =>
          rw [if_pos (by simp [here]), groupPath, Bool.and_eq_true] at before
          exact before.2
        next other => rwa [if_neg (by simp [other])] at before
    exact ⟨met, ends, mail.trans tends.work.sends.leakToZone, leak.trans tends.work.leak⟩

/-- R140: a LEAK_CLEAR, and the news in flight: the Zone Controller then holds what the Leak Monitor does. -/
theorem isolationLaw_clear {s : State} (lists : ZoneListsLaw s) (law : IsolationLaw s) (g : Nat) :
    IsolationLaw (leakClearRequest g s).2 := by
  rcases leakClearRequest_cases g s with same | flushed
  · rwa [same]
  obtain ⟨fine, follows⟩ := isolationLaw_iff.mp law
  have eases := Eases.leakClear g s
  have groups : (leakClear g s).2.zc.groups = s.zc.groups := congrArg Watched.groups eases.same
  have met := meetsGroups_of_watched fine eases.same
  have listed := zoneLists_of_watched lists eases.same
  have path (x : Nat) (hx : x < 8) := eases.path x hx _ (groupPath_of_follows (follows x hx))
  rw [flushed, flushGroupNews]
  rw [← groups] at path
  generalize (leakClear g s).2 = t at met listed path
  obtain ⟨met, ends, mail, leak⟩ := groupNews_flushed t.mail.leakToZone
    (s := modMail (fun m => { m with leakToZone := [] }) t) listed met path
  refine isolationLaw_iff.mpr ⟨met, fun x hx => ?_⟩
  rw [newsOf, mail, groupAt, leak, ends x hx]
  show (groupAt t x == groupAt t x) = true
  exact beq_self_eq_true _

end Sys2Proof.Machine

namespace Sys2Proof.Machine

/-! ## The remaining changes that the law of isolation sees -/

/-- The law where the zones, their tables, the groups and their news are as they were. -/
theorem isolationLaw_congr {s t : State} (law : IsolationLaw s) (records : t.zc.zones = s.zc.zones)
    (zones : t.tables.zones = s.tables.zones) (map : t.tables.leakMap = s.tables.leakMap)
    (groups : t.zc.groups = s.zc.groups) (news : t.mail.leakToZone = s.mail.leakToZone)
    (leak : t.leak = s.leak) : IsolationLaw t := by
  obtain ⟨fine, follows⟩ := isolationLaw_iff.mp law
  refine isolationLaw_iff.mpr ⟨meetsGroups_congr fine records zones map groups, fun g hg => ?_⟩
  rw [newsOf, news, groupAt, leak, groups]
  exact follows g hg

/-- R63: the slot count is written: a surplus is shed, or the arbiter runs. -/
theorem tends_slotCountWritten {s : State} {may : Nat → Prop} (lists : ZoneListsLaw s) :
    Tends may s (slotCountWritten s) := by
  unfold slotCountWritten
  split
  · exact .shedZones _ lists
  · exact .runArbiter lists

theorem isolationLaw_slots {s : State} (lists : ZoneListsLaw s) (law : IsolationLaw s) (v : Vector Nat 41) :
    IsolationLaw (slotCountWritten { s with tables := { s.tables with settings := v } }) := by
  have stored : IsolationLaw { s with tables := { s.tables with settings := v } } :=
    isolationLaw_congr law rfl rfl rfl rfl rfl rfl
  have listed : ZoneListsLaw { s with tables := { s.tables with settings := v } } := lists
  exact isolationLaw_tend listed stored (tends_slotCountWritten listed)

/-- R60: an OFF zone's entry is written. -/
theorem isolationLaw_write {s : State} {z : Nat} {c : ZoneCfg} (law : IsolationLaw s)
    (writable : zoneWritable s z c = true) : IsolationLaw (takeZoneWrite z c s) := by
  obtain ⟨fine, follows⟩ := isolationLaw_iff.mp law
  have off : (zoneAt s z).state = .off := by
    simp only [zoneWritable, Bool.and_eq_true, zoneIs_eq_decide, decide_eq_true_eq] at writable
    exact writable.1.1
  have record (y : Nat) : (zoneAt (takeZoneWrite z c s) y).state = (zoneAt s y).state := by
    have moved : zoneAt (takeZoneWrite z c s) y = if z = y ∧ y < 32
        then { zoneAt s y with attempts := 0, adoptPending := c.inUse } else zoneAt s y := zoneAt_modZone _ _ _ _
    rw [moved]
    split <;> rfl
  refine isolationLaw_iff.mpr ⟨fun y hy => ?_, follows⟩
  by_cases here : y = z
  · subst here
    exact ⟨fun _ => (record y).trans off, fun _ => .inl ((record y).trans off)⟩
  · have used : zonesUsed (takeZoneWrite z c s) y = zonesUsed s y :=
      congrArg ZoneCfg.inUse (nth_put_of_ne _ _ (Ne.symm here))
    have held : leakHeld (takeZoneWrite z c s) y = leakHeld s y := rfl
    simp only [isolationTerms, used, held, record]
    exact fine y hy

/-- R137: a CLEAR group's zone set is written; the Zone Controller holds no zone for that group. -/
theorem isolationLaw_map {s : State} {g : Nat} (c : LeakMapCfg) (law : IsolationLaw s)
    (clear : groupAt s g = .clear) :
    IsolationLaw { s with tables := { s.tables with leakMap := put s.tables.leakMap g c } } := by
  obtain ⟨fine, follows⟩ := isolationLaw_iff.mp law
  refine isolationLaw_iff.mpr ⟨fun z hz => ⟨(fine z hz).1, fun held => (fine z hz).2 ?_⟩, follows⟩
  obtain ⟨x, hx, holds, latched⟩ := leakHeld_iff.mp held
  have other : x ≠ g := by
    rintro rfl
    have stands := latched_of_follows (follows x hx) latched
    rw [clear] at stands
    cases stands
  have entry : nth (put s.tables.leakMap g c) x = nth s.tables.leakMap x := nth_put_of_ne _ _ (Ne.symm other)
  refine leakHeld_iff.mpr ⟨x, hx, ?_, latched⟩
  rw [groupHolds, ← entry]
  exact holds

/-- R82: the latch is set. -/
theorem isolationLaw_latch {s : State} (lists : ZoneListsLaw s) (law : IsolationLaw s) :
    IsolationLaw (setEpoLatch s) := by
  have raised := latchRaised_zc s
  have before := touches_of_erase (latchRaised_others s)
  have tables : (latchRaised s).tables = s.tables := before .tables (by decide)
  have set : IsolationLaw (latchRaised s) := isolationLaw_congr law (by rw [raised]) (by rw [tables])
    (by rw [tables]) (by rw [raised]) (by rw [latchRaised_mail]) (before .leak (by decide))
  exact isolationLaw_tend (zoneLists_latchRaised lists) set (tends_epoZones lists)

/-- R76: BRIDGING is taken, and every INRUSH zone is shed. -/
theorem isolationLaw_bridging {s : State} (lists : ZoneListsLaw s) (law : IsolationLaw s) :
    IsolationLaw (takeBridging
      (modMail (fun m => { m with rideToZone := dropFirst isBridging m.rideToZone }) s)) := by
  have held : IsolationLaw (modZc (fun c => { c with ride := .bridging })
      (modMail (fun m => { m with rideToZone := dropFirst isBridging m.rideToZone }) s)) :=
    isolationLaw_congr law rfl rfl rfl rfl rfl rfl
  have listed : ZoneListsLaw (modZc (fun c => { c with ride := .bridging })
      (modMail (fun m => { m with rideToZone := dropFirst isBridging m.rideToZone }) s)) := lists
  generalize modMail (fun m => { m with rideToZone := dropFirst isBridging m.rideToZone }) s = u at held listed ⊢
  exact isolationLaw_congr (isolationLaw_tend listed held (.shedList _ listed)) rfl rfl rfl rfl rfl rfl

/-- R141, R160: after a reset every zone is OFF, and the Zone Controller holds the groups as the Leak Monitor
does. -/
theorem isolationLaw_reset (k : Kept) (s : State) : IsolationLaw (blocksReset k s) := by
  have off := zone_off_blocksReset k s
  refine isolationLaw_iff.mpr ⟨fun z _ => ⟨fun _ => off z, fun _ => .inl (off z)⟩, fun g _ => ?_⟩
  show (nth k.groups g == nth k.groups g) = true
  exact beq_self_eq_true _

/-- The law of isolation, with that of the zone lists, is kept over the commands. -/
theorem warded_isolation : Warded fun s => ZoneListsLaw s ∧ IsolationLaw s where
  lists law := law.1
  drift law drifts := ⟨zoneLists_of_watched law.1 drifts.same, isolationLaw_drift law.2 drifts⟩
  tend law tends := ⟨tends.lists, isolationLaw_tend law.1 law.2 tends⟩
  slots v law := ⟨zonal_zoneLists.slotCountWritten law.1, isolationLaw_slots law.1 law.2 v⟩
  write law writable := ⟨zoneLists_takeZoneWrite law.1 writable, isolationLaw_write law.2 writable⟩
  map c law clear := ⟨law.1, isolationLaw_map c law.2 clear⟩
  latch law := ⟨(tends_epoZones (may := fun _ => True) law.1).lists, isolationLaw_latch law.1 law.2⟩
  unlatch law := ⟨law.1, isolationLaw_congr law.2 rfl rfl rfl rfl rfl rfl⟩
  ride law _ _ := ⟨law.1, isolationLaw_congr law.2 rfl rfl rfl rfl rfl rfl⟩
  bridging law _ := ⟨zonal_zoneLists.takeBridging law.1, isolationLaw_bridging law.1 law.2⟩
  group {_ n _} law waiting := ⟨zonal_zoneLists.takeGroupNews n law.1, isolationLaw_group law.1 law.2 waiting⟩
  clear g law := ⟨zonal_zoneLists.leakClearRequest g law.1, isolationLaw_clear law.1 law.2 g⟩
  image _ law _ := ⟨law.1, isolationLaw_congr law.2 rfl rfl rfl rfl rfl rfl⟩
  reset k _ _ _ _ _ := ⟨zoneLists_blocksReset k _, isolationLaw_reset k _⟩

/-- Settles O13: no zone that a group holds enters the queue, since the Leak Monitor holds its group then too; a
change that enters ALARM leaves every zone in use that it comes to hold in ISOLATED or LOCKOUT. -/
theorem stepKeepsIsolation : Obligations.StepKeepsIsolation := by
  unfold Obligations.StepKeepsIsolation
  intro s t lists law h
  exact (warded_isolation.step ⟨lists, law⟩ t h).2

end Sys2Proof.Machine
